-- ==== Sys2Proof/Word.lean ====
section
/-! DEFINITION. The widths the manual treats as bits: a byte on a link, the unit clock and the record digest. -/

namespace Sys2Proof

/-- One character of a link, one byte of a layout (R175, R191). -/
abbrev Byte := BitVec 8

/-- A reading of the unit clock, in tenths of a second since start-up; 32 bits, wrapping (spec/00, R64). -/
abbrev Clock := BitVec 32

/-- A record digest, a 32-bit cyclic redundancy check (R33). -/
abbrev Digest := BitVec 32

end Sys2Proof
end

