-- ==== Sys2Proof/Syntax.lean ====
section
/-! DEFINITION. The commands of the unit: one constructor of `Instr` per row of spec/opcode_table.json, with its operands. -/

namespace Sys2Proof

/-- The two links, and so the two parties and the two stop lines (spec/00 "Parties and ownership", R23, R132). -/
inductive Link where
  | ship
  | terminal
  deriving DecidableEq, Repr

/-- The 60 record slots of the record set (R3, R22). Numbers are zero-based: `ship 0` is S01. -/
inductive RecordSlot where
  | vessel
  | ship (n : Fin 32)
  | shore (n : Fin 16)
  | meter (n : Fin 4)
  | parcel (n : Fin 6)
  | settings
  deriving DecidableEq, Repr

/-- The subject of a declaration: a parcel slot, or the unit as a whole (R113). -/
inductive Subject where
  | parcel (n : Fin 6)
  | unit
  deriving DecidableEq, Repr

/-- The six kinds of declaration (R113). -/
inductive DeclKind where
  | opening
  | resume
  | closing
  | abandon
  | release
  | callClear
  deriving DecidableEq, Repr

/-- The faults that end or follow a frame (R174, R178). `trailing` is the arrival of characters after a complete frame
without an idle gap between them. -/
inductive FrameFault where
  | framing
  | headerCrc
  | length
  | trailing
  | payloadCrc
  deriving DecidableEq, Repr

/-- What began a full reset (R203, R205). -/
inductive ResetCause where
  | powerUp
  | resetLine
  deriving DecidableEq, Repr

/-- The commands, in the order of spec/opcode_table.json. A request row is an intact frame (R178) taken from link `l`, with
its tag and its payload bytes; the request code is the row's own, and a selector that chooses a part is an operand. -/
inductive Instr where
  | status (l : Link) (tag : Byte) (payload : List Byte)
  | counterReset (l : Link) (tag : Byte) (payload : List Byte)
  | setLinkParameters (l : Link) (tag : Byte) (payload : List Byte)
  | postReadings (l : Link) (tag : Byte) (payload : List Byte)
  | proposeBegin (l : Link) (tag : Byte) (payload : List Byte)
  | proposeSegment (l : Link) (tag : Byte) (payload : List Byte)
  | endorse (l : Link) (tag : Byte) (payload : List Byte)
  | decline (l : Link) (tag : Byte) (payload : List Byte)
  | withdrawPending (l : Link) (tag : Byte) (payload : List Byte)
  | withdrawCurrent (l : Link) (tag : Byte) (payload : List Byte)
  | readRecordState (l : Link) (tag : Byte) (payload : List Byte)
  | declareOpen (l : Link) (tag : Byte) (payload : List Byte)
  | declareResume (l : Link) (tag : Byte) (payload : List Byte)
  | declareClose (l : Link) (tag : Byte) (payload : List Byte)
  | declareAbandon (l : Link) (tag : Byte) (payload : List Byte)
  | declareRelease (l : Link) (tag : Byte) (payload : List Byte)
  | declareCallClear (l : Link) (tag : Byte) (payload : List Byte)
  | suspend (l : Link) (tag : Byte) (payload : List Byte)
  | transferEnd (l : Link) (tag : Byte) (payload : List Byte)
  | readTank (l : Link) (tag : Byte) (payload : List Byte)
  | readParcel (l : Link) (part : Fin 7) (tag : Byte) (payload : List Byte)
  | readFinal (l : Link) (part : Fin 4) (tag : Byte) (payload : List Byte)
  | readTrail (l : Link) (tag : Byte) (payload : List Byte)
  | hold (l : Link) (tag : Byte) (payload : List Byte)
  | releaseHold (l : Link) (tag : Byte) (payload : List Byte)
  | unknownRequest (l : Link) (code selector tag : Byte) (payload : List Byte)
  | damagedFrame (l : Link) (fault : FrameFault)
  | overrun (l : Link)
  | idleGapInFrame (l : Link)
  | responseSend (l : Link)
  | responseSent (l : Link)
  | takeTankReading
  | takeShipCondition
  | takeLineConditions
  | assemblyTimeout (slot : RecordSlot)
  | auditTimerExpiry
  | auditWalkStep
  | sampleTimerExpiry (m : Fin 4)
  | intervalTimerExpiry
  | settleTimerExpiry (p : Fin 6)
  | declarationLapse (subject : Subject) (kind : DeclKind)
  | holdTimerExpiry (l : Link)
  | silenceTimeout (l : Link)
  | meterPulse (m : Fin 4)
  | stopLineAsserted (line : Link)
  | stopLineCleared (line : Link)
  | fullResetBegin (cause : ResetCause)
  | fullResetEnd
  | storeLoadStart
  | storeLoadRecord
  | storeLoadLinkParameters
  | storeLoadCheckpoint
  | storeWriteComplete
  | idleGap (l : Link)
  deriving DecidableEq, Repr

end Sys2Proof
end

