-- ==== Sys2Proof/Decode.lean ====
section
/-! DEFINITION. The decoder. The unit has no instruction words: its commands are frames, timer expiries and levels of its
inputs, and spec/opcode_table.json gives no row any bits. -/

/-- The command a word of `nbits` bits spells. No row of the table has bits, so no word spells one. -/
def Sys2Proof.decodeTableWord (_nbits _w : Nat) : Option Sys2Proof.Instr := none
end

