-- ==== Sys2Proof/Machine/Bytes.lean ====
section
/-! DEFINITION. Byte order, two's complement and the two cyclic redundancy checks. -/

namespace Sys2Proof.Machine

open Sys2Proof

/-- The `n` bytes of `v`, least significant byte first (R175). -/
def leBytes : Nat → Nat → List Byte
  | 0, _ => []
  | n + 1, v => BitVec.ofNat 8 v :: leBytes n (v / 256)

/-- The `n` bytes of a signed field, two's complement, least significant byte first (R190). -/
def leInt (n : Nat) (v : Int) : List Byte :=
  leBytes n (v % (256 ^ n : Nat)).toNat

/-- The value of bytes sent least significant byte first. -/
def ofLe : List Byte → Nat
  | [] => 0
  | b :: bs => b.toNat + 256 * ofLe bs

/-- The signed value of bytes in two's complement, least significant byte first (R190). -/
def ofLeSigned (bs : List Byte) : Int :=
  if 2 * ofLe bs < 256 ^ bs.length then (ofLe bs : Int) else (ofLe bs : Int) - (256 ^ bs.length : Nat)

/-- One byte that is 1 or 0. -/
def flagByte (b : Bool) : Byte := if b then 1 else 0

/-- A mask whose bit i is the i-th flag, bit 0 first. -/
def flagMask : List Bool → Nat
  | [] => 0
  | b :: bs => (if b then 1 else 0) + 2 * flagMask bs

/-- The bytes of an optional item; an absent item is sent as zero bytes (R192). -/
def optionBytes (n : Nat) (v : Option Nat) : List Byte := leBytes n (v.getD 0)

/-- The bytes of an optional signed item; an absent item is sent as zero bytes (R192). -/
def optionInt (n : Nat) (v : Option Int) : List Byte := leInt n (v.getD 0)

/-- The first `n` bytes and the rest, where there are that many. -/
def takeBytes (n : Nat) (bs : List Byte) : Option (List Byte × List Byte) :=
  if n ≤ bs.length then some (bs.take n, bs.drop n) else none

/-- An unsigned field of `n` bytes and the rest. -/
def takeNat (n : Nat) (bs : List Byte) : Option (Nat × List Byte) :=
  match takeBytes n bs with
  | some (field, rest) => some (ofLe field, rest)
  | none => none

/-- A signed field of `n` bytes and the rest. -/
def takeInt (n : Nat) (bs : List Byte) : Option (Int × List Byte) :=
  match takeBytes n bs with
  | some (field, rest) => some (ofLeSigned field, rest)
  | none => none

/-- `count` unsigned fields of `n` bytes each and the rest. -/
def takeNats (n : Nat) : Nat → List Byte → Option (List Nat × List Byte)
  | 0, bs => some ([], bs)
  | count + 1, bs =>
    match takeNat n bs with
    | some (v, rest) =>
      match takeNats n count rest with
      | some (vs, rest') => some (v :: vs, rest')
      | none => none
    | none => none

/-- One bit into the digest register, which shifts toward its least significant end (R33). -/
def digestBit (r : Digest) (b : Bool) : Digest :=
  if r.getLsbD 0 != b then (r >>> 1) ^^^ 0x82F63B78 else r >>> 1

/-- One byte into the digest register, least significant bit first (R33). -/
def digestByte (r : Digest) (b : Byte) : Digest :=
  [0, 1, 2, 3, 4, 5, 6, 7].foldl (fun r i => digestBit r (b.getLsbD i)) r

/-- The digest of a byte sequence (R33). -/
def digest (bs : List Byte) : Digest := ~~~ bs.foldl digestByte 0xFFFFFFFF

/-- One bit into the frame CRC register, which shifts toward its most significant end (R177). -/
def crcBit (r : BitVec 16) (b : Bool) : BitVec 16 :=
  if r.getLsbD 15 != b then (r <<< 1) ^^^ 0x8005 else r <<< 1

/-- One byte into the frame CRC register, most significant bit first (R177). -/
def crcByte (r : BitVec 16) (b : Byte) : BitVec 16 :=
  [7, 6, 5, 4, 3, 2, 1, 0].foldl (fun r i => crcBit r (b.getLsbD i)) r

/-- The CRC of a frame's header or payload (R177). -/
def frameCrc (bs : List Byte) : BitVec 16 := bs.foldl crcByte 0xFFFF

end Sys2Proof.Machine
end

