-- ==== Sys2Proof/Machine/State.lean ====
section
/-! DEFINITION. The state of the unit as plain data: every block of spec/00 "Block overview" with everything the chapters
say it holds, and the state right after a full reset. Fault and Refusal, the reasons a step could stop, stand here too. -/

namespace Sys2Proof.Machine

open Sys2Proof

/-! ### Reasons to stop -/

/-- The faults of the machine. There are none: the unit answers, reports or ignores whatever reaches it (R178, R189, R198),
and every command has a next state in every state. Safe: no command stops. -/
inductive Fault where
  deriving DecidableEq, Repr

/-- The refusals of the machine. -/
inductive Refusal where
  /-- Raised by the dispatch alone, for a command that has no meaning yet. Safe: the machine stops where the hardware goes
  on. No arm of the dispatch raises it: every command has its meaning. -/
  | notModelled (mnemonic : String)
  deriving DecidableEq, Repr

/-! ### Results of requests (R189) -/

inductive ResultCode where
  | done
  | accepted
  | awaitingCounterpart
  | format
  | range
  | unknownRequest
  | owner
  | state
  | bound
  | inUse
  | duplicate
  | notReady
  | intakeFull
  | poolFull
  | segment
  | stopActive
  | settling
  | seqAhead
  | counterpartPresent
  deriving DecidableEq, Repr

/-! ### Records (chapters 1, 2, 5, 6) -/

/-- One point of a level table: a level in millimetres and the volume in litres at it (R9). -/
structure Breakpoint where
  level : Nat
  volume : Nat
  deriving DecidableEq, Repr

/-- The vessel record (R4). -/
structure VesselRecord where
  name : List Byte
  lbp : Nat
  vef : Nat
  deriving DecidableEq, Repr

/-- A ship tank record less its level table (R5). -/
structure ShipTankRecord where
  name : List Byte
  referenceHeight : Nat
  longitudinalOffset : Int
  transverseOffset : Int
  probes : List Nat
  deriving DecidableEq, Repr

/-- A shore tank record less its level table (R6). -/
structure ShoreTankRecord where
  name : List Byte
  probes : List Nat
  deriving DecidableEq, Repr

/-- A meter record (R88). -/
structure MeterRecord where
  kFactor : Nat
  meterFactor : Nat
  maxRate : Nat
  deriving DecidableEq, Repr

/-- The direction of a parcel, as seen from the ship (R106). -/
inductive Direction where
  | load
  | discharge
  deriving DecidableEq, Repr

/-- A parcel record (R106). A tuning field sent absent is `none` (R107). Tank and meter numbers are zero-based. -/
structure ParcelRecord where
  grade : List Byte
  direction : Direction
  shipTanks : List (Fin 32)
  shoreTanks : List (Fin 16)
  meter : Option (Fin 4)
  a : Nat
  b : Nat
  applyVef : Bool
  baseMinimum : Option Nat
  watchBand : Option Nat
  alarmBand : Option Nat
  declareCount : Option Nat
  clearCount : Option Nat
  deriving DecidableEq, Repr

/-- The unit settings record, every field in seconds (R41). -/
structure Settings where
  interval : Nat
  concurrenceTimeout : Nat
  settleTime : Nat
  auditPeriod : Nat
  shipStaleness : Nat
  shoreStaleness : Nat
  silenceLimit : Nat
  assemblyTimeout : Nat
  deriving DecidableEq, Repr

/-- The content header of a record version, by kind (R191). -/
inductive Content where
  | vessel (r : VesselRecord)
  | shipTank (r : ShipTankRecord)
  | shoreTank (r : ShoreTankRecord)
  | meter (r : MeterRecord)
  | parcel (r : ParcelRecord)
  | settings (r : Settings)
  deriving DecidableEq, Repr

/-- A current version: IN_FORCE, or SUSPECT when `suspect` holds (R3, R22). `points` is its level table, empty for a kind
without one; it holds as many points of the pool as the list is long (R12). -/
structure CurrentVersion where
  suspect : Bool
  content : Content
  points : List Breakpoint
  digest : Digest
  auditCount : Nat
  deriving DecidableEq, Repr

/-- A running timer: its start on the unit clock and its duration in tenths. -/
structure Timer where
  start : Clock
  duration : Nat
  deriving DecidableEq, Repr

/-- A pending version: ASSEMBLING while `assembly` holds its assembly timer, PROPOSED when it is `none` (R26, R27).
`declaredPoints` is the number of pool points it holds (R12); `restoring` says it was taken as a restoring proposal (R40). -/
structure PendingVersion where
  assembly : Option Timer
  content : Content
  declaredPoints : Nat
  declaredDigest : Digest
  proposer : Link
  points : List Breakpoint
  received : Nat
  expected : Nat
  restoring : Bool
  deriving DecidableEq, Repr

/-- The details of a rejection (R24). -/
inductive RejectDetail where
  | levelRange
  | firstLevel
  | levelOrder
  | volumeOrder
  | volumeTop
  | pointCount
  | digestMismatch
  | timeout
  | withdrawn
  | counterMismatch
  | declined
  deriving DecidableEq, Repr

/-- The last outcome of a slot (R24). -/
inductive LastOutcome where
  | none
  | enteredForce
  | restored
  | rejected (detail : RejectDetail)
  | removed
  | suspect
  deriving DecidableEq, Repr

/-- A record slot (R3, R22, R24). -/
structure Slot where
  current : Option CurrentVersion
  pending : Option PendingVersion
  last : LastOutcome
  deriving DecidableEq, Repr

/-! ### Readings and figures (chapters 3, 4) -/

/-- The 48 tanks (R3). -/
inductive TankId where
  | ship (n : Fin 32)
  | shore (n : Fin 16)
  deriving DecidableEq, Repr

/-- The fields of a ship or shore tank reading: `gauge` is the ullage of a ship tank and the level of a shore tank; the
shell temperature is a shore tank's alone (R46, R47). -/
structure TankFields where
  gauge : Nat
  water : Option Nat
  probe1 : Option Int
  probe2 : Option Int
  probe3 : Option Int
  shell : Option Int
  deriving DecidableEq, Repr

/-- The fields of a ship condition (R48). -/
structure ConditionFields where
  fore : Nat
  aft : Nat
  listSlope : Int
  deriving DecidableEq, Repr

/-- A reading of one of the four kinds (R46 to R49). -/
inductive Reading where
  | shipTank (n : Fin 32) (f : TankFields)
  | shoreTank (n : Fin 16) (f : TankFields)
  | shipCondition (f : ConditionFields)
  | lineConditions (m : Fin 4) (temperature : Int)
  deriving DecidableEq, Repr

/-- An entry of an intake queue: a reading and its arrival time (R53). -/
structure IntakeEntry where
  reading : Reading
  arrival : Clock
  deriving DecidableEq, Repr

/-- The latest reading of a tank (R62). -/
structure TankReading where
  fields : TankFields
  arrival : Clock
  deriving DecidableEq, Repr

/-- The latest ship condition (R63). -/
structure ShipCondition where
  fields : ConditionFields
  arrival : Clock
  deriving DecidableEq, Repr

/-- The latest line conditions of a meter (R63). -/
structure LineConditions where
  temperature : Int
  arrival : Clock
  deriving DecidableEq, Repr

/-- The status of a tank figure (R66). -/
inductive FigureStatus where
  | none
  | current
  | held
  deriving DecidableEq, Repr

/-- The marks of a tank figure (R67). -/
structure Marks where
  levelClamped : Bool
  trimClamped : Bool
  tempHeld : Bool
  noTemp : Bool
  vcfClamped : Bool
  tableHeld : Bool
  deriving DecidableEq, Repr

/-- The volumes of a figure, litres, with the arrival time of the reading they came from (R66). -/
structure Volumes where
  tov : Int
  fw : Int
  nov : Int
  readingTime : Clock
  deriving DecidableEq, Repr

/-- A tank figure (R66). -/
structure Figure where
  status : FigureStatus
  volumes : Option Volumes
  temperature : Option Int
  shell : Option Int
  vcf : Option Int
  gsv : Option Int
  marks : Marks
  deriving DecidableEq, Repr

/-- What the engine keeps for one tank (R62, R66). -/
structure Tank where
  reading : Option TankReading
  figure : Figure
  deriving DecidableEq, Repr

/-! ### Meter channels (chapter 5) -/

/-- The accumulator set of a bound channel, in millilitres (R99). -/
structure AccumulatorSet where
  parcel : Fin 6
  indicated : Nat
  gross : Nat
  standard : Nat
  interrupted : Bool
  overRate : Bool
  lineTempMissing : Bool
  deriving DecidableEq, Repr

/-- A meter channel (R93), with the latest line conditions the engine keeps for its meter (R63). `timer` is the start of the
running sample timer. -/
structure Channel where
  pulses : BitVec 32
  lastCount : BitVec 32
  lastTime : Clock
  timer : Option Clock
  overRate : Bool
  lastLineVcf : Option Int
  accumulators : Option AccumulatorSet
  lineConditions : Option LineConditions
  deriving DecidableEq, Repr

/-! ### Parcels and comparisons (chapters 6, 7) -/

/-- The states of a parcel slot (R109). -/
inductive ParcelState where
  | free
  | proposed
  | defined
  | transfer
  | suspended
  | settling
  | closed
  | abandoned
  deriving DecidableEq, Repr

/-- The suspension reasons (R123). -/
inductive SuspendReason where
  | shipRequest
  | terminalRequest
  | shipStop
  | terminalStop
  | recovered
  deriving DecidableEq, Repr

/-- The opening figures (R120). -/
structure OpeningFigures where
  time : Clock
  shipVolumes : List Int
  shoreVolumes : List Int
  shipTotal : Int
  shoreTotal : Int
  vef : Nat
  deriving DecidableEq, Repr

/-- The closing figures (R128). -/
structure ClosingFigures where
  time : Clock
  shipVolumes : List Int
  shoreVolumes : List Int
  shipTotal : Int
  shoreTotal : Int
  metered : Option Int
  deriving DecidableEq, Repr

/-- One item of the closing figures; a tank is named by its position on its list, from 0 (R128). -/
inductive ClosingItem where
  | time
  | shipTank (position : Nat)
  | shoreTank (position : Nat)
  | shipTotal
  | shoreTotal
  | metered
  deriving DecidableEq, Repr

/-- The settle timer: settle time in seconds, RUNNING or EXPIRED (R124). -/
structure SettleTimer where
  start : Clock
  settleTime : Nat
  expired : Bool
  deriving DecidableEq, Repr

/-- The graded results of a comparison (R141). -/
inductive Grade where
  | within
  | watch
  | outside
  deriving DecidableEq, Repr

/-- The causes of NOT_EVALUATED (R140, R142). -/
inductive Cause where
  | incomplete
  | belowMinimum
  | meterWaiting
  deriving DecidableEq, Repr

/-- The result of one comparison at one evaluation (R143). -/
inductive CompResult where
  | graded (g : Grade)
  | notEvaluated (c : Cause)
  deriving DecidableEq, Repr

/-- An entry of a comparison history (R145). -/
structure HistoryEntry where
  grade : Grade
  time : Clock
  deriving DecidableEq, Repr

/-- The last result of a comparison (R143). -/
structure LastResult where
  result : CompResult
  difference : Option Int
  ratio : Option Int
  entered : Bool
  time : Clock
  deriving DecidableEq, Repr

/-- The four counters of a comparison (R148). -/
structure ResultCounters where
  within : Nat
  watch : Nat
  outside : Nat
  notEvaluated : Nat
  deriving DecidableEq, Repr

/-- One comparison of a parcel (R143, R145, R146, R148). -/
structure Comparison where
  history : List HistoryEntry
  discrepant : Bool
  last : Option LastResult
  counters : ResultCounters
  deriving DecidableEq, Repr

/-- The kind of an evaluation (R137). -/
inductive EvalKind where
  | clean
  | degraded
  | incomplete
  deriving DecidableEq, Repr

/-- The tank quantities of an evaluation, litres (R138, R139). -/
structure Quantities where
  shipTotal : Int
  shoreTotal : Int
  qShip : Int
  qAdj : Int
  qShore : Int
  deriving DecidableEq, Repr

/-- The comparison items of a parcel from DEFINED to ABANDONED (R143, R148). -/
structure CompItems where
  ship : Comparison
  meter : Option Comparison
  lastQuantities : Option Quantities
  lastQmeter : Option Int
  lastKind : Option EvalKind
  evaluations : Nat
  degraded : Nat
  deriving DecidableEq, Repr

/-- One comparison's part of the final record (R157). -/
structure FinalComparison where
  difference : Int
  ratio : Option Int
  result : CompResult
  discrepant : Bool
  counters : ResultCounters
  deriving DecidableEq, Repr

/-- The opening and closing GSV of one tank in the final record (R157). -/
structure FinalTank (n : Nat) where
  tank : Fin n
  opening : Int
  closing : Int
  deriving DecidableEq, Repr

/-- The metered figure of the final record with its flags (R157). -/
structure FinalMeter where
  metered : Int
  interrupted : Bool
  overRate : Bool
  lineTempMissing : Bool
  comparison : FinalComparison
  deriving DecidableEq, Repr

/-- The final record of a closed parcel (R157). -/
structure FinalRecord where
  parcel : Fin 6
  grade : List Byte
  direction : Direction
  openingTime : Clock
  closingTime : Clock
  shipTanks : List (FinalTank 32)
  shoreTanks : List (FinalTank 16)
  openingShipTotal : Int
  openingShoreTotal : Int
  closingShipTotal : Int
  closingShoreTotal : Int
  qShip : Int
  vefUsed : Option Nat
  qAdj : Int
  qShore : Int
  ship : FinalComparison
  meter : Option FinalMeter
  evaluations : Nat
  suspensions : Nat
  degraded : Nat
  deriving DecidableEq, Repr

/-- A parcel slot (R109), with the comparison items and the final record the reconciliation unit holds for it. -/
structure Parcel where
  state : ParcelState
  opening : Option OpeningFigures
  closing : Option ClosingFigures
  reason : Option SuspendReason
  suspensions : Option Nat
  settle : Option SettleTimer
  comparisons : Option CompItems
  final : Option FinalRecord
  deriving DecidableEq, Repr

/-- What the reconciliation unit takes up for a restored slot at the end of the load: its comparison items and its final
record (R159). -/
structure RestoredItems where
  comparisons : Option CompItems
  final : Option FinalRecord
  deriving DecidableEq, Repr

/-- An entry of the concurrence table; the lapse timeout is in seconds (R113). -/
structure Concurrence where
  subject : Subject
  kind : DeclKind
  first : Link
  taken : Clock
  lapse : Nat
  deriving DecidableEq, Repr

/-! ### Trail (chapter 8) -/

/-- The detail of a PARCEL_STATE event (R162). For SUSPENDED the record carries reason and count, as R123 says; the layout of
R194 and R195 has bytes for the reason alone (log 25). -/
inductive StateDetail where
  | plain
  | reason (r : SuspendReason) (count : Nat)
  | unilateral (b : Bool)
  deriving DecidableEq, Repr

/-- The change a LINK_STATE event reports (R162). -/
inductive LinkChange where
  | lost
  | restored
  deriving DecidableEq, Repr

/-- Why the store load drops an object (R162). -/
inductive DropReason where
  | digestFailed
  | poolFull
  | checkpointFailed
  deriving DecidableEq, Repr

/-- What an INTERVAL record says of one comparison (R144). -/
structure IntervalResult where
  result : CompResult
  ratio : Option Int
  discrepant : Bool
  changed : Bool
  deriving DecidableEq, Repr

/-- An INTERVAL record, less sequence and time (R144, R163). -/
structure IntervalRecord where
  parcel : Fin 6
  state : ParcelState
  qAdj : Int
  qShore : Int
  qMeter : Option Int
  ship : IntervalResult
  meter : Option IntervalResult
  mark : EvalKind
  deriving DecidableEq, Repr

/-- What a trail record says, less its sequence and time (R162, R163). -/
inductive TrailBody where
  | recordOutcome (slot : RecordSlot) (outcome : LastOutcome)
  | auditFailure (slot : RecordSlot)
  | parcelState (p : Fin 6) (state : ParcelState) (detail : StateDetail)
  | declarationLapse (subject : Subject) (kind : DeclKind) (first : Link)
  | stopLine (line : Link) (asserted : Bool)
  | callClear
  | linkState (l : Link) (change : LinkChange)
  | recovery (cause : ResetCause)
  | storeDrop (slot : RecordSlot) (reason : DropReason)
  | trailRestart
  | interval (r : IntervalRecord)
  deriving DecidableEq, Repr

/-- A trail record (R160). -/
structure TrailRecord where
  seq : Nat
  time : Clock
  body : TrailBody
  deriving DecidableEq, Repr

/-! ### Hold buffers (chapter 8) -/

/-- The live figures of a parcel (R154). -/
structure LiveFigures where
  quantities : Option Quantities
  qMeter : Option Int
  deriving DecidableEq, Repr

/-- The modes of a meter channel (R93). -/
inductive ChannelMode where
  | idle
  | running
  | waiting
  deriving DecidableEq, Repr

/-- The meter part of a parcel's figures (R104). -/
structure MeterPart where
  meter : Fin 4
  mode : ChannelMode
  accumulators : AccumulatorSet
  metered : Int
  overRateMark : Bool
  lastLineVcf : Option Int
  lineConditions : Option LineConditions
  lineStale : Bool
  deriving DecidableEq, Repr

/-- A tank entry of a hold copy (R167). -/
structure TankCopy where
  reading : Option TankReading
  figure : Figure
  stale : Bool
  deriving DecidableEq, Repr

/-- The latest ship condition as a view reports it, with the two slopes and its STALE test (R87, R167). -/
structure ConditionView where
  condition : Option ShipCondition
  trimSlope : Int
  listSlope : Int
  stale : Bool
  deriving DecidableEq, Repr

/-- A parcel entry of a hold copy (R167). -/
structure ParcelCopy where
  state : ParcelState
  reason : Option SuspendReason
  suspensions : Option Nat
  settle : Option SettleTimer
  opening : Option OpeningFigures
  live : Option LiveFigures
  comparisons : Option CompItems
  meter : Option MeterPart
  deriving DecidableEq, Repr

/-- A present hold buffer; the hold timer runs while it is present (R167, R168). The timeout is in seconds. -/
structure HoldCopy where
  time : Clock
  timeout : Nat
  tanks : Vector TankCopy 48
  condition : ConditionView
  parcels : Vector ParcelCopy 6
  deriving DecidableEq, Repr

/-! ### Links (chapter 9) -/

/-- The error report of a link (R182). -/
structure ErrorReport where
  headerCrc : Bool
  payloadCrc : Bool
  length : Bool
  framing : Bool
  overrun : Bool
  readingDiscarded : Bool
  wasLost : Bool
  holdExpired : Bool
  deriving DecidableEq, Repr

/-- A link state (R184). -/
inductive LinkCondition where
  | idle
  | active
  | lost
  deriving DecidableEq, Repr

/-- The decided answer of a request, waiting for step 4 of R180. -/
structure Answer where
  code : Byte
  tag : Byte
  result : ResultCode
  body : List Byte
  deriving DecidableEq, Repr

/-- A link controller: free; busy with a decided answer; or busy sending the characters of a response (R179, R180). -/
inductive Controller where
  | free
  | answering (a : Answer)
  | sending (frame : List Byte)
  deriving DecidableEq, Repr

/-- One link: its controller, intake queue, link parameters and hold buffer. `discarding` says that the receiver discards
characters up to the next idle gap (R174, R178); `lastIntact` is the silence timer (R184). -/
structure LinkUnit where
  discarding : Bool
  controller : Controller
  counter : Nat
  report : ErrorReport
  state : LinkCondition
  lastIntact : Option Clock
  restoreCount : Nat
  threshold : Nat
  holdTimeout : Nat
  intake : List IntakeEntry
  hold : Option HoldCopy
  deriving DecidableEq, Repr

/-! ### Store (chapter 10) -/

/-- The 68 stored objects (R197). -/
inductive StoreObject where
  | record (slot : RecordSlot)
  | checkpoint (p : Fin 6)
  | linkParameters (l : Link)
  deriving DecidableEq, Repr

/-- A parcel checkpoint (R199). -/
structure Checkpoint where
  state : ParcelState
  recordDigest : Option Digest
  reason : Option SuspendReason
  suspensions : Option Nat
  opening : Option OpeningFigures
  closing : Option ClosingFigures
  final : Option FinalRecord
  accumulators : Option AccumulatorSet
  comparisons : Option CompItems
  deriving DecidableEq, Repr

/-- The content of a copy or of a write, with the check held with it (R197, R198). -/
inductive StoredContent where
  | record (digest : Digest) (content : Content) (points : List Breakpoint)
  | checkpoint (c : Checkpoint) (check : Digest)
  | linkParameters (threshold holdTimeout : Nat) (check : Digest)
  | removal
  deriving DecidableEq, Repr

/-- A copy in a place of the store (R197). -/
structure StoreCopy where
  generation : BitVec 32
  headerCheck : Digest
  content : StoredContent
  deriving DecidableEq, Repr

/-- A place of a stored object. `failing` holds a copy whose bytes pass no check: a write cut short (R198, R202). -/
inductive Place where
  | empty
  | failing
  | copy (c : StoreCopy)
  deriving DecidableEq, Repr

/-- The two places of a stored object (R197). -/
structure ObjectPlaces where
  first : Place
  second : Place
  deriving DecidableEq, Repr

/-- A write given to the checkpoint writer (R200). -/
structure StoreWrite where
  object : StoreObject
  content : StoredContent
  deriving DecidableEq, Repr

/-! ### The unit -/

/-- The unit state; `inactive` lasts from the beginning of a full reset to its end (R203). -/
inductive UnitState where
  | inactive
  | starting
  | running
  deriving DecidableEq, Repr

/-- The next step of the store load (R205, R206). -/
inductive LoadPhase where
  | start
  | records (next : Fin 60)
  | linkParameters (next : Link)
  | checkpoints (next : Fin 6)
  | complete
  deriving DecidableEq, Repr

/-- Everything the unit holds, and the queue of waiting commands. `powered` says that the supply is within its operating level
(R196, R203); `restored` holds, during the load, what the reconciliation unit takes up at its end (R159, R208). -/
structure State where
  unit : UnitState
  resetCause : ResetCause
  powered : Bool
  load : LoadPhase
  clock : Clock
  shipLink : LinkUnit
  terminalLink : LinkUnit
  lastServed : Link
  slots : Vector Slot 60
  poolFree : Nat
  auditTimer : Option Timer
  walk : Option (Fin 60)
  tanks : Vector Tank 48
  shipCondition : Option ShipCondition
  channels : Vector Channel 4
  parcels : Vector Parcel 6
  restored : Vector RestoredItems 6
  concurrence : List Concurrence
  shipStop : Bool
  terminalStop : Bool
  intervalTimer : Option Timer
  alarm : Bool
  trail : List TrailRecord
  newest : Nat
  store : Vector ObjectPlaces 68
  writeQueue : List StoreWrite
  inFlight : Option StoreWrite
  pending : List Instr
  deriving DecidableEq, Repr

/-! ### After a full reset -/

/-- No kind present (R182). -/
def ErrorReport.empty : ErrorReport :=
  { headerCrc := false, payloadCrc := false, length := false, framing := false, overrun := false,
    readingDiscarded := false, wasLost := false, holdExpired := false }

/-- A link after a full reset (R183, R184, R187, R179, R53, R167). -/
def LinkUnit.reset : LinkUnit :=
  { discarding := false, controller := .free, counter := 0, report := .empty, state := .idle, lastIntact := none,
    restoreCount := 0, threshold := 48, holdTimeout := 120, intake := [], hold := none }

/-- An empty slot (R3, R24). -/
def Slot.reset : Slot := { current := none, pending := none, last := .none }

/-- The empty set of marks (R67). -/
def Marks.empty : Marks :=
  { levelClamped := false, trimClamped := false, tempHeld := false, noTemp := false, vcfClamped := false,
    tableHeld := false }

/-- A figure NONE with no field present and no marks (R66, R82). -/
def Figure.cleared : Figure :=
  { status := .none, volumes := none, temperature := none, shell := none, vcf := none, gsv := none, marks := .empty }

/-- A tank with no latest reading (R62, R83). -/
def Tank.reset : Tank := { reading := none, figure := .cleared }

/-- A channel after a full reset (R93, R63). -/
def Channel.reset : Channel :=
  { pulses := 0, lastCount := 0, lastTime := 0, timer := none, overRate := false, lastLineVcf := none,
    accumulators := none, lineConditions := none }

/-- A FREE parcel slot with no items (R109, R112). -/
def Parcel.reset : Parcel :=
  { state := .free, opening := none, closing := none, reason := none, suspensions := none, settle := none,
    comparisons := none, final := none }

/-- Nothing to take up (R159). -/
def RestoredItems.empty : RestoredItems := { comparisons := none, final := none }

/-- An object that was never written (R197). -/
def ObjectPlaces.reset : ObjectPlaces := { first := .empty, second := .empty }

/-- The unit right after a full reset (R203): STARTING, unit clock 0, every volatile item at its reset value. The store is
that of a unit never written (R197) and the cause POWER_UP: log 7. No command waits. -/
def State.reset : State :=
  { unit := .starting, resetCause := .powerUp, powered := true, load := .start, clock := 0, shipLink := .reset, terminalLink := .reset,
    lastServed := .terminal, slots := Vector.replicate 60 .reset, poolFree := 8192, auditTimer := none, walk := none,
    tanks := Vector.replicate 48 .reset, shipCondition := none, channels := Vector.replicate 4 .reset,
    parcels := Vector.replicate 6 .reset, restored := Vector.replicate 6 .empty, concurrence := [], shipStop := false, terminalStop := false,
    intervalTimer := none, alarm := false, trail := [], newest := 0, store := Vector.replicate 68 .reset,
    writeQueue := [], inFlight := none, pending := [] }

end Sys2Proof.Machine
end

