-- ==== Sys2Proof/Machine/Codes.lean ====
section
/-! DEFINITION. The coded fields of the links (R195), the numbering of slots, tanks and stored objects, and the walk order. -/

namespace Sys2Proof.Machine

open Sys2Proof

/-- The other link, the counterpart (spec/00 "Terms"). -/
def otherLink : Link → Link
  | .ship => .terminal
  | .terminal => .ship

/-- ship 1, terminal 2. -/
def linkCode : Link → Byte
  | .ship => 1
  | .terminal => 2

def resultCode : ResultCode → Byte
  | .done => 0x00
  | .accepted => 0x01
  | .awaitingCounterpart => 0x02
  | .format => 0x10
  | .range => 0x11
  | .unknownRequest => 0x12
  | .owner => 0x13
  | .state => 0x14
  | .bound => 0x15
  | .inUse => 0x16
  | .duplicate => 0x17
  | .notReady => 0x18
  | .intakeFull => 0x19
  | .poolFull => 0x1A
  | .segment => 0x1B
  | .stopActive => 0x1C
  | .settling => 0x1D
  | .seqAhead => 0x1E
  | .counterpartPresent => 0x1F

def linkConditionCode : LinkCondition → Byte
  | .idle => 0
  | .active => 1
  | .lost => 2

/-- STARTING 0, RUNNING 1. No status block is built while the unit is inactive (R203). -/
def unitStateCode : UnitState → Byte
  | .running => 1
  | .starting => 0
  | .inactive => 0

def rejectCode : RejectDetail → Byte
  | .levelRange => 1
  | .firstLevel => 2
  | .levelOrder => 3
  | .volumeOrder => 4
  | .volumeTop => 5
  | .pointCount => 6
  | .digestMismatch => 7
  | .timeout => 8
  | .withdrawn => 9
  | .counterMismatch => 10
  | .declined => 11

def outcomeCode : LastOutcome → Byte
  | .none => 0
  | .enteredForce => 1
  | .restored => 2
  | .rejected _ => 3
  | .removed => 4
  | .suspect => 5

def outcomeDetailCode : LastOutcome → Byte
  | .rejected d => rejectCode d
  | _ => 0

def parcelStateCode : ParcelState → Byte
  | .free => 0
  | .proposed => 1
  | .defined => 2
  | .transfer => 3
  | .suspended => 4
  | .settling => 5
  | .closed => 6
  | .abandoned => 7

def reasonCode : SuspendReason → Byte
  | .shipRequest => 1
  | .terminalRequest => 2
  | .shipStop => 3
  | .terminalStop => 4
  | .recovered => 5

def figureStatusCode : FigureStatus → Byte
  | .none => 0
  | .current => 1
  | .held => 2

def channelModeCode : ChannelMode → Byte
  | .idle => 0
  | .running => 1
  | .waiting => 2

def gradeCode : Grade → Byte
  | .within => 1
  | .watch => 2
  | .outside => 3

def resultByte : CompResult → Byte
  | .graded g => gradeCode g
  | .notEvaluated _ => 4

def causeCode : Cause → Byte
  | .incomplete => 1
  | .belowMinimum => 2
  | .meterWaiting => 3

def causeByte : CompResult → Byte
  | .graded _ => 0
  | .notEvaluated c => causeCode c

def evalKindCode : EvalKind → Byte
  | .clean => 1
  | .degraded => 2
  | .incomplete => 3

/-- The interval mark: none 0, DEGRADED 1, INCOMPLETE 2. -/
def intervalMarkCode : EvalKind → Byte
  | .clean => 0
  | .degraded => 1
  | .incomplete => 2

def declKindCode : DeclKind → Byte
  | .opening => 1
  | .resume => 2
  | .closing => 3
  | .abandon => 4
  | .release => 5
  | .callClear => 6

def dropCode : DropReason → Byte
  | .digestFailed => 1
  | .poolFull => 2
  | .checkpointFailed => 3

def resetCauseCode : ResetCause → Byte
  | .powerUp => 1
  | .resetLine => 2

def directionCode : Direction → Byte
  | .load => 0
  | .discharge => 1

/-- The record identifiers (R195). -/
def slotCode : RecordSlot → Byte
  | .vessel => 0x00
  | .ship n => BitVec.ofNat 8 (0x01 + n.val)
  | .shore n => BitVec.ofNat 8 (0x31 + n.val)
  | .meter n => BitVec.ofNat 8 (0x51 + n.val)
  | .parcel n => BitVec.ofNat 8 (0x61 + n.val)
  | .settings => 0x70

/-- The number `v`, counted from 1, as one of `n`. -/
def fromOne (n v : Nat) : Option (Fin n) :=
  if h : v - 1 < n then if 1 ≤ v then some ⟨v - 1, h⟩ else none else none

/-- The slot a record identifier names (R195). -/
def slotOfCode (b : Byte) : Option RecordSlot :=
  let v := b.toNat
  if v = 0x00 then some .vessel
  else if v ≤ 0x20 then (fromOne 32 v).map .ship
  else if v ≤ 0x40 then (fromOne 16 (v - 0x30)).map .shore
  else if v ≤ 0x54 then (fromOne 4 (v - 0x50)).map .meter
  else if v ≤ 0x66 then (fromOne 6 (v - 0x60)).map .parcel
  else if v = 0x70 then some .settings
  else none

/-- The tank of a tank slot. -/
def tankOfSlot : RecordSlot → Option TankId
  | .ship n => some (.ship n)
  | .shore n => some (.shore n)
  | _ => none

/-- The record slot of a tank. -/
def slotOfTank : TankId → RecordSlot
  | .ship n => .ship n
  | .shore n => .shore n

/-- The tank a tank identifier names (R188, R195). -/
def tankOfCode (b : Byte) : Option TankId := (slotOfCode b).bind tankOfSlot

/-- The tank identifier of a tank. -/
def tankCode (t : TankId) : Byte := slotCode (slotOfTank t)

/-- The parcel slot a payload byte 1..6 names (R188). -/
def parcelOfByte (b : Byte) : Option (Fin 6) := fromOne 6 b.toNat

/-- The parcel slot as it is sent, 1..6. -/
def parcelByte (p : Fin 6) : Byte := BitVec.ofNat 8 (p.val + 1)

/-- The place of a slot in the walk and load order: vessel, S01..S32, T01..T16, M1..M4, P1..P6, U (R43, R205). -/
def slotIndex : RecordSlot → Fin 60
  | .vessel => 0
  | .ship n => ⟨1 + n.val, by omega⟩
  | .shore n => ⟨33 + n.val, by omega⟩
  | .meter n => ⟨49 + n.val, by omega⟩
  | .parcel n => ⟨53 + n.val, by omega⟩
  | .settings => 59

/-- The slot at a place of the walk and load order. -/
def slotAt (i : Fin 60) : RecordSlot :=
  if h0 : i.val = 0 then .vessel
  else if h1 : i.val < 33 then .ship ⟨i.val - 1, by omega⟩
  else if h2 : i.val < 49 then .shore ⟨i.val - 33, by omega⟩
  else if h3 : i.val < 53 then .meter ⟨i.val - 49, by omega⟩
  else if h4 : i.val < 59 then .parcel ⟨i.val - 53, by omega⟩
  else .settings

/-- The place of a tank among the 48: S01..S32, then T01..T16. -/
def tankIndex : TankId → Fin 48
  | .ship n => ⟨n.val, by omega⟩
  | .shore n => ⟨32 + n.val, by omega⟩

/-- The tank at a place among the 48. -/
def tankAt (i : Fin 48) : TankId :=
  if h : i.val < 32 then .ship ⟨i.val, h⟩ else .shore ⟨i.val - 32, by omega⟩

/-- The place of a stored object among the 68 (R197). -/
def objectIndex : StoreObject → Fin 68
  | .record slot => ⟨(slotIndex slot).val, by omega⟩
  | .checkpoint p => ⟨60 + p.val, by omega⟩
  | .linkParameters .ship => 66
  | .linkParameters .terminal => 67

def allParcels : List (Fin 6) := [0, 1, 2, 3, 4, 5]

def allMeters : List (Fin 4) := [0, 1, 2, 3]

def allShipTanks : List (Fin 32) := List.finRange 32

def allShoreTanks : List (Fin 16) := List.finRange 16

/-- The slots in walk order. -/
def allSlots : List RecordSlot := (List.finRange 60).map slotAt

/-- TRANSFER, SUSPENDED and SETTLING are live (R109). -/
def isLive : ParcelState → Bool
  | .transfer => true
  | .suspended => true
  | .settling => true
  | _ => false

/-- The request code and selector are those of a row of R188. -/
def requestDefined (code selector : Byte) : Bool :=
  let sel := selector.toNat
  if code = 0x24 then sel ≤ 1
  else if code = 0x30 then 1 ≤ sel && sel ≤ 6
  else if code = 0x39 then sel ≤ 6
  else if code = 0x3A then sel ≤ 3
  else
    ([0x01, 0x02, 0x03, 0x10, 0x20, 0x21, 0x22, 0x23, 0x28, 0x31, 0x32, 0x38, 0x40, 0x48, 0x49] : List Byte).contains
      code && sel == 0

/-- The first check that fails decides the answer (R25, R28, R34, R51, R114): the code of the first entry that does not
hold. -/
def firstRefusal : List (Bool × ResultCode) → Option ResultCode
  | [] => none
  | (true, _) :: rest => firstRefusal rest
  | (false, code) :: _ => some code

end Sys2Proof.Machine
end

