-- ==== Sys2Proof/Machine/Records.lean ====
section
/-! DEFINITION. Content headers: their byte layout (R191), their parsing, the checks on their fields (R4 to R8, R41, R88,
R106, R107), the canonical byte form (R32) and the level table's conditions (R9, R11). -/

namespace Sys2Proof.Machine

open Sys2Proof

/-! ### Layout -/

/-- A counted list of one-byte items: the count, then the items. -/
def countedBytes (bs : List Byte) : List Byte := BitVec.ofNat 8 bs.length :: bs

/-- The probe count and heights of a tank record. -/
def probeBytes (probes : List Nat) : List Byte :=
  BitVec.ofNat 8 probes.length :: probes.flatMap (leBytes 2)

def tuningPresence (r : ParcelRecord) : Nat :=
  flagMask [r.baseMinimum.isSome, r.watchBand.isSome, r.alarmBand.isSome, r.declareCount.isSome, r.clearCount.isSome]

def parcelHeader (r : ParcelRecord) : List Byte :=
  countedBytes r.grade ++ [directionCode r.direction]
    ++ countedBytes (r.shipTanks.map fun t => BitVec.ofNat 8 (t.val + 1))
    ++ countedBytes (r.shoreTanks.map fun t => BitVec.ofNat 8 (t.val + 1))
    ++ [match r.meter with
        | some m => BitVec.ofNat 8 (m.val + 1)
        | none => 0]
    ++ leBytes 2 r.a ++ leBytes 2 r.b ++ [flagByte r.applyVef] ++ leBytes 1 (tuningPresence r)
    ++ optionBytes 4 r.baseMinimum ++ optionBytes 4 r.watchBand ++ optionBytes 4 r.alarmBand
    ++ optionBytes 1 r.declareCount ++ optionBytes 1 r.clearCount

def settingsList (r : Settings) : List Nat :=
  [r.interval, r.concurrenceTimeout, r.settleTime, r.auditPeriod, r.shipStaleness, r.shoreStaleness, r.silenceLimit,
    r.assemblyTimeout]

/-- The content header byte for byte (R191). -/
def headerBytes : Content → List Byte
  | .vessel r => countedBytes r.name ++ leBytes 4 r.lbp ++ leBytes 4 r.vef
  | .shipTank r =>
    countedBytes r.name ++ leBytes 2 r.referenceHeight ++ leInt 4 r.longitudinalOffset ++ leInt 2 r.transverseOffset
      ++ probeBytes r.probes
  | .shoreTank r => countedBytes r.name ++ probeBytes r.probes
  | .meter r => leBytes 4 r.kFactor ++ leBytes 4 r.meterFactor ++ leBytes 4 r.maxRate
  | .parcel r => parcelHeader r
  | .settings r => (settingsList r).flatMap (leBytes 2)

/-- A breakpoint byte for byte (R191). -/
def breakpointBytes (p : Breakpoint) : List Byte := leBytes 2 p.level ++ leBytes 4 p.volume

/-- The canonical byte form of a record (R32). -/
def canonicalForm (c : Content) (points : List Breakpoint) : List Byte :=
  headerBytes c ++ points.flatMap breakpointBytes

/-- The digest of a record version (R32, R33). -/
def recordDigest (c : Content) (points : List Breakpoint) : Digest := digest (canonicalForm c points)

/-! ### Parsing: check 1 of R25 -/

/-- A parcel content header as laid out, before the checks on its fields. -/
structure ParcelLayout where
  grade : List Byte
  direction : Nat
  shipTanks : List Nat
  shoreTanks : List Nat
  meter : Nat
  a : Nat
  b : Nat
  applyVef : Nat
  presence : Nat
  baseMinimum : Nat
  watchBand : Nat
  alarmBand : Nat
  declareCount : Nat
  clearCount : Nat
  deriving DecidableEq, Repr

/-- A content header whose layout has been read. -/
inductive Header where
  | plain (c : Content)
  | parcel (p : ParcelLayout)
  deriving DecidableEq, Repr

/-- A counted list of bytes and the rest. -/
def takeCounted (bs : List Byte) : Option (List Byte × List Byte) :=
  match bs with
  | [] => none
  | n :: rest => takeBytes n.toNat rest

def parseVessel (bs : List Byte) : Option (VesselRecord × List Byte) := do
  let (name, bs) ← takeCounted bs
  let (lbp, bs) ← takeNat 4 bs
  let (vef, bs) ← takeNat 4 bs
  pure ({ name, lbp, vef }, bs)

def parseShipTank (bs : List Byte) : Option (ShipTankRecord × List Byte) := do
  let (name, bs) ← takeCounted bs
  let (referenceHeight, bs) ← takeNat 2 bs
  let (longitudinalOffset, bs) ← takeInt 4 bs
  let (transverseOffset, bs) ← takeInt 2 bs
  let (count, bs) ← takeNat 1 bs
  let (probes, bs) ← takeNats 2 count bs
  pure ({ name, referenceHeight, longitudinalOffset, transverseOffset, probes }, bs)

def parseShoreTank (bs : List Byte) : Option (ShoreTankRecord × List Byte) := do
  let (name, bs) ← takeCounted bs
  let (count, bs) ← takeNat 1 bs
  let (probes, bs) ← takeNats 2 count bs
  pure ({ name, probes }, bs)

def parseMeter (bs : List Byte) : Option (MeterRecord × List Byte) := do
  let (kFactor, bs) ← takeNat 4 bs
  let (meterFactor, bs) ← takeNat 4 bs
  let (maxRate, bs) ← takeNat 4 bs
  pure ({ kFactor, meterFactor, maxRate }, bs)

/-- An undefined bit of the tuning presence byte, or a nonzero byte in an absent tuning field, breaks the layout (R191,
log 11). -/
def tuningLaidOut (p : ParcelLayout) : Bool :=
  p.presence < 32
    && [(p.baseMinimum, 0), (p.watchBand, 1), (p.alarmBand, 2), (p.declareCount, 3), (p.clearCount, 4)].all
      fun (v, bit) => p.presence.testBit bit || v == 0

def parseParcel (bs : List Byte) : Option (ParcelLayout × List Byte) := do
  let (grade, bs) ← takeCounted bs
  let (direction, bs) ← takeNat 1 bs
  let (shipCount, bs) ← takeNat 1 bs
  let (shipTanks, bs) ← takeNats 1 shipCount bs
  let (shoreCount, bs) ← takeNat 1 bs
  let (shoreTanks, bs) ← takeNats 1 shoreCount bs
  let (meter, bs) ← takeNat 1 bs
  let (a, bs) ← takeNat 2 bs
  let (b, bs) ← takeNat 2 bs
  let (applyVef, bs) ← takeNat 1 bs
  let (presence, bs) ← takeNat 1 bs
  let (baseMinimum, bs) ← takeNat 4 bs
  let (watchBand, bs) ← takeNat 4 bs
  let (alarmBand, bs) ← takeNat 4 bs
  let (declareCount, bs) ← takeNat 1 bs
  let (clearCount, bs) ← takeNat 1 bs
  pure
    ({ grade, direction, shipTanks, shoreTanks, meter, a, b, applyVef, presence, baseMinimum, watchBand, alarmBand,
       declareCount, clearCount }, bs)

def parseSettings (bs : List Byte) : Option (Settings × List Byte) := do
  let (interval, bs) ← takeNat 2 bs
  let (concurrenceTimeout, bs) ← takeNat 2 bs
  let (settleTime, bs) ← takeNat 2 bs
  let (auditPeriod, bs) ← takeNat 2 bs
  let (shipStaleness, bs) ← takeNat 2 bs
  let (shoreStaleness, bs) ← takeNat 2 bs
  let (silenceLimit, bs) ← takeNat 2 bs
  let (assemblyTimeout, bs) ← takeNat 2 bs
  pure
    ({ interval, concurrenceTimeout, settleTime, auditPeriod, shipStaleness, shoreStaleness, silenceLimit,
       assemblyTimeout }, bs)

/-- The value parsed, where nothing is left over: the payload ends where the header ends (R191). -/
def wholeOf {α : Type} (r : Option (α × List Byte)) : Option α :=
  match r with
  | some (v, []) => some v
  | _ => none

/-- The content header laid out for the kind of a slot (check 1 of R25). -/
def parseHeader (slot : RecordSlot) (bs : List Byte) : Option Header :=
  match slot with
  | .vessel => (wholeOf (parseVessel bs)).map fun r => .plain (.vessel r)
  | .ship _ => (wholeOf (parseShipTank bs)).map fun r => .plain (.shipTank r)
  | .shore _ => (wholeOf (parseShoreTank bs)).map fun r => .plain (.shoreTank r)
  | .meter _ => (wholeOf (parseMeter bs)).map fun r => .plain (.meter r)
  | .parcel _ => (wholeOf (parseParcel bs)).bind fun p => if tuningLaidOut p then some (.parcel p) else none
  | .settings => (wholeOf (parseSettings bs)).map fun r => .plain (.settings r)

/-! ### The checks on the fields: check 6 of R25 -/

def inRange (lo hi v : Nat) : Bool := lo ≤ v && v ≤ hi

def inRangeInt (lo hi v : Int) : Bool := lo ≤ v && v ≤ hi

/-- A name of 1..`max` characters, each from 0x20 to 0x7E (R7). -/
def nameChecks (max : Nat) (name : List Byte) : List (Bool × ResultCode) :=
  [(inRange 1 max name.length, .format), (name.all fun c => inRange 0x20 0x7E c.toNat, .range)]

/-- One to three probe heights, each 0..40,000 (R8). -/
def probeChecks (probes : List Nat) : List (Bool × ResultCode) :=
  [(inRange 1 3 probes.length, .format), (probes.all (inRange 0 40000), .range)]

/-- The checks of a header that is held as it was laid out, in the order of its fields (R4 to R8, R41, R88). -/
def contentChecks : Content → List (Bool × ResultCode)
  | .vessel r => nameChecks 20 r.name ++ [(inRange 50000 400000 r.lbp, .range), (inRange 980000 1020000 r.vef, .range)]
  | .shipTank r =>
    nameChecks 8 r.name
      ++ [(inRange 1000 40000 r.referenceHeight, .range), (inRangeInt (-200000) 200000 r.longitudinalOffset, .range),
          (inRangeInt (-30000) 30000 r.transverseOffset, .range)]
      ++ probeChecks r.probes
  | .shoreTank r => nameChecks 8 r.name ++ probeChecks r.probes
  | .meter r =>
    [(inRange 1000 10000000 r.kFactor, .range), (inRange 950000 1050000 r.meterFactor, .range),
      (inRange 10 200000 r.maxRate, .range)]
  | .parcel _ => []
  | .settings r =>
    [(inRange 10 600 r.interval, .range), (inRange 60 3600 r.concurrenceTimeout, .range),
      (inRange 0 3600 r.settleTime, .range), (inRange 60 3600 r.auditPeriod, .range),
      (inRange 10 3600 r.shipStaleness, .range), (inRange 10 3600 r.shoreStaleness, .range),
      (inRange 5 300 r.silenceLimit, .range), (inRange 10 600 r.assemblyTimeout, .range)]

/-- A tuning field of a parcel, absent where its presence bit is clear (R107, R191). -/
def tuningField (p : ParcelLayout) (bit value : Nat) : Option Nat := if p.presence.testBit bit then some value else none

def defaultBaseMinimum : Nat := 50000
def defaultWatchBand : Nat := 2000
def defaultAlarmBand : Nat := 5000
def defaultDeclareCount : Nat := 8
def defaultClearCount : Nat := 2

/-- A list of tank numbers counted from 1, as tanks. -/
def tankNumbers (n : Nat) (vs : List Nat) : Option (List (Fin n)) := vs.mapM (fromOne n)

/-- The checks of R106 in the order of its fields, tuning fields with their defaults put in (R107). -/
def parcelChecks (p : ParcelLayout) : List (Bool × ResultCode) :=
  let baseMinimum := (tuningField p 0 p.baseMinimum).getD defaultBaseMinimum
  let watchBand := (tuningField p 1 p.watchBand).getD defaultWatchBand
  let alarmBand := (tuningField p 2 p.alarmBand).getD defaultAlarmBand
  let declareCount := (tuningField p 3 p.declareCount).getD defaultDeclareCount
  let clearCount := (tuningField p 4 p.clearCount).getD defaultClearCount
  nameChecks 16 p.grade
    ++ ([(p.direction ≤ 1, .range),
        (inRange 1 32 p.shipTanks.length, .format), (decide p.shipTanks.Nodup, .format),
        (p.shipTanks.all (inRange 1 32), .range),
        (inRange 1 16 p.shoreTanks.length, .format), (decide p.shoreTanks.Nodup, .format),
        (p.shoreTanks.all (inRange 1 16), .range),
        (p.meter ≤ 4, .range), (p.a ≤ 20000, .range), (p.b ≤ 5000, .range), (p.applyVef ≤ 1, .range),
        (inRange 1000 10000000 baseMinimum, .range), (watchBand ≤ 100000, .range),
        (inRange watchBand 200000 alarmBand, .range), (inRange 1 10 declareCount, .range),
        (clearCount < declareCount, .range)] : List (Bool × ResultCode))

/-- The parcel record of a layout whose fields pass their checks. -/
def parcelOfLayout (p : ParcelLayout) : ParcelRecord :=
  { grade := p.grade
    direction := if p.direction = 0 then .load else .discharge
    shipTanks := (tankNumbers 32 p.shipTanks).getD []
    shoreTanks := (tankNumbers 16 p.shoreTanks).getD []
    meter := fromOne 4 p.meter
    a := p.a
    b := p.b
    applyVef := p.applyVef == 1
    baseMinimum := tuningField p 0 p.baseMinimum
    watchBand := tuningField p 1 p.watchBand
    alarmBand := tuningField p 2 p.alarmBand
    declareCount := tuningField p 3 p.declareCount
    clearCount := tuningField p 4 p.clearCount }

/-- The refusal of check 6 of R25 for a header, if any. -/
def headerRefusal : Header → Option ResultCode
  | .plain c => firstRefusal (contentChecks c)
  | .parcel p => firstRefusal (parcelChecks p)

/-- The content of a header whose fields pass their checks. -/
def headerContent : Header → Content
  | .plain c => c
  | .parcel p => .parcel (parcelOfLayout p)

/-! ### Values in use of a parcel record (R107) -/

def baseMinimumOf (r : ParcelRecord) : Nat := r.baseMinimum.getD defaultBaseMinimum
def watchBandOf (r : ParcelRecord) : Nat := r.watchBand.getD defaultWatchBand
def alarmBandOf (r : ParcelRecord) : Nat := r.alarmBand.getD defaultAlarmBand
def declareCountOf (r : ParcelRecord) : Nat := r.declareCount.getD defaultDeclareCount
def clearCountOf (r : ParcelRecord) : Nat := r.clearCount.getD defaultClearCount

/-- The tanks a parcel record names, ship tanks first. -/
def tanksNamed (r : ParcelRecord) : List TankId := r.shipTanks.map .ship ++ r.shoreTanks.map .shore

/-- The content is of the kind its slot holds. -/
def contentFits : RecordSlot → Content → Bool
  | .vessel, .vessel _ => true
  | .ship _, .shipTank _ => true
  | .shore _, .shoreTank _ => true
  | .meter _, .meter _ => true
  | .parcel _, .parcel _ => true
  | .settings, .settings _ => true
  | _, _ => false

/-! ### Ownership (R23) -/

/-- Link `l` proposes records of the slot's kind. -/
def ownsKind (l : Link) : RecordSlot → Bool
  | .vessel => l == .ship
  | .ship _ => l == .ship
  | .shore _ => l == .terminal
  | .meter _ => l == .terminal
  | .parcel _ => true
  | .settings => l == .terminal

/-! ### Level tables (R9, R11) -/

/-- The fault of one breakpoint against the breakpoint before it, the highest in the table of R9 first; `none` before it
means the first breakpoint of the table. -/
def breakpointFault (before : Option Breakpoint) (p : Breakpoint) : Option RejectDetail :=
  if 40000 < p.level then some .levelRange
  else
    match before with
    | none =>
      if p.level ≠ 0 then some .firstLevel
      else if 200000000 < p.volume then some .volumeTop
      else none
    | some q =>
      if p.level ≤ q.level then some .levelOrder
      else if p.volume < q.volume then some .volumeOrder
      else if 200000000 < p.volume then some .volumeTop
      else none

/-- The fault of the first breakpoint in table order that breaks a condition (R11). -/
def segmentFault : Option Breakpoint → List Breakpoint → Option RejectDetail
  | _, [] => none
  | before, p :: rest =>
    match breakpointFault before p with
    | some f => some f
    | none => segmentFault (some p) rest

/-- The conditions of R9 on the breakpoints of a table, less the count. -/
def tableValid (points : List Breakpoint) : Bool := segmentFault none points == none

/-- The segments a table of `p` points arrives in (R26). -/
def segmentCount (p : Nat) : Nat := (p + 23) / 24

end Sys2Proof.Machine
end

