-- ==== Sys2Proof/Machine/Operands.lean ====
section
/-! DEFINITION. The operand forms of the requests: how a payload names what the request acts on (R187, R188, R190, R191). -/

namespace Sys2Proof.Machine

open Sys2Proof

/-! ### POST READINGS (R190) -/

/-- A reading entry as laid out, its tank or meter number not yet checked. -/
inductive EntryLayout where
  | shipTank (n : Nat) (f : TankFields)
  | shoreTank (n : Nat) (f : TankFields)
  | shipCondition (f : ConditionFields)
  | lineConditions (m : Nat) (temperature : Int)
  deriving DecidableEq, Repr

/-- An optional field: present with its bit set; absent, its bytes must be 0 (R190). -/
def optionalNat (presence bit value : Nat) : Option (Option Nat) :=
  if presence.testBit bit then some (some value) else if value = 0 then some none else none

/-- An optional signed field (R190). -/
def optionalInt (presence bit : Nat) (value : Int) : Option (Option Int) :=
  if presence.testBit bit then some (some value) else if value = 0 then some none else none

/-- A ship tank reading after its kind byte: tank, presence, ullage, water level, three probe values (R190). -/
def parseShipReading (bs : List Byte) : Option (EntryLayout × List Byte) := do
  let (n, bs) ← takeNat 1 bs
  let (presence, bs) ← takeNat 1 bs
  let (gauge, bs) ← takeNat 2 bs
  let (water, bs) ← takeNat 2 bs
  let (p1, bs) ← takeInt 2 bs
  let (p2, bs) ← takeInt 2 bs
  let (p3, bs) ← takeInt 2 bs
  if 16 ≤ presence then none
  else
    let water ← optionalNat presence 0 water
    let probe1 ← optionalInt presence 1 p1
    let probe2 ← optionalInt presence 2 p2
    let probe3 ← optionalInt presence 3 p3
    pure (.shipTank n { gauge, water, probe1, probe2, probe3, shell := none }, bs)

/-- A shore tank reading after its kind byte, with its shell temperature (R190). -/
def parseShoreReading (bs : List Byte) : Option (EntryLayout × List Byte) := do
  let (n, bs) ← takeNat 1 bs
  let (presence, bs) ← takeNat 1 bs
  let (gauge, bs) ← takeNat 2 bs
  let (water, bs) ← takeNat 2 bs
  let (p1, bs) ← takeInt 2 bs
  let (p2, bs) ← takeInt 2 bs
  let (p3, bs) ← takeInt 2 bs
  let (sh, bs) ← takeInt 2 bs
  if 32 ≤ presence then none
  else
    let water ← optionalNat presence 0 water
    let probe1 ← optionalInt presence 1 p1
    let probe2 ← optionalInt presence 2 p2
    let probe3 ← optionalInt presence 3 p3
    let shell ← optionalInt presence 4 sh
    pure (.shoreTank n { gauge, water, probe1, probe2, probe3, shell }, bs)

/-- A ship condition after its kind byte (R190). -/
def parseCondition (bs : List Byte) : Option (EntryLayout × List Byte) := do
  let (fore, bs) ← takeNat 2 bs
  let (aft, bs) ← takeNat 2 bs
  let (listSlope, bs) ← takeInt 2 bs
  pure (.shipCondition { fore, aft, listSlope }, bs)

/-- Line conditions after their kind byte (R190). -/
def parseLine (bs : List Byte) : Option (EntryLayout × List Byte) := do
  let (m, bs) ← takeNat 1 bs
  let (temperature, bs) ← takeInt 2 bs
  pure (.lineConditions m temperature, bs)

/-- One entry by its kind byte (R190). -/
def parseEntry : List Byte → Option (EntryLayout × List Byte)
  | [] => none
  | kind :: bs =>
    if kind = 1 then parseShipReading bs
    else if kind = 2 then parseShoreReading bs
    else if kind = 3 then parseCondition bs
    else if kind = 4 then parseLine bs
    else none

/-- `count` entries that end exactly at the end of the bytes (R190). -/
def parseEntries : Nat → List Byte → Option (List EntryLayout)
  | 0, [] => some []
  | 0, _ :: _ => none
  | count + 1, bs =>
    match parseEntry bs with
    | some (e, rest) =>
      match parseEntries count rest with
      | some es => some (e :: es)
      | none => none
    | none => none

/-- The entries of a POST READINGS payload, where it is laid out as R190 says (check 2 of R51). -/
def parsePosting : List Byte → Option (List EntryLayout)
  | [] => none
  | count :: bs => if inRange 1 8 count.toNat then parseEntries count.toNat bs else none

/-- The entry is of a kind the link posts (check 3 of R51). -/
def entryPosted (l : Link) : EntryLayout → Bool
  | .shipTank _ _ => l == .ship
  | .shipCondition _ => l == .ship
  | .shoreTank _ _ => l == .terminal
  | .lineConditions _ _ => l == .terminal

/-- The reading of an entry whose number names a slot (check 4 of R51). -/
def entryReading : EntryLayout → Option Reading
  | .shipTank n f => (fromOne 32 n).map fun t => .shipTank t f
  | .shoreTank n f => (fromOne 16 n).map fun t => .shoreTank t f
  | .shipCondition f => some (.shipCondition f)
  | .lineConditions m t => (fromOne 4 m).map fun m => .lineConditions m t

/-- A water level in its range where it is present (R46, R47). -/
def waterInRange (f : TankFields) : Bool :=
  match f.water with
  | some w => w ≤ 40000
  | none => true

/-- Every field with a range lies in it (R46 to R49; check 5 of R51). -/
def entryInRange : EntryLayout → Bool
  | .shipTank _ f => f.gauge ≤ 40000 && waterInRange f
  | .shoreTank _ f => f.gauge ≤ 40000 && waterInRange f
  | .shipCondition f => f.fore ≤ 30000 && f.aft ≤ 30000
  | .lineConditions _ t => inRangeInt (-4000) 15000 t

/-! ### Record requests (R188, R191) -/

/-- The parts of a PROPOSE BEGIN payload of at least six bytes: identifier, declared point count, declared digest, header. -/
structure BeginLayout where
  identifier : Byte
  points : Nat
  digest : Digest
  header : List Byte
  deriving DecidableEq, Repr

/-- A PROPOSE BEGIN payload (R191). -/
def parseBegin : List Byte → Option BeginLayout
  | i :: n :: d0 :: d1 :: d2 :: d3 :: rest =>
    some { identifier := i, points := n.toNat, digest := BitVec.ofNat 32 (ofLe [d0, d1, d2, d3]), header := rest }
  | _ => none

/-- `count` breakpoints that end exactly at the end of the bytes (R191). -/
def parsePoints : Nat → List Byte → Option (List Breakpoint)
  | 0, [] => some []
  | 0, _ :: _ => none
  | count + 1, bs =>
    match takeNat 2 bs with
    | some (level, bs) =>
      match takeNat 4 bs with
      | some (volume, bs) =>
        match parsePoints count bs with
        | some ps => some ({ level, volume } :: ps)
        | none => none
      | none => none
    | none => none

/-- The parts of a PROPOSE SEGMENT payload. -/
structure SegmentLayout where
  identifier : Byte
  number : Nat
  points : List Breakpoint
  deriving DecidableEq, Repr

/-- A PROPOSE SEGMENT payload of 1 to 24 breakpoints (R191; check 1 of R28). -/
def parseSegment : List Byte → Option SegmentLayout
  | i :: k :: n :: rest =>
    if inRange 1 24 n.toNat then
      (parsePoints n.toNat rest).map fun points => { identifier := i, number := k.toNat, points }
    else none
  | _ => none

/-- An ENDORSE payload: record identifier and digest (R188). -/
def parseEndorse : List Byte → Option (Byte × Digest)
  | [i, d0, d1, d2, d3] => some (i, BitVec.ofNat 32 (ofLe [d0, d1, d2, d3]))
  | _ => none

/-- A payload of one byte. -/
def oneByte : List Byte → Option Byte
  | [b] => some b
  | _ => none

/-- A SET LINK PARAMETERS payload: threshold and hold timeout (R187). -/
def parseLinkParameters : List Byte → Option (Nat × Nat)
  | [t, h0, h1] => some (t.toNat, ofLe [h0, h1])
  | _ => none

/-- A READ TRAIL payload: starting sequence and count (R188). -/
def parseReadTrail : List Byte → Option (Nat × Nat)
  | [s0, s1, s2, s3, c] => some (ofLe [s0, s1, s2, s3], c.toNat)
  | _ => none

end Sys2Proof.Machine
end

