-- ==== Sys2Proof/Config.lean ====
section
/-! DEFINITION. The free values: constants without a body for what the manual leaves open. A statement that holds holds
whatever they are. -/

namespace Sys2Proof.Config

open Sys2Proof.Machine

/-- The bytes of a stored object's identifier in the header check of R197. The manual lays out no identifier for a checkpoint
or for link parameters (log 8). -/
opaque storeIdentifierBytes : StoreObject → List Byte

/-- The bytes of a checkpoint's content over which R198 computes its check. The manual does not lay them out (log 8). -/
opaque checkpointBytes : Checkpoint → List Byte

/-- Which place holds the stored copy when both copies pass and neither generation is the higher by R197: true for the first
place. The manual states no result there (log 9). -/
opaque tiedCopyIsFirst : StoreObject → Bool

/-- Whether characters after a complete frame also set the restore count to 0. R178 lists them among the faults of a frame,
and R174 says that they begin no frame (log 5). -/
opaque trailingClearsRestoreCount : Bool

/-- The part of READ PARCEL that carries an item of a CLOSED slot's closing figures. R134 and R169 have READ PARCEL report
them, and the layout of R193 names no part for them; closingSplit takes it where every item fits (log 27). -/
opaque closingPart : ClosingItem → Fin 7

end Sys2Proof.Config
end

