-- ==== Sys2Proof/Machine/Arith.lean ====
section
/-! DEFINITION. Rounding, clamping, saturation and the comparisons of clock values. -/

namespace Sys2Proof.Machine

open Sys2Proof

/-- The exact quotient rounded to the nearest integer, a half away from zero (R1). `d` is positive wherever the unit
divides: log 23. -/
def roundDiv (n : Int) (d : Nat) : Int :=
  if 0 ≤ n then (2 * n + d) / (2 * d) else -((2 * -n + d) / (2 * d))

/-- `v` brought into `lo..hi`. -/
def clampInt (lo hi v : Int) : Int := if v < lo then lo else if hi < v then hi else v

/-- A 16-bit count that holds once it reaches 65,535 (R44, R123, R148). -/
def count16 (n : Nat) : Nat := if n < 65535 then n + 1 else 65535

/-- `now` less `start` in tenths, modulo 2^32 (R64). -/
def elapsed (now start : Clock) : Nat := (now - start).toNat

/-- `a` is later than `b`: `a` less `b` modulo 2^32 lies in 1..2,147,483,647 (R127, R197). -/
def laterThan (a b : Clock) : Bool := 1 ≤ (a - b).toNat && (a - b).toNat ≤ 2147483647

/-- The age of `start` exceeds `limit` seconds, compared in tenths (R30, R64, R118, R184). -/
def exceeds (now start : Clock) (limit : Nat) : Bool := 10 * limit < elapsed now start

/-- The age of `start` reaches `tenths` (R43, R125, R135, R172). -/
def reaches (now start : Clock) (tenths : Nat) : Bool := tenths ≤ elapsed now start

end Sys2Proof.Machine
end

