-- ==== Sys2Proof/Machine/Ops.lean ====
section
/-! DEFINITION. The named operations over the state: reading and writing each part, the record set and what is bound, the
trail, the checkpoint writer, the reception of frames and the taking of a request. -/

namespace Sys2Proof.Machine

open Sys2Proof

/-! ### Parts of the state -/

/-- The link unit of `l`. -/
def State.link (s : State) : Link → LinkUnit
  | .ship => s.shipLink
  | .terminal => s.terminalLink

def setLink (l : Link) (u : LinkUnit) (s : State) : State :=
  match l with
  | .ship => { s with shipLink := u }
  | .terminal => { s with terminalLink := u }

def State.slot (s : State) (k : RecordSlot) : Slot := s.slots.get (slotIndex k)

def setSlot (k : RecordSlot) (v : Slot) (s : State) : State :=
  { s with slots := s.slots.set (slotIndex k) v }

def State.tank (s : State) (t : TankId) : Tank := s.tanks.get (tankIndex t)

def setTank (t : TankId) (v : Tank) (s : State) : State :=
  { s with tanks := s.tanks.set (tankIndex t) v }

def State.channel (s : State) (m : Fin 4) : Channel := s.channels.get m

def setChannel (m : Fin 4) (v : Channel) (s : State) : State := { s with channels := s.channels.set m v }

def State.parcel (s : State) (p : Fin 6) : Parcel := s.parcels.get p

def setParcel (p : Fin 6) (v : Parcel) (s : State) : State := { s with parcels := s.parcels.set p v }

/-- What waits for the end of the load for slot `p` (R159). -/
def State.restoredItems (s : State) (p : Fin 6) : RestoredItems := s.restored.get p

def setRestored (p : Fin 6) (v : RestoredItems) (s : State) : State := { s with restored := s.restored.set p v }

def State.places (s : State) (o : StoreObject) : ObjectPlaces := s.store.get (objectIndex o)

def setPlaces (o : StoreObject) (v : ObjectPlaces) (s : State) : State :=
  { s with store := s.store.set (objectIndex o) v }

/-- The state of a party's stop line: true for ASSERTED (R132). -/
def State.stopLine (s : State) : Link → Bool
  | .ship => s.shipStop
  | .terminal => s.terminalStop

def setStopLine (l : Link) (v : Bool) (s : State) : State :=
  match l with
  | .ship => { s with shipStop := v }
  | .terminal => { s with terminalStop := v }

def setPoolFree (n : Nat) (s : State) : State := { s with poolFree := n }

def setConcurrence (es : List Concurrence) (s : State) : State := { s with concurrence := es }

def setAlarmLine (b : Bool) (s : State) : State := { s with alarm := b }

def setShipCondition (c : Option ShipCondition) (s : State) : State := { s with shipCondition := c }

def setPowered (b : Bool) (s : State) : State := { s with powered := b }

/-- The queue of waiting commands is replaced. -/
def setPendingCommands (cs : List Instr) (s : State) : State := { s with pending := cs }

/-- The unit clock advances by a tenth, modulo 2^32; it stands at 0 while the unit is inactive (R203, log 1). -/
def tickClock (s : State) : State := if s.unit = .inactive then s else { s with clock := s.clock + 1 }

/-! ### The record set -/

/-- The current version of a slot while it is IN_FORCE. -/
def State.inForce (s : State) (k : RecordSlot) : Option CurrentVersion :=
  match (s.slot k).current with
  | some v => if v.suspect then none else some v
  | none => none

/-- The current version of a slot is SUSPECT. -/
def State.isSuspect (s : State) (k : RecordSlot) : Bool :=
  match (s.slot k).current with
  | some v => v.suspect
  | none => false

/-- The slot holds a PROPOSED version. -/
def State.hasProposed (s : State) (k : RecordSlot) : Bool :=
  match (s.slot k).pending with
  | some v => v.assembly == none
  | none => false

def contentVessel : Content → Option VesselRecord
  | .vessel r => some r
  | _ => none

def contentShipTank : Content → Option ShipTankRecord
  | .shipTank r => some r
  | _ => none

def contentShoreTank : Content → Option ShoreTankRecord
  | .shoreTank r => some r
  | _ => none

def contentMeter : Content → Option MeterRecord
  | .meter r => some r
  | _ => none

def contentParcel : Content → Option ParcelRecord
  | .parcel r => some r
  | _ => none

def contentSettings : Content → Option Settings
  | .settings r => some r
  | _ => none

/-- The vessel record in force. -/
def State.vesselInForce (s : State) : Option VesselRecord := (s.inForce .vessel).bind fun v => contentVessel v.content

/-- The meter record in force in slot Mn. -/
def State.meterInForce (s : State) (m : Fin 4) : Option MeterRecord :=
  (s.inForce (.meter m)).bind fun v => contentMeter v.content

/-- The content of the current version of a parcel record, IN_FORCE or SUSPECT. -/
def State.parcelRecord (s : State) (p : Fin 6) : Option ParcelRecord :=
  (s.slot (.parcel p)).current.bind fun v => contentParcel v.content

/-- The parcel record in force. -/
def State.parcelInForce (s : State) (p : Fin 6) : Option ParcelRecord :=
  (s.inForce (.parcel p)).bind fun v => contentParcel v.content

/-- The defaults of R41. -/
def defaultSettings : Settings :=
  { interval := 60, concurrenceTimeout := 900, settleTime := 900, auditPeriod := 600, shipStaleness := 300,
    shoreStaleness := 300, silenceLimit := 30, assemblyTimeout := 60 }

/-- The settings in use (R42). -/
def State.settingsInUse (s : State) : Settings :=
  ((s.inForce .settings).bind fun v => contentSettings v.content).getD defaultSettings

/-- Some slot holds a SUSPECT version (R44). -/
def State.anySuspect (s : State) : Bool := allSlots.any s.isSuspect

/-! ### Binding and use (R35, R68, R89, R108) -/

/-- The parcel record whose tanks and meter are bound: the proposed one in PROPOSED, the current one beyond it. -/
def State.boundRecord (s : State) (p : Fin 6) : Option ParcelRecord :=
  match (s.parcel p).state with
  | .free => none
  | .proposed => (s.slot (.parcel p)).pending.bind fun v => contentParcel v.content
  | _ => s.parcelRecord p

def namesTank (t : TankId) (r : ParcelRecord) : Bool :=
  match t with
  | .ship n => r.shipTanks.contains n
  | .shore n => r.shoreTanks.contains n

def namesMeter (m : Fin 4) (r : ParcelRecord) : Bool := r.meter == some m

/-- Parcel `p` is not FREE and its record has the property. -/
def State.boundWith (s : State) (q : ParcelRecord → Bool) (p : Fin 6) : Bool :=
  match s.boundRecord p with
  | some r => q r
  | none => false

/-- The parcel a meter is bound to (R89). -/
def State.meterParcel (s : State) (m : Fin 4) : Option (Fin 6) := allParcels.find? (s.boundWith (namesMeter m))

/-- Two parcel records name a tank or a meter in common. -/
def recordsOverlap (r o : ParcelRecord) : Bool :=
  (tanksNamed r).any (fun t => namesTank t o) || (match r.meter with
    | some m => namesMeter m o
    | none => false)

/-- A tank or meter the record `r` names is bound to a parcel slot other than `p` (R108, R207). -/
def State.boundElsewhere (s : State) (p : Fin 6) (r : ParcelRecord) : Bool :=
  allParcels.any fun q => q != p && s.boundWith (recordsOverlap r) q

/-- The meter bound to a parcel, if its record names one. -/
def State.boundMeter (s : State) (p : Fin 6) : Option (Fin 4) := (s.boundRecord p).bind fun r => r.meter

/-- The slot's record is in use (R35). -/
def State.inUse (s : State) : RecordSlot → Bool
  | .vessel => allParcels.any fun p => isLive (s.parcel p).state
  | .ship n => allParcels.any (s.boundWith (namesTank (.ship n)))
  | .shore n => allParcels.any (s.boundWith (namesTank (.shore n)))
  | .meter m => allParcels.any (s.boundWith (namesMeter m))
  | .parcel p => (s.parcel p).state != .free
  | .settings => false

/-! ### The trail (R160, R161) -/

/-- The record joins the end; the oldest of 257 leaves. -/
def trailPush (t : List TrailRecord) (r : TrailRecord) : List TrailRecord :=
  if 256 ≤ t.length then t.tail ++ [r] else t ++ [r]

/-- A record is appended with the next sequence number; at the largest number the trail restarts (R161). -/
def appendTrail (b : TrailBody) (s : State) : State :=
  if s.newest = 4294967295 then
    { s with
      trail := [{ seq := 1, time := s.clock, body := .trailRestart }, { seq := 2, time := s.clock, body := b }]
      newest := 2 }
  else
    { s with
      trail := trailPush s.trail { seq := s.newest + 1, time := s.clock, body := b }
      newest := s.newest + 1 }

/-- The oldest sequence (R161). -/
def State.oldest (s : State) : Nat :=
  match s.trail with
  | r :: _ => r.seq
  | [] => s.newest + 1

/-- The last outcome of a slot is set, with its trail record (R24). NONE is set without one. -/
def setOutcome (k : RecordSlot) (o : LastOutcome) (s : State) : State :=
  let s' := setSlot k { s.slot k with last := o } s
  match o with
  | .none => s'
  | .suspect => appendTrail (.auditFailure k) s'
  | _ => appendTrail (.recordOutcome k o) s'

/-! ### The store (R197, R198, R202) -/

/-- The header check of a copy (R197). -/
def headerCheckOf (o : StoreObject) (generation : BitVec 32) : Digest :=
  digest (Config.storeIdentifierBytes o ++ leBytes 4 generation.toNat)

/-- The check held with a checkpoint's content (R198). -/
def checkpointCheck (c : Checkpoint) : Digest := digest (Config.checkpointBytes c)

/-- The check held with link parameters (R198), over the bytes of R187 (log 8). -/
def linkParametersCheck (threshold holdTimeout : Nat) : Digest :=
  digest (leBytes 1 threshold ++ leBytes 2 holdTimeout)

/-- A threshold and a hold timeout in their ranges (R187). -/
def linkParametersInRange (threshold holdTimeout : Nat) : Bool :=
  inRange 1 63 threshold && inRange 10 600 holdTimeout

/-- The content of a copy passes the check of its object (R198). -/
def contentPasses : StoreObject → StoredContent → Bool
  | _, .removal => true
  | .record slot, .record d c points =>
    contentFits slot c && ((tankOfSlot slot).isSome || points.isEmpty) && recordDigest c points == d
  | .checkpoint _, .checkpoint c check => checkpointCheck c == check
  | .linkParameters _, .linkParameters threshold holdTimeout check =>
    linkParametersCheck threshold holdTimeout == check && linkParametersInRange threshold holdTimeout
  | _, _ => false

/-- The copy passes its check (R198). -/
def copyPasses (o : StoreObject) (c : StoreCopy) : Bool :=
  headerCheckOf o c.generation == c.headerCheck && contentPasses o c.content

/-- The copy of a place where it passes its check. -/
def passingCopy (o : StoreObject) : Place → Option StoreCopy
  | .copy c => if copyPasses o c then some c else none
  | _ => none

/-- The stored copy, and whether it stands in the first place (R197). -/
def storedCopy (o : StoreObject) (v : ObjectPlaces) : Option (Bool × StoreCopy) :=
  match passingCopy o v.first, passingCopy o v.second with
  | some a, some b =>
    if laterThan a.generation b.generation then some (true, a)
    else if laterThan b.generation a.generation then some (false, b)
    else if Config.tiedCopyIsFirst o then some (true, a)
    else some (false, b)
  | some a, none => some (true, a)
  | none, some b => some (false, b)
  | none, none => none

/-- Some place of the object holds a copy. -/
def holdsCopies (v : ObjectPlaces) : Bool := v.first != .empty || v.second != .empty

/-- The place a new write goes to: the one that does not hold the stored copy, the first where there is none (R197). -/
def writesFirst (o : StoreObject) (v : ObjectPlaces) : Bool :=
  match storedCopy o v with
  | some (first, _) => !first
  | none => true

/-- The copy a completed write leaves (R202). -/
def newCopy (w : StoreWrite) (v : ObjectPlaces) : StoreCopy :=
  let generation : BitVec 32 :=
    match storedCopy w.object v with
    | some (_, c) => c.generation + 1
    | none => 1
  { generation, headerCheck := headerCheckOf w.object generation, content := w.content }

/-- The places with `x` in the place a new write goes to. -/
def writePlace (o : StoreObject) (x : Place) (v : ObjectPlaces) : ObjectPlaces :=
  if writesFirst o v then { v with first := x } else { v with second := x }

/-- The writer takes the head of the queue into flight when nothing is in flight (R200). -/
def startWrite (s : State) : State :=
  match s.inFlight, s.writeQueue with
  | none, w :: rest => { s with inFlight := some w, writeQueue := rest }
  | _, _ => s

/-- A write is given: it replaces the object's pending write and joins the tail (R200). -/
def giveWrite (o : StoreObject) (c : StoredContent) (s : State) : State :=
  startWrite { s with writeQueue := (s.writeQueue.filter fun w => w.object != o) ++ [{ object := o, content := c }] }

/-- The write in flight completes and the next one is taken (R202). -/
def completeWrite (s : State) : State :=
  match s.inFlight with
  | none => s
  | some w =>
    startWrite { setPlaces w.object (writePlace w.object (.copy (newCopy w (s.places w.object))) (s.places w.object)) s with
      inFlight := none }

/-- The store when a full reset ends the write in flight: the incomplete copy fails its check (R202). -/
def cutWrite (s : State) : Vector ObjectPlaces 68 :=
  match s.inFlight with
  | none => s.store
  | some w => s.store.set (objectIndex w.object) (writePlace w.object .failing (s.places w.object))

/-- The write of a slot's current version (R197, R201). -/
def giveRecordWrite (k : RecordSlot) (v : CurrentVersion) (s : State) : State :=
  giveWrite (.record k) (.record v.digest v.content v.points) s

/-! ### Link states (R182, R184, R185) -/

/-- The error report of a link is changed. -/
def updateReport (l : Link) (f : ErrorReport → ErrorReport) (s : State) : State :=
  setLink l { s.link l with report := f (s.link l).report } s

/-- READING_DISCARDED on link `l` (R60). -/
def reportDiscard (l : Link) (s : State) : State := updateReport l (fun r => { r with readingDiscarded := true }) s

/-- The silence test of a link (R184, R185). -/
def silenceTest (l : Link) (s : State) : State :=
  let u := s.link l
  match u.lastIntact with
  | none => s
  | some t =>
    if exceeds s.clock t s.settingsInUse.silenceLimit then
      match u.state with
      | .idle => s
      | .active =>
        appendTrail (.linkState l .lost)
          (setLink l { u with state := .lost, restoreCount := 0, report := { u.report with wasLost := true } } s)
      | .lost => setLink l { u with restoreCount := 0 } s
    else s

/-- The settings in use have changed: the silence tests are made at that event (R42, R184). -/
def settingsChanged (s : State) : State := silenceTest .terminal (silenceTest .ship s)

/-! ### Reception (R174, R178, R179) -/

/-- The controller is busy (R179). -/
def isBusy (u : LinkUnit) : Bool := u.controller != .free

/-- The link receives: the unit is not inactive (R203) and the receiver is not discarding (R174). -/
def State.receives (s : State) (l : Link) : Bool := s.unit != .inactive && !(s.link l).discarding

/-- After FRAMING, HEADER_CRC or LENGTH the rest is discarded up to the next idle gap (R178). -/
def faultDiscards : FrameFault → Bool
  | .payloadCrc => false
  | _ => true

/-- The kind a fault sets (R178). -/
def markFault (f : FrameFault) (r : ErrorReport) : ErrorReport :=
  match f with
  | .framing => { r with framing := true }
  | .headerCrc => { r with headerCrc := true }
  | .length => { r with length := true }
  | .trailing => { r with length := true }
  | .payloadCrc => { r with payloadCrc := true }

/-- OVERRUN in place of any other fault of the frame (R179). -/
def markOverrun (r : ErrorReport) : ErrorReport := { r with overrun := true }

/-- A frame is dropped as an overrun (R179). -/
def overrunFrame (l : Link) (s : State) : State :=
  let u := s.link l
  setLink l { u with report := markOverrun u.report, restoreCount := 0 } s

/-- A faulty frame, or characters after a complete frame, on a receiving link (R174, R178, R179). -/
def faultyFrame (l : Link) (f : FrameFault) (s : State) : State :=
  let u := s.link l
  match f with
  | .trailing =>
    setLink l { u with
      report := markFault f u.report
      discarding := true
      restoreCount := if Config.trailingClearsRestoreCount then 0 else u.restoreCount } s
  | _ =>
    setLink l { u with
      report := if isBusy u then markOverrun u.report else markFault f u.report
      discarding := faultDiscards f
      restoreCount := 0 } s

/-- An intact frame restarts the silence timer and acts on the link state (R178, R184, R185). -/
def intactFrame (l : Link) (s : State) : State :=
  let u := { s.link l with lastIntact := some s.clock }
  match u.state with
  | .idle => setLink l { u with state := .active } s
  | .active => setLink l u s
  | .lost =>
    if 2 ≤ u.restoreCount then
      appendTrail (.linkState l .restored) (setLink l { u with state := .active, restoreCount := 0 } s)
    else setLink l { u with restoreCount := u.restoreCount + 1 } s

/-- The next value of a frame counter: from 255 to 1 (R183). -/
def nextCounter (n : Nat) : Nat := if n < 255 then n + 1 else 1

def advanceCounter (l : Link) (s : State) : State :=
  setLink l { s.link l with counter := nextCounter (s.link l).counter } s

/-- The controller holds the decided answer (R180, step 3). -/
def holdAnswer (l : Link) (a : Answer) (s : State) : State := setLink l { s.link l with controller := .answering a } s

/-! ### Taking a request (R180, R204) -/

/-- A result code and an answer body. -/
structure Reply where
  result : ResultCode
  body : List Byte
  deriving DecidableEq, Repr

/-- A reply of the status block alone. -/
def bare (r : ResultCode) : Reply := { result := r, body := [] }

/-- A refusal, of the status block alone, with the state unchanged (R189). -/
def refuseWith (r : ResultCode) (s : State) : State × Reply := (s, bare r)

/-- What the request's owner does with it: `always` also while STARTING, `whenRunning` answered NOT_READY there (R204). -/
inductive Readiness where
  | always
  | whenRunning
  deriving DecidableEq, Repr

/-- Step 3 of R180, with the NOT_READY of R204. -/
def ownerDecides (ready : Readiness) (owner : State → State × Reply) (s : State) : State × Reply :=
  match ready with
  | .always => owner s
  | .whenRunning => if s.unit = .running then owner s else refuseWith .notReady s

/-- Steps 1 and 2 of R180: the frame acts on the link, and the frame counter advances for a counted request (R183). -/
def takeFrame (l : Link) (counted : Bool) (s : State) : State :=
  if counted then advanceCounter l (intactFrame l s) else intactFrame l s

/-- The decided answer of a reply (R180, step 3). -/
def answerOf (code tag : Byte) (r : Reply) : Answer := { code := code, tag := tag, result := r.result, body := r.body }

/-- A frame that ends intact on a free controller: steps 1 to 3 of R180. -/
def answerRequest (l : Link) (code tag : Byte) (counted : Bool) (ready : Readiness)
    (owner : State → State × Reply) (s : State) : State :=
  let out := ownerDecides ready owner (takeFrame l counted s)
  holdAnswer l (answerOf code tag out.2) out.1

/-- A request frame reaches the link: nothing while the link does not receive (R174, R203), a LENGTH fault for a payload over
240 bytes (R175), an overrun while the controller is busy (R179), and otherwise the request is taken (R180). -/
def takeRequest (l : Link) (code tag : Byte) (payload : List Byte) (counted : Bool) (ready : Readiness)
    (owner : State → State × Reply) (s : State) : State :=
  if !s.receives l then s
  else if 240 < payload.length then faultyFrame l .length s
  else if isBusy (s.link l) then overrunFrame l s
  else answerRequest l code tag counted ready owner s

end Sys2Proof.Machine
end

