-- ==== Sys2Proof/Machine/Figures.lean ====
section
/-! DEFINITION. The tank figure: its sources (R68), its eight stages (R69 to R79), holding and clearing (R80 to R83),
staleness (R64, R65) and the slopes a view reports (R87). -/

namespace Sys2Proof.Machine

open Sys2Proof

/-! ### Sources (R68) -/

/-- What stages 1 and 2 need of a ship tank (R69, R70). -/
inductive Geometry where
  | shore
  | ship (referenceHeight : Nat) (longitudinalOffset transverseOffset : Int) (lbp : Nat)
  deriving DecidableEq, Repr

/-- Everything a computation draws on besides the readings, every source IN_FORCE (R68). -/
structure TankBasis where
  geometry : Geometry
  probes : List Nat
  table : List Breakpoint
  a : Nat
  b : Nat
  deriving DecidableEq, Repr

/-- The slot is DEFINED or beyond and its record names the tank. -/
def State.coefficientNames (s : State) (t : TankId) (p : Fin 6) : Bool :=
  match (s.parcel p).state with
  | .free => false
  | .proposed => false
  | _ => s.boundWith (namesTank t) p

/-- The coefficient parcel of a tank (R68). -/
def State.coefficientParcel (s : State) (t : TankId) : Option (Fin 6) := allParcels.find? (s.coefficientNames t)

/-- The coefficients a and b for a tank: 0 and 0 without a coefficient parcel, none while its record is not IN_FORCE. -/
def State.coefficients (s : State) (t : TankId) : Option (Nat × Nat) :=
  match s.coefficientParcel t with
  | none => some (0, 0)
  | some p => (s.parcelInForce p).map fun r => (r.a, r.b)

/-- The geometry and probe heights of a tank's record in force, a ship tank also needing the vessel record in force. -/
def State.tankGeometry (s : State) (t : TankId) (c : Content) : Option (Geometry × List Nat) :=
  match t with
  | .ship _ =>
    match contentShipTank c, s.vesselInForce with
    | some r, some v => some (.ship r.referenceHeight r.longitudinalOffset r.transverseOffset v.lbp, r.probes)
    | _, _ => none
  | .shore _ => (contentShoreTank c).map fun r => (.shore, r.probes)

/-- The sources of a tank figure where each is IN_FORCE (R68). -/
def State.tankBasis (s : State) (t : TankId) : Option TankBasis :=
  match s.inForce (slotOfTank t) with
  | none => none
  | some v =>
    match s.tankGeometry t v.content, s.coefficients t with
    | some (geometry, probes), some (a, b) => some { geometry, probes, table := v.points, a, b }
    | _, _ => none

/-! ### Stages 1 and 2 (R69, R70) -/

/-- The trim slope before clamping (R69). -/
def rawTrimSlope (c : ConditionFields) (lbp : Nat) : Int := roundDiv (((c.aft : Int) - c.fore) * 100000) lbp

/-- A slope brought into -5,000..+5,000 (R69). -/
def clampSlope (v : Int) : Int := clampInt (-5000) 5000 v

/-- The trim slope used; 0 while the ship condition is absent (R69). -/
def trimSlope (c : Option ShipCondition) (lbp : Nat) : Int :=
  match c with
  | some c => clampSlope (rawTrimSlope c.fields lbp)
  | none => 0

/-- The list slope used; 0 while the ship condition is absent (R69). -/
def listSlope (c : Option ShipCondition) : Int :=
  match c with
  | some c => clampSlope c.fields.listSlope
  | none => 0

/-- Either slope was clamped (R69). -/
def slopesClamped (c : Option ShipCondition) (lbp : Nat) : Bool :=
  match c with
  | some c => clampSlope (rawTrimSlope c.fields lbp) != rawTrimSlope c.fields lbp
      || clampSlope c.fields.listSlope != c.fields.listSlope
  | none => false

/-- The corrected ullage before clamping (R70). -/
def correctedUllage (ullage : Nat) (longitudinal transverse trim list : Int) : Int :=
  ullage + roundDiv (longitudinal * trim) 100000 + roundDiv (transverse * list) 100000

/-- The level L (R70); a shore tank's is its level as posted. -/
def levelOf (g : Geometry) (c : Option ShipCondition) (f : TankFields) : Int :=
  match g with
  | .shore => f.gauge
  | .ship ref longitudinal transverse lbp =>
    ref - clampInt 0 ref (correctedUllage f.gauge longitudinal transverse (trimSlope c lbp) (listSlope c))

/-- The corrected ullage was clamped (R70). -/
def ullageClamped (g : Geometry) (c : Option ShipCondition) (f : TankFields) : Bool :=
  match g with
  | .shore => false
  | .ship ref longitudinal transverse lbp =>
    let u := correctedUllage f.gauge longitudinal transverse (trimSlope c lbp) (listSlope c)
    clampInt 0 ref u != u

/-- TRIM_CLAMPED for the geometry (R69). -/
def trimMark (g : Geometry) (c : Option ShipCondition) : Bool :=
  match g with
  | .shore => false
  | .ship _ _ _ lbp => slopesClamped c lbp

/-! ### Stages 3 and 4 (R71, R72) -/

/-- The volume at a level: interpolated below the top level, the top volume at or above it (R71). -/
def volumeAt : List Breakpoint → Int → Int
  | [], _ => 0
  | [p], _ => p.volume
  | p :: q :: rest, level =>
    if level < q.level then
      p.volume + roundDiv (((q.volume : Int) - p.volume) * (level - p.level)) (q.level - p.level)
    else volumeAt (q :: rest) level

/-- The top level of a table (R10). -/
def topLevel (table : List Breakpoint) : Nat :=
  match table.getLast? with
  | some p => p.level
  | none => 0

/-- The top volume of a table (R10). -/
def topVolume (table : List Breakpoint) : Nat :=
  match table.getLast? with
  | some p => p.volume
  | none => 0

/-- The water level brought down to L (R72). -/
def waterLevel (water : Nat) (level : Int) : Int := if level < water then level else water

/-- FW (R72). -/
def freeWater (table : List Breakpoint) (water : Option Nat) (level : Int) : Int :=
  match water with
  | some w => volumeAt table (waterLevel w level)
  | none => 0

/-- The water level lay above L (R72). -/
def waterClamped (water : Option Nat) (level : Int) : Bool :=
  match water with
  | some w => level < w
  | none => false

/-! ### Stage 5 (R73 to R75) -/

/-- A temperature in -4,000..+15,000 (R50). -/
def validTemperature (v : Int) : Bool := -4000 ≤ v && v ≤ 15000

/-- The values of the probes that count: a value at a position of the record, valid, with its height at most L (R73). -/
def countedValues : List Nat → List (Option Int) → Int → List Int
  | h :: hs, v :: vs, level =>
    match v with
    | some x =>
      if validTemperature x && decide ((h : Int) ≤ level) then x :: countedValues hs vs level
      else countedValues hs vs level
    | none => countedValues hs vs level
  | _, _, _ => []

/-- The probe values of a reading by position. -/
def probeValues (f : TankFields) : List (Option Int) := [f.probe1, f.probe2, f.probe3]

/-- The mean of the counted values, rounded (R74). -/
def meanTemperature (vs : List Int) : Int := roundDiv vs.sum vs.length

/-- The temperature used (R74, R75): the mean of the counted values, else the one held. -/
def temperatureUsed (counted : List Int) (held : Option Int) : Option Int :=
  match counted with
  | [] => held
  | _ => some (meanTemperature counted)

/-! ### Stages 6 to 8 (R76 to R78) -/

/-- The VCF before clamping (R76). -/
def rawVcf (a b : Nat) (temperature : Int) : Int :=
  let dT := temperature - 1500
  1000000 - roundDiv ((a : Int) * dT * 10000 + (b : Int) * (dT * dT)) 10000000

/-- The VCF (R76). -/
def vcfOf (a b : Nat) (temperature : Int) : Int := clampInt 850000 1050000 (rawVcf a b temperature)

/-- The VCF was clamped (R76). -/
def vcfWasClamped (a b : Nat) (temperature : Int) : Bool := vcfOf a b temperature != rawVcf a b temperature

/-- The shell factor at a shell temperature (R77). -/
def shellFactor (temperature : Int) : Int := 1000000 + roundDiv (24 * (temperature - 1500)) 100

/-- The shell temperature of a shore tank: the reading's where present and valid, else the temperature used (R77). -/
def shellTemperature (posted used : Option Int) : Option Int :=
  match posted with
  | some v => if validTemperature v then some v else used
  | none => used

/-- The shell factor of a figure; ship tanks have none (R77). -/
def figureShell (g : Geometry) (posted used : Option Int) : Option Int :=
  match g with
  | .shore => (shellTemperature posted used).map shellFactor
  | .ship _ _ _ _ => none

/-- A volume times a factor in parts per million, rounded. -/
def timesPpm (v factor : Int) : Int := roundDiv (v * factor) 1000000

/-- The GSV from NOV, shell factor and VCF (R78). -/
def gsvOf (nov : Int) (shell : Option Int) (vcf : Int) : Int :=
  match shell with
  | some f => timesPpm (timesPpm nov f) vcf
  | none => timesPpm nov vcf

/-! ### The figure (R75, R79) -/

/-- A computation of a figure from the latest reading, with the temperature the figure held before (R79). -/
def computeFigure (b : TankBasis) (c : Option ShipCondition) (r : TankReading) (held : Option Int) : Figure :=
  let level := levelOf b.geometry c r.fields
  let tov := volumeAt b.table level
  let fw := freeWater b.table r.fields.water level
  let nov := tov - fw
  let counted := countedValues b.probes (probeValues r.fields) level
  let used := temperatureUsed counted held
  let marks : Marks :=
    { levelClamped := ullageClamped b.geometry c r.fields || decide ((topLevel b.table : Int) < level)
        || waterClamped r.fields.water level
      trimClamped := trimMark b.geometry c
      tempHeld := counted.isEmpty && held.isSome
      noTemp := used.isNone
      vcfClamped := match used with
        | some t => vcfWasClamped b.a b.b t
        | none => false
      tableHeld := false }
  let volumes : Volumes := { tov, fw, nov, readingTime := r.arrival }
  let shell := figureShell b.geometry r.fields.shell used
  match used with
  | some t =>
    { status := .current, volumes := some volumes, temperature := some t, shell, vcf := some (vcfOf b.a b.b t),
      gsv := some (gsvOf nov shell (vcfOf b.a b.b t)), marks }
  | none =>
    if nov = 0 then
      { status := .current, volumes := some volumes, temperature := none, shell, vcf := none, gsv := some 0, marks }
    else
      { status := .none, volumes := some volumes, temperature := none, shell := none, vcf := none, gsv := none, marks }

/-- What R80 does to a figure whose source left force. -/
def holdFigure (f : Figure) : Figure :=
  { f with
    status := if f.status = .none then .none else .held
    marks := { f.marks with tableHeld := true } }

/-- A computation is due for a tank (R84): made from its latest reading where every source is IN_FORCE; where one is not, a
CURRENT figure becomes HELD and any other stays (R68, R79, R80). -/
def computeTank (t : TankId) (s : State) : State :=
  let k := s.tank t
  match k.reading with
  | none => s
  | some r =>
    match s.tankBasis t with
    | some b => setTank t { k with figure := computeFigure b s.shipCondition r k.figure.temperature } s
    | none => if k.figure.status = .current then setTank t { k with figure := holdFigure k.figure } s else s

/-- A source of a tank's figure leaves force (R80). -/
def holdTank (t : TankId) (s : State) : State :=
  setTank t { s.tank t with figure := holdFigure (s.tank t).figure } s

/-- The latest reading is dropped and the figure cleared (R62, R82). -/
def clearTank (t : TankId) (s : State) : State := setTank t .reset s

def computeTanks (ts : List TankId) (s : State) : State := ts.foldl (fun s t => computeTank t s) s

def holdTanks (ts : List TankId) (s : State) : State := ts.foldl (fun s t => holdTank t s) s

def clearTanks (ts : List TankId) (s : State) : State := ts.foldl (fun s t => clearTank t s) s

/-- S01 to S32. -/
def shipTankIds : List TankId := allShipTanks.map .ship

/-! ### Staleness and views (R64, R65, R87) -/

/-- The staleness limit of the side a tank's readings come from (R64). -/
def State.tankLimit (s : State) : TankId → Nat
  | .ship _ => s.settingsInUse.shipStaleness
  | .shore _ => s.settingsInUse.shoreStaleness

/-- The latest ship condition is present and stale (R64). -/
def State.conditionStale (s : State) : Bool :=
  match s.shipCondition with
  | some c => exceeds s.clock c.arrival s.settingsInUse.shipStaleness
  | none => false

/-- A tank is STALE (R65). -/
def State.tankStale (s : State) (t : TankId) : Bool :=
  match (s.tank t).reading with
  | none => false
  | some r =>
    exceeds s.clock r.arrival (s.tankLimit t)
      || (match t with
          | .ship _ => s.conditionStale
          | .shore _ => false)

/-- The line conditions of a meter are stale (R64, R104). -/
def State.lineStale (s : State) (m : Fin 4) : Bool :=
  match (s.channel m).lineConditions with
  | some c => exceeds s.clock c.arrival s.settingsInUse.shoreStaleness
  | none => false

/-- The trim slope a view reports: 0 while the vessel record is not IN_FORCE (R87). -/
def State.viewTrimSlope (s : State) : Int :=
  match s.vesselInForce with
  | some v => trimSlope s.shipCondition v.lbp
  | none => 0

/-- The ship condition as a view reports it (R87, R167). -/
def State.conditionView (s : State) : ConditionView :=
  { condition := s.shipCondition, trimSlope := s.viewTrimSlope, listSlope := listSlope s.shipCondition,
    stale := s.conditionStale }

/-- The tank entry of a view (R87, R167). -/
def State.tankView (s : State) (t : TankId) : TankCopy :=
  { reading := (s.tank t).reading, figure := (s.tank t).figure, stale := s.tankStale t }

end Sys2Proof.Machine
end

