-- ==== Sys2Proof/Machine/Meters.lean ====
section
/-! DEFINITION. The meter channels: mode (R93), samples (R94 to R98, R100), the accumulator set (R99, R101) and the meter part
of a parcel's figures (R104). -/

namespace Sys2Proof.Machine

open Sys2Proof

/-- The mode of a channel (R93). -/
def State.channelMode (s : State) (m : Fin 4) : ChannelMode :=
  match s.meterParcel m with
  | none => .idle
  | some p =>
    if isLive (s.parcel p).state then
      if (s.meterInForce m).isSome && (s.parcelInForce p).isSome then .running else .waiting
    else .idle

/-- The pulse difference of a sample, modulo 2^32 (R94). -/
def pulseDifference (c : Channel) : Nat := (c.pulses - c.lastCount).toNat

/-- The span of a sample in tenths (R94). -/
def sampleSpan (now : Clock) (c : Channel) : Nat := elapsed now c.lastTime

/-- The rate test finds the rate exceeded; with a span of 0 no test is made (R94). -/
def rateExceeded (maxRate difference span : Nat) : Bool := span != 0 && decide (maxRate * span < difference * 10)

/-- The over-rate mark after the rate test; with a span of 0 it is left as it was (R94). -/
def markAfter (maxRate difference span : Nat) (mark : Bool) : Bool :=
  if span = 0 then mark else rateExceeded maxRate difference span

/-- The indicated volume of a sample, mL (R95). -/
def indicatedVolume (difference kFactor : Nat) : Nat := (roundDiv ((difference : Int) * 1000000) kFactor).toNat

/-- A volume in mL times a factor in parts per million, rounded (R96, R97). -/
def factored (volume : Nat) (factor : Int) : Nat := (timesPpm volume factor).toNat

/-- The line VCF of a sample (R97). -/
def lineVcf (r : ParcelRecord) (c : Option LineConditions) : Int :=
  match c with
  | some c => vcfOf r.a r.b c.temperature
  | none => 1000000

/-- An accumulator holds at 2^63 - 1 (R98). -/
def accumulate (total volume : Nat) : Nat := min (total + volume) 9223372036854775807

/-- The accumulator set after a RUNNING sample (R95 to R98). -/
def addSample (now : Clock) (meter : MeterRecord) (parcel : ParcelRecord) (c : Channel) (a : AccumulatorSet) :
    AccumulatorSet :=
  let difference := pulseDifference c
  let iv := indicatedVolume difference meter.kFactor
  let gov := factored iv meter.meterFactor
  let gsv := factored gov (lineVcf parcel c.lineConditions)
  { a with
    indicated := accumulate a.indicated iv
    gross := accumulate a.gross gov
    standard := accumulate a.standard gsv
    overRate := a.overRate || rateExceeded meter.maxRate difference (sampleSpan now c)
    lineTempMissing := a.lineTempMissing || c.lineConditions.isNone }

/-- The last sampled count and time advance to the counter and the clock (R94, R99). -/
def advanceSample (now : Clock) (c : Channel) : Channel := { c with lastCount := c.pulses, lastTime := now }

/-- A channel after a RUNNING sample (R94 to R98). -/
def runningSample (now : Clock) (meter : MeterRecord) (parcel : ParcelRecord) (c : Channel) : Channel :=
  advanceSample now
    { c with
      overRate := markAfter meter.maxRate (pulseDifference c) (sampleSpan now c) c.overRate
      lastLineVcf := some (lineVcf parcel c.lineConditions)
      accumulators := c.accumulators.map (addSample now meter parcel c) }

/-- A channel after an IDLE sample (R94). -/
def idleSample (now : Clock) (meter : Option MeterRecord) (c : Channel) : Channel :=
  advanceSample now
    { c with
      overRate := match meter with
        | some r => markAfter r.maxRate (pulseDifference c) (sampleSpan now c) c.overRate
        | none => false }

/-- The RUNNING sample of a channel where it is RUNNING; nothing otherwise (R94, R100). -/
def closingSample (m : Fin 4) (s : State) : State :=
  match s.meterParcel m with
  | none => s
  | some p =>
    if isLive (s.parcel p).state then
      match s.meterInForce m, s.parcelInForce p with
      | some meter, some parcel => setChannel m (runningSample s.clock meter parcel (s.channel m)) s
      | _, _ => s
    else s

/-- A timer sample by mode (R94). -/
def takeSample (m : Fin 4) (s : State) : State :=
  match s.channelMode m with
  | .idle => setChannel m (idleSample s.clock (s.meterInForce m) (s.channel m)) s
  | .running => closingSample m s
  | .waiting => s

/-- The metered figure, litres (R101). -/
def meteredFigure (a : AccumulatorSet) : Int := roundDiv a.standard 1000

/-- A zero accumulator set with its flags clear (R99). -/
def zeroAccumulators (p : Fin 6) : AccumulatorSet :=
  { parcel := p, indicated := 0, gross := 0, standard := 0, interrupted := false, overRate := false,
    lineTempMissing := false }

/-- The accumulator set of a channel is replaced (R99, R102). -/
def setAccumulators (m : Fin 4) (a : Option AccumulatorSet) (s : State) : State :=
  setChannel m { s.channel m with accumulators := a } s

/-- The opening fix at a channel: a zero set, and the counter taken afresh (R99). -/
def openChannel (p : Fin 6) (m : Fin 4) (s : State) : State :=
  setChannel m (advanceSample s.clock { s.channel m with accumulators := some (zeroAccumulators p) }) s

/-- The accumulator set of a parcel's bound channel. -/
def State.parcelAccumulators (s : State) (p : Fin 6) : Option AccumulatorSet :=
  (s.boundMeter p).bind fun m => (s.channel m).accumulators

/-- The metered figure of a parcel, where it has a meter (R101). -/
def State.parcelMetered (s : State) (p : Fin 6) : Option Int := (s.parcelAccumulators p).map meteredFigure

/-- The meter part of a parcel's figures (R104). -/
def State.meterPart (s : State) (p : Fin 6) : Option MeterPart :=
  match s.boundMeter p with
  | none => none
  | some m =>
    (s.channel m).accumulators.map fun a =>
      { meter := m, mode := s.channelMode m, accumulators := a, metered := meteredFigure a,
        overRateMark := (s.channel m).overRate, lastLineVcf := (s.channel m).lastLineVcf,
        lineConditions := (s.channel m).lineConditions, lineStale := s.lineStale m }

end Sys2Proof.Machine
end

