-- ==== Sys2Proof/Machine/Comparisons.lean ====
section
/-! DEFINITION. The evaluation of a parcel (R137 to R148), the final evaluation and record (R156, R157), live figures (R154),
checkpoints (R199) and the alarm line (R152). -/

namespace Sys2Proof.Machine

open Sys2Proof

/-! ### Fresh comparisons (R149) -/

def zeroCounters : ResultCounters := { within := 0, watch := 0, outside := 0, notEvaluated := 0 }

def freshComparison : Comparison := { history := [], discrepant := false, last := none, counters := zeroCounters }

/-- The comparison items after an opening fix and on entering DEFINED (R148, R149). -/
def freshItems (r : ParcelRecord) : CompItems :=
  { ship := freshComparison, meter := r.meter.map fun _ => freshComparison, lastQuantities := none, lastQmeter := none,
    lastKind := none, evaluations := 0, degraded := 0 }

/-! ### Totals and quantities (R138, R139) -/

/-- The GSV of a tank; 0 where the figure has none. -/
def State.tankGsv (s : State) (t : TankId) : Int := ((s.tank t).figure.gsv).getD 0

/-- The GSVs of a parcel's ship tanks in list order. -/
def State.shipVolumes (s : State) (r : ParcelRecord) : List Int := r.shipTanks.map fun n => s.tankGsv (.ship n)

/-- The GSVs of a parcel's shore tanks in list order. -/
def State.shoreVolumes (s : State) (r : ParcelRecord) : List Int := r.shoreTanks.map fun n => s.tankGsv (.shore n)

/-- Some tank of the parcel has status NONE (R137). -/
def State.someTankNone (s : State) (r : ParcelRecord) : Bool :=
  (tanksNamed r).any fun t => (s.tank t).figure.status == .none

/-- A tank that degrades an evaluation: HELD, TABLE_HELD or STALE (R137). -/
def State.tankDegrades (s : State) (t : TankId) : Bool :=
  (s.tank t).figure.status == .held || (s.tank t).figure.marks.tableHeld || s.tankStale t

/-- The transferred quantities from totals (R138, R139). -/
def quantitiesOf (r : ParcelRecord) (o : OpeningFigures) (shipTotal shoreTotal : Int) : Quantities :=
  let qShip := match r.direction with
    | .discharge => o.shipTotal - shipTotal
    | .load => shipTotal - o.shipTotal
  let qShore := match r.direction with
    | .discharge => shoreTotal - o.shoreTotal
    | .load => o.shoreTotal - shoreTotal
  let qAdj := if r.applyVef then roundDiv (qShip * 1000000) o.vef else qShip
  { shipTotal, shoreTotal, qShip, qAdj, qShore }

/-- The tank quantities as they stand; none where a tank is NONE, the parcel record is not IN_FORCE or there are no opening
figures (R137, R154). -/
def State.currentQuantities (s : State) (p : Fin 6) : Option Quantities :=
  match s.parcelInForce p, (s.parcel p).opening with
  | some r, some o =>
    if s.someTankNone r then none else some (quantitiesOf r o (s.shipVolumes r).sum (s.shoreVolumes r).sum)
  | _, _ => none

/-- The kind of an evaluation (R137). -/
def State.evaluationKind (s : State) (p : Fin 6) : EvalKind :=
  match s.currentQuantities p, s.parcelInForce p with
  | some _, some r => if (tanksNamed r).any s.tankDegrades then .degraded else .clean
  | _, _ => .incomplete

/-! ### One comparison (R140 to R142) -/

/-- What one comparison comes to. -/
structure CompOutcome where
  result : CompResult
  difference : Option Int
  ratio : Option Int
  deriving DecidableEq, Repr

/-- The ratio of a difference to the shore quantity, rounded and saturated (R140). -/
def ratioOf (difference qShore : Int) : Int :=
  clampInt (-999999) 999999 (roundDiv (difference * 1000000) qShore.toNat)

/-- The grade of a ratio (R141). -/
def gradeOf (watchBand alarmBand : Nat) (ratio : Int) : Grade :=
  if ratio.natAbs ≤ watchBand then .within else if ratio.natAbs ≤ alarmBand then .watch else .outside

/-- A difference against the shore quantity: BELOW_MINIMUM, or graded (R140, R142). -/
def gradeDifference (r : ParcelRecord) (difference qShore : Int) : CompOutcome :=
  if (baseMinimumOf r : Int) ≤ qShore then
    let ratio := ratioOf difference qShore
    { result := .graded (gradeOf (watchBandOf r) (alarmBandOf r) ratio), difference := some difference,
      ratio := some ratio }
  else { result := .notEvaluated .belowMinimum, difference := some difference, ratio := none }

/-- The outcome of an INCOMPLETE evaluation (R137). -/
def incompleteOutcome : CompOutcome := { result := .notEvaluated .incomplete, difference := none, ratio := none }

/-- The ship comparison (R140). -/
def shipOutcome (r : ParcelRecord) (q : Quantities) : CompOutcome := gradeDifference r (q.qAdj - q.qShore) q.qShore

/-- The meter comparison (R142). -/
def meterOutcome (r : ParcelRecord) (waiting : Bool) (q : Quantities) (qMeter : Int) : CompOutcome :=
  if waiting then
    { result := .notEvaluated .meterWaiting, difference := some (qMeter - q.qShore), ratio := none }
  else gradeDifference r (qMeter - q.qShore) q.qShore

/-- The channel bound to the parcel is WAITING. -/
def State.meterWaiting (s : State) (p : Fin 6) : Bool :=
  match s.boundMeter p with
  | some m => s.channelMode m == .waiting
  | none => false

/-- Both outcomes of an evaluation as the figures stand. -/
def State.outcomes (s : State) (p : Fin 6) : CompOutcome × CompOutcome :=
  match s.currentQuantities p, s.parcelInForce p with
  | some q, some r => (shipOutcome r q, meterOutcome r (s.meterWaiting p) q ((s.parcelMetered p).getD 0))
  | _, _ => (incompleteOutcome, incompleteOutcome)

/-! ### Histories, declared states and counters (R145, R146, R148) -/

/-- The counter of the result rises by one (R148). -/
def countResult (c : ResultCounters) : CompResult → ResultCounters
  | .graded .within => { c with within := count16 c.within }
  | .graded .watch => { c with watch := count16 c.watch }
  | .graded .outside => { c with outside := count16 c.outside }
  | .notEvaluated _ => { c with notEvaluated := count16 c.notEvaluated }

/-- An entry joins a history; the oldest of 11 leaves (R145). -/
def enterHistory (h : List HistoryEntry) (e : HistoryEntry) : List HistoryEntry :=
  if 10 ≤ h.length then h.tail ++ [e] else h ++ [e]

/-- The OUTSIDE entries of a history. -/
def outsideCount (h : List HistoryEntry) : Nat := h.countP fun e => e.grade == .outside

/-- The declared state after an entry (R146). -/
def reconsider (kd kc : Nat) (h : List HistoryEntry) (discrepant : Bool) : Bool :=
  if kd ≤ outsideCount h then true else if outsideCount h ≤ kc then false else discrepant

/-- A comparison after one evaluation; only an evaluation in TRANSFER enters its graded result (R145, R147). -/
def evaluated (r : Option ParcelRecord) (inTransfer : Bool) (now : Clock) (o : CompOutcome) (c : Comparison) :
    Comparison :=
  let counted := { c with counters := countResult c.counters o.result }
  let last (entered : Bool) : LastResult :=
    { result := o.result, difference := o.difference, ratio := o.ratio, entered, time := now }
  match o.result, r with
  | .graded g, some r =>
    if inTransfer then
      let h := enterHistory c.history { grade := g, time := now }
      { counted with
        history := h
        discrepant := reconsider (declareCountOf r) (clearCountOf r) h c.discrepant
        last := some (last true) }
    else { counted with last := some (last false) }
  | _, _ => { counted with last := some (last false) }

/-- The comparison items after one evaluation at an interval expiry (R143, R147, R148). -/
def State.evaluatedItems (s : State) (p : Fin 6) (items : CompItems) : CompItems :=
  let r := s.parcelInForce p
  let inTransfer := (s.parcel p).state == .transfer
  let kind := s.evaluationKind p
  { ship := evaluated r inTransfer s.clock (s.outcomes p).1 items.ship
    meter := items.meter.map (evaluated r inTransfer s.clock (s.outcomes p).2)
    lastQuantities := s.currentQuantities p
    lastQmeter := s.parcelMetered p
    lastKind := some kind
    evaluations := count16 items.evaluations
    degraded := if kind = .degraded then count16 items.degraded else items.degraded }

/-- What an INTERVAL record says of a comparison (R144). -/
def intervalResult (o : CompOutcome) (before after : Comparison) : IntervalResult :=
  { result := o.result, ratio := o.ratio, discrepant := after.discrepant,
    changed := before.discrepant != after.discrepant }

/-- The INTERVAL record of an evaluation (R144). -/
def State.intervalRecord (s : State) (p : Fin 6) (before after : CompItems) : IntervalRecord :=
  { parcel := p
    state := (s.parcel p).state
    qAdj := ((s.currentQuantities p).map fun q => q.qAdj).getD 0
    qShore := ((s.currentQuantities p).map fun q => q.qShore).getD 0
    qMeter := s.parcelMetered p
    ship := intervalResult (s.outcomes p).1 before.ship after.ship
    meter := match before.meter, after.meter with
      | some b, some a => some (intervalResult (s.outcomes p).2 b a)
      | _, _ => none
    mark := s.evaluationKind p }

/-! ### Checkpoints (R199, R201) -/

/-- The checkpoint of a slot that holds `v` (R199). -/
def State.checkpointWith (s : State) (p : Fin 6) (v : Parcel) : Checkpoint :=
  { state := v.state
    recordDigest := (s.slot (.parcel p)).current.map fun c => c.digest
    reason := v.reason
    suspensions := v.suspensions
    opening := v.opening
    closing := v.closing
    final := v.final
    accumulators := s.parcelAccumulators p
    comparisons := v.comparisons }

/-- The checkpoint of a slot as it stands (R199). -/
def State.checkpointOf (s : State) (p : Fin 6) : Checkpoint := s.checkpointWith p (s.parcel p)

/-- The writer is given the slot's checkpoint (R201). -/
def giveCheckpoint (p : Fin 6) (s : State) : State :=
  giveWrite (.checkpoint p) (.checkpoint (s.checkpointOf p) (checkpointCheck (s.checkpointOf p))) s

/-- The writer is given the removal of the slot's checkpoint (R201). -/
def removeCheckpoint (p : Fin 6) (s : State) : State := giveWrite (.checkpoint p) .removal s

/-- The writer is given the removal of a record (R201). -/
def removeRecord (k : RecordSlot) (s : State) : State := giveWrite (.record k) .removal s

/-! ### The interval expiry (R136) -/

/-- The items a live parcel evaluates from. A live parcel always has them (R148). -/
def State.itemsOf (s : State) (p : Fin 6) : CompItems :=
  (s.parcel p).comparisons.getD
    { ship := freshComparison, meter := (s.boundMeter p).map fun _ => freshComparison, lastQuantities := none,
      lastQmeter := none, lastKind := none, evaluations := 0, degraded := 0 }

/-- One live parcel is evaluated; any other is left as it stands (R136). -/
def evaluateParcel (p : Fin 6) (s : State) : State :=
  if isLive (s.parcel p).state then
    let before := s.itemsOf p
    let after := s.evaluatedItems p before
    giveCheckpoint p
      (appendTrail (.interval (s.intervalRecord p before after))
        (setParcel p { s.parcel p with comparisons := some after } s))
  else s

def evaluateParcels (ps : List (Fin 6)) (s : State) : State := ps.foldl (fun s p => evaluateParcel p s) s

/-! ### The alarm line (R152) and the alarm summary (R153) -/

/-- Some comparison of the items is DISCREPANT. -/
def itemsDiscrepant (i : CompItems) : Bool :=
  i.ship.discrepant || (match i.meter with
    | some c => c.discrepant
    | none => false)

/-- A live parcel with a DISCREPANT comparison. -/
def parcelAlarms (v : Parcel) : Bool :=
  isLive v.state && (match v.comparisons with
    | some i => itemsDiscrepant i
    | none => false)

/-- The condition of the alarm line (R152). -/
def State.alarmDue (s : State) : Bool := allParcels.any fun p => parcelAlarms (s.parcel p)

/-- The reconciliation unit sets the line (R152). -/
def setAlarm (s : State) : State := setAlarmLine s.alarmDue s

/-- A live parcel whose last evaluation was DEGRADED or INCOMPLETE (R153). -/
def parcelDegraded (v : Parcel) : Bool :=
  isLive v.state && (match v.comparisons with
    | some i => i.lastKind == some .degraded || i.lastKind == some .incomplete
    | none => false)

def State.anyDegraded (s : State) : Bool := allParcels.any fun p => parcelDegraded (s.parcel p)

/-- The alarm relay contact is closed: the line is deasserted and the unit is powered (R152, R196). -/
def State.contactClosed (s : State) : Bool := !s.alarm && s.powered

/-! ### Live figures (R154) -/

/-- The live figures of a live parcel (R154). -/
def State.liveFigures (s : State) (p : Fin 6) : Option LiveFigures :=
  if isLive (s.parcel p).state then
    some { quantities := s.currentQuantities p, qMeter := s.parcelMetered p }
  else none

/-! ### The final record (R156, R157) -/

/-- A comparison of the final record. -/
def finalComparison (o : CompOutcome) (c : Comparison) : FinalComparison :=
  { difference := o.difference.getD 0, ratio := o.ratio, result := o.result, discrepant := c.discrepant,
    counters := c.counters }

/-- The opening and closing GSV of the tanks of a list, in order. -/
def finalTanks {n : Nat} : List (Fin n) → List Int → List Int → List (FinalTank n)
  | t :: ts, o :: os, c :: cs => { tank := t, opening := o, closing := c } :: finalTanks ts os cs
  | _, _, _ => []

/-- The final record, built from the opening and closing figures, with `waiting` saying whether the bound channel was WAITING
at the close (R156, R157). -/
def finalRecord (p : Fin 6) (r : ParcelRecord) (o : OpeningFigures) (c : ClosingFigures) (items : CompItems)
    (suspensions : Nat) (waiting : Bool) (accumulators : Option AccumulatorSet) : FinalRecord :=
  let q := quantitiesOf r o c.shipTotal c.shoreTotal
  { parcel := p
    grade := r.grade
    direction := r.direction
    openingTime := o.time
    closingTime := c.time
    shipTanks := finalTanks r.shipTanks o.shipVolumes c.shipVolumes
    shoreTanks := finalTanks r.shoreTanks o.shoreVolumes c.shoreVolumes
    openingShipTotal := o.shipTotal
    openingShoreTotal := o.shoreTotal
    closingShipTotal := c.shipTotal
    closingShoreTotal := c.shoreTotal
    qShip := q.qShip
    vefUsed := if r.applyVef then some o.vef else none
    qAdj := q.qAdj
    qShore := q.qShore
    ship := finalComparison (shipOutcome r q) items.ship
    meter := match c.metered, accumulators, items.meter with
      | some v, some a, some m =>
        some { metered := v, interrupted := a.interrupted, overRate := a.overRate, lineTempMissing := a.lineTempMissing,
               comparison := finalComparison (meterOutcome r waiting q v) m }
      | _, _, _ => none
    evaluations := items.evaluations
    suspensions := suspensions
    degraded := items.degraded }

end Sys2Proof.Machine
end

