-- ==== Sys2Proof/Machine/ParcelOps.lean ====
section
/-! DEFINITION. The parcel manager's operations: a change of slot state with its hand-offs (R111, R112, R117), the fixes (R119,
R120, R127, R128), CALL CLEAR (R131) and the deciding of declarations (R113 to R116). -/

namespace Sys2Proof.Machine

open Sys2Proof

/-! ### The concurrence table (R113, R117) -/

/-- The states of its subject in which a parcel declaration is allowed (R113). -/
def kindAllowed : DeclKind → ParcelState → Bool
  | .opening, st => st == .defined
  | .resume, st => st == .suspended || st == .settling
  | .closing, st => st == .settling
  | .abandon, st => st == .proposed || st == .defined || st == .transfer || st == .suspended || st == .settling
  | .release, st => st == .closed || st == .abandoned
  | .callClear, _ => false

/-- FREE, CLOSED and ABANDONED, the states CALL CLEAR allows of every slot (R113). -/
def allowsCallClear (st : ParcelState) : Bool := st == .free || st == .closed || st == .abandoned

/-- An entry that stays when slot `p` has entered state `st` (R117). -/
def entryStays (p : Fin 6) (st : ParcelState) (e : Concurrence) : Bool :=
  match e.subject with
  | .parcel q => q != p || kindAllowed e.kind st
  | .unit => allowsCallClear st

/-- The entries the slot's state does not allow are removed (R117). -/
def pruneConcurrence (p : Fin 6) (s : State) : State :=
  setConcurrence (s.concurrence.filter (entryStays p (s.parcel p).state)) s

/-- The entry of a subject and kind. -/
def State.entry (s : State) (subject : Subject) (kind : DeclKind) : Option Concurrence :=
  s.concurrence.find? fun e => e.subject == subject && e.kind == kind

/-- The entry of a subject and kind is removed. -/
def removeEntry (subject : Subject) (kind : DeclKind) (s : State) : State :=
  setConcurrence (s.concurrence.filter fun e => !(e.subject == subject && e.kind == kind)) s

/-! ### Changes of state (R111) -/

/-- The hand-offs of a change of state to any state but FREE, once the slot and what depends on it stand (R111). -/
def announce (p : Fin 6) (d : StateDetail) (s : State) : State :=
  setAlarm (giveCheckpoint p (appendTrail (.parcelState p (s.parcel p).state d) (pruneConcurrence p s)))

/-- The slot is FREE with no items, and the accumulator set of the meter it was bound to is absent (R99, R112). -/
def emptyParcel (p : Fin 6) (m : Option (Fin 4)) (s : State) : State :=
  let s := setParcel p .reset s
  match m with
  | some m => setAccumulators m none s
  | none => s

/-- The entries of a slot are pruned and PARCEL_STATE FREE is appended (R111, R112, R117). -/
def announceFree (p : Fin 6) (unilateral : Bool) (s : State) : State :=
  appendTrail (.parcelState p .free (.unilateral unilateral)) (pruneConcurrence p s)

/-- A slot leaves PROPOSED for FREE, its pending version already gone; `m` is the meter that version named (R112). -/
def leaveProposed (p : Fin 6) (m : Option (Fin 4)) (unilateral : Bool) (s : State) : State :=
  setAlarm (removeCheckpoint p (announceFree p unilateral (emptyParcel p m s)))

/-- A pending version is removed with outcome REJECTED: its points are freed, the outcome and trail record follow, a tank
without a current version is cleared, and a parcel slot in PROPOSED returns to FREE (R16, R22, R24, R62, R82, R110). -/
def rejectPending (k : RecordSlot) (d : RejectDetail) (unilateral : Bool) (s : State) : State :=
  match (s.slot k).pending with
  | none => s
  | some v =>
    let removed := setPoolFree (s.poolFree + v.declaredPoints) (setSlot k { s.slot k with pending := none } s)
    let s' := setOutcome k (.rejected d) removed
    match k with
    | .ship n => if (s.slot k).current.isNone then clearTank (.ship n) s' else s'
    | .shore n => if (s.slot k).current.isNone then clearTank (.shore n) s' else s'
    | .parcel p =>
      if (s.parcel p).state = .proposed then leaveProposed p (s.boundMeter p) unilateral s' else s'
    | _ => s'

/-- The tanks named by the slot's current record. -/
def State.parcelTanks (s : State) (p : Fin 6) : List TankId :=
  match s.parcelRecord p with
  | some r => tanksNamed r
  | none => []

/-- The current parcel record leaves its slot with outcome REMOVED, then a pending restoring version is rejected (R112). -/
def removeParcelVersions (p : Fin 6) (s : State) : State :=
  let k := RecordSlot.parcel p
  let s1 := setOutcome k .removed (setSlot k { s.slot k with current := none } s)
  if (s1.slot k).pending.isSome then
    setOutcome k (.rejected .withdrawn) (setSlot k { s1.slot k with pending := none } s1)
  else s1

/-- A return to FREE from DEFINED, CLOSED or ABANDONED by WITHDRAW or RELEASE (R112). -/
def endParcel (p : Fin 6) (unilateral : Bool) (s : State) : State :=
  let ended := emptyParcel p (s.boundMeter p) (removeParcelVersions p s)
  setAlarm
    (removeCheckpoint p
      (removeRecord (.parcel p) (announceFree p unilateral (computeTanks (s.parcelTanks p) ended))))

/-- The slot enters PROPOSED with the record `r` now pending (R27, R99, R110). -/
def enterProposed (p : Fin 6) (r : ParcelRecord) (s : State) : State :=
  let s1 := setParcel p { Parcel.reset with state := .proposed } s
  let s2 := match r.meter with
    | some m => setAccumulators m (some (zeroAccumulators p)) s1
    | none => s1
  announce p .plain s2

/-- A DEFINED slot's items for the record `r` (R109, R148). -/
def definedParcel (r : ParcelRecord) : Parcel :=
  { Parcel.reset with state := .defined, suspensions := some 0, comparisons := some (freshItems r) }

/-- The slot enters DEFINED with the record `r` now in force; its tanks are computed (R85, R110). -/
def enterDefined (p : Fin 6) (r : ParcelRecord) (s : State) : State :=
  announce p .plain (computeTanks (tanksNamed r) (setParcel p (definedParcel r) s))

/-! ### Opening (R119 to R121) -/

/-- A tank meets the opening and closing conditions (R119, R127). -/
def State.tankReady (s : State) (t : TankId) : Bool :=
  (s.tank t).figure.status == .current && !(s.tank t).figure.marks.tableHeld && !s.tankStale t

/-- The conditions of the OPEN step (R119). -/
def State.openReady (s : State) (p : Fin 6) : Bool :=
  match s.parcelRecord p with
  | none => false
  | some r =>
    (tanksNamed r).all s.tankReady && s.shipCondition.isSome
      && (match r.meter with
          | some m => (s.meterInForce m).isSome
          | none => true)

/-- The opening figures as the figures stand (R120). A ship tank that is CURRENT has the vessel record in force (R119). -/
def State.openingFigures (s : State) (r : ParcelRecord) : OpeningFigures :=
  { time := s.clock, shipVolumes := s.shipVolumes r, shoreVolumes := s.shoreVolumes r,
    shipTotal := (s.shipVolumes r).sum, shoreTotal := (s.shoreVolumes r).sum,
    vef := (s.vesselInForce.map fun v => v.vef).getD 1000000 }

/-- The slot after the opening fix (R120, R121). -/
def openedParcel (o : OpeningFigures) (r : ParcelRecord) (v : Parcel) : Parcel :=
  { v with
    state := .transfer
    opening := some o
    suspensions := some 0
    comparisons := some (freshItems r) }

/-- The OPEN step (R120, R121). -/
def openParcel (p : Fin 6) (s : State) : State :=
  match s.parcelRecord p with
  | none => s
  | some r =>
    let s1 := setParcel p (openedParcel (s.openingFigures r) r (s.parcel p)) s
    let s2 := match r.meter with
      | some m => openChannel p m s1
      | none => s1
    announce p .plain s2

/-! ### Suspension, settling, resumption (R122 to R126) -/

/-- The slot enters SUSPENDED with a reason; its count rises (R122, R123). -/
def suspendParcel (p : Fin 6) (reason : SuspendReason) (s : State) : State :=
  let v := s.parcel p
  let count := count16 (v.suspensions.getD 0)
  announce p (.reason reason count)
    (setParcel p { v with state := .suspended, reason := some reason, suspensions := some count } s)

/-- The settle timer started now with settle time `t` (R124). -/
def startSettle (now : Clock) (t : Nat) : SettleTimer := { start := now, settleTime := t, expired := t == 0 }

/-- The TRANSFER END step (R124). -/
def settleParcel (p : Fin 6) (s : State) : State :=
  announce p .plain
    (setParcel p
      { s.parcel p with
        state := .settling, reason := none, settle := some (startSettle s.clock s.settingsInUse.settleTime) } s)

/-- The RESUME step (R126). -/
def resumeParcel (p : Fin 6) (s : State) : State :=
  announce p .plain (setParcel p { s.parcel p with state := .transfer, reason := none, settle := none } s)

/-! ### Closing (R127, R128) -/

/-- A tank's latest reading arrived after settling began (R127). -/
def State.gaugedAfter (s : State) (start : Clock) (t : TankId) : Bool :=
  match (s.tank t).reading with
  | some r => laterThan r.arrival start
  | none => false

/-- The conditions of the CLOSE step (R127). -/
def State.closeReady (s : State) (p : Fin 6) : Bool :=
  match s.parcelRecord p, (s.parcel p).settle with
  | some r, some timer =>
    (tanksNamed r).all s.tankReady && (tanksNamed r).all (s.gaugedAfter timer.start)
      && (match s.shipCondition with
          | some c => laterThan c.arrival timer.start
          | none => false)
  | _, _ => false

/-- The closing figures as the figures stand (R128). -/
def State.closingFigures (s : State) (p : Fin 6) (r : ParcelRecord) : ClosingFigures :=
  { time := s.clock, shipVolumes := s.shipVolumes r, shoreVolumes := s.shoreVolumes r,
    shipTotal := (s.shipVolumes r).sum, shoreTotal := (s.shoreVolumes r).sum, metered := s.parcelMetered p }

/-- The slot after the closing fix, in the state the closing sample left (R128, R157). -/
def State.closedParcel (s : State) (p : Fin 6) (r : ParcelRecord) (o : OpeningFigures) : Parcel :=
  let v := s.parcel p
  let c := s.closingFigures p r
  { v with
    state := .closed
    settle := none
    closing := some c
    final := some
      (finalRecord p r o c (s.itemsOf p) (v.suspensions.getD 0) (s.meterWaiting p) (s.parcelAccumulators p)) }

/-- The closing sample of the bound meter, if there is one (R100). -/
def sampleAtClose (p : Fin 6) (s : State) : State :=
  match s.boundMeter p with
  | some m => closingSample m s
  | none => s

/-- The CLOSE step (R128, R156, R157). -/
def closeParcel (p : Fin 6) (s : State) : State :=
  match s.parcelRecord p, (s.parcel p).opening with
  | some r, some o =>
    let s1 := sampleAtClose p s
    announce p .plain (setParcel p (s1.closedParcel p r o) s1)
  | _, _ => s

/-! ### Abandonment and release (R129, R130) -/

/-- The ABANDON step (R129). -/
def abandonParcel (p : Fin 6) (unilateral : Bool) (s : State) : State :=
  if (s.parcel p).state = .proposed then rejectPending (.parcel p) .withdrawn unilateral s
  else
    announce p (.unilateral unilateral)
      (setParcel p { s.parcel p with state := .abandoned, reason := none, settle := none } s)

/-- The RELEASE step (R130). -/
def releaseParcel (p : Fin 6) (unilateral : Bool) (s : State) : State := endParcel p unilateral s

/-! ### CALL CLEAR (R20, R55, R83, R131, R173) -/

/-- The points a slot's versions hold (R12). -/
def heldPoints (v : Slot) : Nat :=
  (match v.current with
    | some c => c.points.length
    | none => 0)
  + (match v.pending with
    | some c => c.declaredPoints
    | none => 0)

/-- A CLOSED or ABANDONED slot returns to FREE at CALL CLEAR; any other is left (R112, R131). -/
def callClearParcel (p : Fin 6) (s : State) : State :=
  match (s.parcel p).state with
  | .closed => removed
  | .abandoned => removed
  | _ => s
where
  removed : State :=
    removeCheckpoint p
      (removeRecord (.parcel p)
        (announceFree p false (emptyParcel p (s.boundMeter p) (setSlot (.parcel p) .reset s))))

/-- A vessel or ship tank slot is emptied and its points return to the pool (R16, R20). -/
def emptySlot (k : RecordSlot) (s : State) : State :=
  setSlot k .reset (setPoolFree (s.poolFree + heldPoints (s.slot k)) s)

/-- The vessel slot and S01 to S32. -/
def vesselSlots : List RecordSlot := .vessel :: allShipTanks.map .ship

/-- An intake queue is emptied; READING_DISCARDED is set where it held an entry (R55). -/
def emptyIntake (l : Link) (s : State) : State :=
  let u := s.link l
  if u.intake.isEmpty then s
  else setLink l { u with intake := [], report := { u.report with readingDiscarded := true } } s

/-- A hold buffer is released without HOLD_EXPIRED (R171, R173). -/
def dropHold (l : Link) (s : State) : State := setLink l { s.link l with hold := none } s

/-- The shore tanks named by the CLOSED and ABANDONED parcels. -/
def State.returningShoreTanks (s : State) : List TankId :=
  allParcels.flatMap fun p =>
    match (s.parcel p).state, s.parcelRecord p with
    | .closed, some r => r.shoreTanks.map .shore
    | .abandoned, some r => r.shoreTanks.map .shore
    | _, _ => []

/-- The clear (R131). -/
def callClear (s : State) : State :=
  let s1 := allParcels.foldl (fun s p => callClearParcel p s) s
  let s2 := vesselSlots.foldl (fun s k => removeRecord k (emptySlot k s)) s1
  let s3 := setShipCondition none (clearTanks shipTankIds s2)
  let s4 := computeTanks s.returningShoreTanks s3
  let s5 := dropHold .terminal (dropHold .ship (emptyIntake .terminal (emptyIntake .ship s4)))
  setAlarm (setConcurrence [] (appendTrail .callClear s5))

/-! ### Deciding a declaration (R114 to R116) -/

/-- The mode byte is one the kind takes: PAIRED, or UNILATERAL for ABANDON and RELEASE (R114, R188). -/
def modeAllowed (kind : DeclKind) (mode : Byte) : Bool :=
  mode == 0 || (mode == 1 && (kind == .abandon || kind == .release))

/-- Neither stop line is ASSERTED (R114). -/
def State.stopLinesClear (s : State) : Bool := !s.shipStop && !s.terminalStop

/-- The settle timer of a slot has expired (R114). -/
def settleExpired (v : Parcel) : Bool :=
  match v.settle with
  | some t => t.expired
  | none => false

/-- Checks 3 to 5 of R114 for a parcel declaration. -/
def State.declarationRefusal (s : State) (kind : DeclKind) (p : Fin 6) : Option ResultCode :=
  firstRefusal
    [(kindAllowed kind (s.parcel p).state, .state),
      (!(kind == .opening || kind == .resume) || s.stopLinesClear, .stopActive),
      (kind != .closing || settleExpired (s.parcel p), .settling)]

/-- A new entry of the concurrence table (R113, R115). -/
def makeEntry (subject : Subject) (kind : DeclKind) (l : Link) (s : State) : State :=
  setConcurrence
    (s.concurrence ++
      [{ subject, kind, first := l, taken := s.clock, lapse := s.settingsInUse.concurrenceTimeout }]) s

/-- A declaration that passed its checks, decided against the table (R115, R116). `met` says that the conditions of the step
hold, and `step` takes it, told whether it is unilateral. -/
def decideDeclaration (subject : Subject) (kind : DeclKind) (l : Link) (unilateral met : Bool)
    (step : Bool → State → State) (s : State) : State × Reply :=
  match s.entry subject kind with
  | some e =>
    if e.first = otherLink l then
      if met then (step false (removeEntry subject kind s), bare .done) else refuseWith .notReady s
    else if unilateral then unilateralStep
    else refuseWith .duplicate s
  | none =>
    if unilateral then unilateralStep
    else (makeEntry subject kind l s, bare .awaitingCounterpart)
where
  unilateralStep : State × Reply :=
    if (s.link (otherLink l)).state = .lost then (step true (removeEntry subject kind s), bare .done)
    else refuseWith .counterpartPresent s

/-- A parcel declaration (R114, R115). -/
def declareParcel (kind : DeclKind) (l : Link) (payload : List Byte) (met : State → Fin 6 → Bool)
    (step : Fin 6 → Bool → State → State) (s : State) : State × Reply :=
  match payload with
  | [subject, mode] =>
    if modeAllowed kind mode then
      match parcelOfByte subject with
      | none => refuseWith .range s
      | some p =>
        match s.declarationRefusal kind p with
        | some c => refuseWith c s
        | none => decideDeclaration (.parcel p) kind l (mode == 1) (met s p) (step p) s
    else refuseWith .format s
  | _ => refuseWith .format s

/-- A CALL_CLEAR declaration (R114, R115, R131). -/
def declareUnit (l : Link) (payload : List Byte) (s : State) : State × Reply :=
  match payload with
  | [subject, mode] =>
    if modeAllowed .callClear mode then
      if subject = 0 then
        if allParcels.all fun p => allowsCallClear (s.parcel p).state then
          decideDeclaration .unit .callClear l false true (fun _ => callClear) s
        else refuseWith .state s
      else refuseWith .range s
    else refuseWith .format s
  | _ => refuseWith .format s

end Sys2Proof.Machine
end

