-- ==== Sys2Proof/Machine/Declarations.lean ====
section
/-! DEFINITION. The parcel manager's commands: the six declarations (R113 to R131), SUSPEND and TRANSFER END (R122, R124), the
settle timer's expiry (R125), the lapse of an entry (R118) and the two stop lines (R132, R133). -/

namespace Sys2Proof.Machine

open Sys2Proof

/-! ### Declarations (R114 to R116, R119, R126 to R131) -/

/-- The step of a kind that has no conditions of its own (R115). -/
def noConditions (_ : State) (_ : Fin 6) : Bool := true

/-- DECLARE OPEN (R119 to R121). -/
def declareOpenOwner (l : Link) (payload : List Byte) (s : State) : State × Reply :=
  declareParcel .opening l payload State.openReady (fun p _ => openParcel p) s

/-- DECLARE RESUME (R126). -/
def declareResumeOwner (l : Link) (payload : List Byte) (s : State) : State × Reply :=
  declareParcel .resume l payload noConditions (fun p _ => resumeParcel p) s

/-- DECLARE CLOSE (R127, R128). -/
def declareCloseOwner (l : Link) (payload : List Byte) (s : State) : State × Reply :=
  declareParcel .closing l payload State.closeReady (fun p _ => closeParcel p) s

/-- DECLARE ABANDON (R116, R129). -/
def declareAbandonOwner (l : Link) (payload : List Byte) (s : State) : State × Reply :=
  declareParcel .abandon l payload noConditions abandonParcel s

/-- DECLARE RELEASE (R116, R130). -/
def declareReleaseOwner (l : Link) (payload : List Byte) (s : State) : State × Reply :=
  declareParcel .release l payload noConditions releaseParcel s

def execDeclareOpen (l : Link) (tag : Byte) (payload : List Byte) (s : State) : Host.Outcome State Fault Refusal :=
  .next (takeRequest l 0x30 tag payload true .whenRunning (declareOpenOwner l payload) s)

def execDeclareResume (l : Link) (tag : Byte) (payload : List Byte) (s : State) : Host.Outcome State Fault Refusal :=
  .next (takeRequest l 0x30 tag payload true .whenRunning (declareResumeOwner l payload) s)

def execDeclareClose (l : Link) (tag : Byte) (payload : List Byte) (s : State) : Host.Outcome State Fault Refusal :=
  .next (takeRequest l 0x30 tag payload true .whenRunning (declareCloseOwner l payload) s)

def execDeclareAbandon (l : Link) (tag : Byte) (payload : List Byte) (s : State) : Host.Outcome State Fault Refusal :=
  .next (takeRequest l 0x30 tag payload true .whenRunning (declareAbandonOwner l payload) s)

def execDeclareRelease (l : Link) (tag : Byte) (payload : List Byte) (s : State) : Host.Outcome State Fault Refusal :=
  .next (takeRequest l 0x30 tag payload true .whenRunning (declareReleaseOwner l payload) s)

def execDeclareCallClear (l : Link) (tag : Byte) (payload : List Byte) (s : State) :
    Host.Outcome State Fault Refusal :=
  .next (takeRequest l 0x30 tag payload true .whenRunning (declareUnit l payload) s)

/-! ### SUSPEND and TRANSFER END (R122, R124) -/

/-- A one-byte payload that names a parcel slot: FORMAT and RANGE before it, `f` after it. -/
def onParcel (payload : List Byte) (f : Fin 6 → State → State × Reply) (s : State) : State × Reply :=
  match oneByte payload with
  | none => refuseWith .format s
  | some b =>
    match parcelOfByte b with
    | none => refuseWith .range s
    | some p => f p s

/-- The reason of a SUSPEND on link `l` (R122). -/
def requestReason : Link → SuspendReason
  | .ship => .shipRequest
  | .terminal => .terminalRequest

/-- SUSPEND (R122). -/
def suspendOwner (l : Link) (payload : List Byte) (s : State) : State × Reply :=
  onParcel payload (fun p s =>
    if (s.parcel p).state = .transfer then (suspendParcel p (requestReason l) s, bare .done)
    else refuseWith .state s) s

/-- TRANSFER END (R124). -/
def transferEndOwner (payload : List Byte) (s : State) : State × Reply :=
  onParcel payload (fun p s =>
    if (s.parcel p).state = .transfer ∨ (s.parcel p).state = .suspended then (settleParcel p s, bare .done)
    else refuseWith .state s) s

def execSuspend (l : Link) (tag : Byte) (payload : List Byte) (s : State) : Host.Outcome State Fault Refusal :=
  .next (takeRequest l 0x31 tag payload true .whenRunning (suspendOwner l payload) s)

def execTransferEnd (l : Link) (tag : Byte) (payload : List Byte) (s : State) : Host.Outcome State Fault Refusal :=
  .next (takeRequest l 0x32 tag payload true .whenRunning (transferEndOwner payload) s)

/-! ### The settle timer and the lapse of an entry (R118, R125) -/

/-- The settle timer of a slot, where it is RUNNING and has reached its settle time (R125). -/
def State.settleDue (s : State) (p : Fin 6) : Option SettleTimer :=
  match (s.parcel p).settle with
  | some t => if !t.expired && reaches s.clock t.start (10 * t.settleTime) then some t else none
  | none => none

/-- The settle timer expires (R125). -/
def execSettleTimerExpiry (p : Fin 6) (s : State) : Host.Outcome State Fault Refusal :=
  match s.settleDue p with
  | some t => .next (setParcel p { s.parcel p with settle := some { t with expired := true } } s)
  | none => .next s

/-- The entry of a subject and kind, where its age exceeds its lapse timeout (R118). -/
def State.lapsed (s : State) (subject : Subject) (kind : DeclKind) : Option Concurrence :=
  match s.entry subject kind with
  | some e => if exceeds s.clock e.taken e.lapse then some e else none
  | none => none

/-- An entry lapses (R118). -/
def execDeclarationLapse (subject : Subject) (kind : DeclKind) (s : State) : Host.Outcome State Fault Refusal :=
  match s.lapsed subject kind with
  | some e => .next (appendTrail (.declarationLapse subject kind e.first) (removeEntry subject kind s))
  | none => .next s

/-! ### Stop lines (R132, R133) -/

/-- The reason of a suspension by a stop line (R133). -/
def stopReason : Link → SuspendReason
  | .ship => .shipStop
  | .terminal => .terminalStop

/-- A slot in TRANSFER is suspended by a line; any other is left as it stands (R133). -/
def suspendByLine (line : Link) (p : Fin 6) (s : State) : State :=
  if (s.parcel p).state = .transfer then suspendParcel p (stopReason line) s else s

/-- What a line taken as ASSERTED does while the unit is RUNNING (R133). -/
def stopTransfers (line : Link) (s : State) : State :=
  appendTrail (.stopLine line true) (allParcels.foldl (fun s p => suspendByLine line p s) s)

/-- The filter takes the asserted level: during STARTING only the line state changes (R132, R133). -/
def execStopLineAsserted (line : Link) (s : State) : Host.Outcome State Fault Refusal :=
  if s.unit = .inactive ∨ s.stopLine line = true then .next s
  else
    let s' := setStopLine line true s
    .next (if s.unit = .running then stopTransfers line s' else s')

/-- The filter takes the clear level (R132, R133). -/
def execStopLineCleared (line : Link) (s : State) : Host.Outcome State Fault Refusal :=
  if s.stopLine line = false then .next s
  else
    let s' := setStopLine line false s
    .next (if s.unit = .running then appendTrail (.stopLine line false) s' else s')

end Sys2Proof.Machine
end

