-- ==== Sys2Proof/Machine/Flags.lean ====
section
/-! DEFINITION. The status flags and masks the links carry: intake level (R54), error report (R182), alarm summary (R153),
figure marks and presence masks (R192, R193), meter flags (R193). -/

namespace Sys2Proof.Machine

open Sys2Proof

/-- The threshold a link's intake level is derived with. R54 has it at 48 while the unit is STARTING and at the stored value once
the load has completed; R187 and R205 place the stored value at its step of the load. The field takes the value at that
step, and the level keeps 48 until the unit is RUNNING (DESIGN CHOICE, log 26). -/
def State.thresholdInUse (s : State) (l : Link) : Nat := if s.unit = .running then (s.link l).threshold else 48

/-- The intake level of a queue (R54, R195). -/
def intakeLevel (held threshold : Nat) : Byte :=
  if held = 0 then 0 else if 64 ≤ held then 3 else if threshold ≤ held then 2 else 1

/-- The error report as a mask, bits 8 to 15 sent 0 (R182). -/
def reportMask (r : ErrorReport) : Nat :=
  flagMask [r.headerCrc, r.payloadCrc, r.length, r.framing, r.overrun, r.readingDiscarded, r.wasLost, r.holdExpired]

/-- The alarm summary (R153, R181). -/
def State.alarmSummary (s : State) : Nat := flagMask [s.alarm, s.anySuspect, s.anyDegraded]

/-- The marks of a figure as a mask (R192). -/
def marksMask (m : Marks) : Nat :=
  flagMask [m.levelClamped, m.trimClamped, m.tempHeld, m.noTemp, m.vcfClamped, m.tableHeld]

/-- The figure presence byte (R192). -/
def figurePresence (f : Figure) : Nat :=
  flagMask [f.volumes.isSome, f.temperature.isSome, f.shell.isSome, f.vcf.isSome, f.gsv.isSome]

/-- The presence byte of a reading (R190). -/
def readingPresence (f : TankFields) : Nat :=
  flagMask [f.water.isSome, f.probe1.isSome, f.probe2.isSome, f.probe3.isSome, f.shell.isSome]

/-- The flags byte of an accumulator set (R193). -/
def meterFlags (interrupted overRate lineTempMissing : Bool) : Nat := flagMask [interrupted, overRate, lineTempMissing]

/-- The settle state: none 0, RUNNING 1, EXPIRED 2 (R195). -/
def settleStateCode : Option SettleTimer → Byte
  | none => 0
  | some t => if t.expired then 2 else 1

/-- The current state of a slot: ABSENT 0, IN_FORCE 1, SUSPECT 2 (R195). -/
def currentStateCode : Option CurrentVersion → Byte
  | none => 0
  | some v => if v.suspect then 2 else 1

/-- The pending state of a slot: ABSENT 0, ASSEMBLING 1, PROPOSED 2 (R195). -/
def pendingStateCode : Option PendingVersion → Byte
  | none => 0
  | some v => if v.assembly.isSome then 1 else 2

/-- The status block, twelve bytes (R181). -/
def State.statusBlock (s : State) (l : Link) : List Byte :=
  let u := s.link l
  leBytes 1 u.counter ++ leBytes 2 (reportMask u.report) ++ leBytes 1 u.intake.length
    ++ [intakeLevel u.intake.length (s.thresholdInUse l), linkConditionCode (s.link (otherLink l)).state, unitStateCode s.unit]
    ++ leBytes 1 s.alarmSummary ++ leBytes 4 s.newest

/-- A response frame (R176): five header bytes, their CRC, the payload and its CRC. -/
def responseFrame (a : Answer) (payload : List Byte) : List Byte :=
  let header : List Byte := [0x3C, a.code, resultCode a.result, a.tag, BitVec.ofNat 8 payload.length]
  header ++ leBytes 2 (frameCrc header).toNat ++ payload ++ leBytes 2 (frameCrc payload).toNat

end Sys2Proof.Machine
end

