-- ==== Sys2Proof/Machine/Answers.lean ====
section
/-! DEFINITION. The answer bodies of R192 to R194, byte for byte. Absent items are sent as zero bytes. -/

namespace Sys2Proof.Machine

open Sys2Proof

/-- A clock value, four bytes. -/
def clockBytes (c : Clock) : List Byte := leBytes 4 c.toNat

/-- An optional clock value. -/
def optionClock (c : Option Clock) : List Byte := optionBytes 4 (c.map fun c => c.toNat)

/-- `n` zero bytes. -/
def zeroBytes (n : Nat) : List Byte := List.replicate n 0

/-- The bytes of an item, or `n` zero bytes. -/
def bytesOr {α : Type} (n : Nat) (f : α → List Byte) : Option α → List Byte
  | some v => f v
  | none => zeroBytes n

/-! ### The slot report (R31, R192) -/

/-- The part of the slot report an M slot adds (R104, R192). -/
def State.channelReport (s : State) (m : Fin 4) : List Byte :=
  let c := s.channel m
  leBytes 4 c.pulses.toNat ++ leBytes 4 c.lastCount.toNat ++ clockBytes c.lastTime
    ++ [flagByte c.overRate, channelModeCode (s.channelMode m)]

/-- The part of the slot report that depends on the kind of slot (R31, R104, R192). -/
def State.kindReport (s : State) : RecordSlot → List Byte
  | .settings => (settingsList s.settingsInUse).flatMap (leBytes 2)
  | .meter m => s.channelReport m
  | _ => []

/-- A pending version is of a tank slot and so has segments (R31). -/
def hasSegments (k : RecordSlot) (v : Option PendingVersion) : Bool := (tankOfSlot k).isSome && v.isSome

/-- The slot report for the requesting link (R31, R192). The declared digest is given to its proposer alone. -/
def State.slotReport (s : State) (l : Link) (k : RecordSlot) : List Byte :=
  let v := s.slot k
  let seen := v.pending.filter fun q => q.proposer == l
  let segments := if hasSegments k v.pending then v.pending else none
  leBytes 1 (flagMask [v.current.isSome, v.current.isSome, v.pending.isSome, segments.isSome, seen.isSome,
      v.current.isSome])
    ++ [currentStateCode v.current]
    ++ optionBytes 4 (v.current.map fun c => c.digest.toNat)
    ++ optionBytes 2 (v.current.map fun c => c.auditCount)
    ++ [pendingStateCode v.pending]
    ++ [match v.pending with
        | some q => linkCode q.proposer
        | none => 0]
    ++ optionBytes 1 (segments.map fun q => q.received)
    ++ optionBytes 1 (segments.map fun q => q.expected)
    ++ optionBytes 4 (seen.map fun q => q.declaredDigest.toNat)
    ++ [outcomeCode v.last, outcomeDetailCode v.last]
    ++ leBytes 2 s.poolFree
    ++ bytesOr 0 (fun c => headerBytes c.content) v.current
    ++ s.kindReport k

/-! ### READ TANK (R87, R192) -/

/-- The fields of a reading from its presence byte on (R190, R192). -/
def tankFieldBytes (t : TankId) (f : TankFields) : List Byte :=
  leBytes 1 (readingPresence f) ++ leBytes 2 f.gauge ++ optionBytes 2 f.water ++ optionInt 2 f.probe1
    ++ optionInt 2 f.probe2 ++ optionInt 2 f.probe3
    ++ (match t with
        | .ship _ => []
        | .shore _ => optionInt 2 f.shell)

/-- The length of those fields. -/
def tankFieldLength : TankId → Nat
  | .ship _ => 11
  | .shore _ => 13

/-- The ship condition part of a READ TANK answer (R192). -/
def conditionBytes (v : ConditionView) : List Byte :=
  flagByte v.condition.isSome
    :: (bytesOr 10
          (fun c => leBytes 2 c.fields.fore ++ leBytes 2 c.fields.aft ++ leInt 2 c.fields.listSlope ++ clockBytes c.arrival)
          v.condition
        ++ [flagByte v.stale] ++ leInt 2 v.trimSlope ++ leInt 2 v.listSlope)

/-- A figure as READ TANK reports it, from its status to its reading time, with STALE after the marks (R192). -/
def figureBytes (f : Figure) (stale : Bool) : List Byte :=
  [figureStatusCode f.status] ++ leBytes 1 (marksMask f.marks) ++ [flagByte stale] ++ leBytes 1 (figurePresence f)
    ++ optionInt 4 (f.volumes.map fun v => v.tov) ++ optionInt 4 (f.volumes.map fun v => v.fw)
    ++ optionInt 4 (f.volumes.map fun v => v.nov) ++ optionInt 2 f.temperature ++ optionInt 4 f.shell
    ++ optionInt 4 f.vcf ++ optionInt 4 f.gsv ++ optionClock (f.volumes.map fun v => v.readingTime)

/-- The READ TANK body from a view, with its source and hold time already in `head` (R192). -/
def tankBody (head : List Byte) (t : TankId) (k : TankCopy) (c : ConditionView) : List Byte :=
  head ++ [tankCode t, flagByte k.reading.isSome]
    ++ bytesOr (tankFieldLength t) (fun r => tankFieldBytes t r.fields) k.reading
    ++ optionClock (k.reading.map fun r => r.arrival)
    ++ figureBytes k.figure k.stale
    ++ (match t with
        | .ship _ => conditionBytes c
        | .shore _ => [])

/-- Source LIVE with hold time 0 (R192). -/
def liveHead : List Byte := 0 :: zeroBytes 4

/-- Source COPY with the hold time (R169, R192). -/
def copyHead (h : HoldCopy) : List Byte := 1 :: clockBytes h.time

/-- Source and hold time of a link's tank and parcel reads (R169). -/
def State.readHead (s : State) (l : Link) : List Byte :=
  match (s.link l).hold with
  | some h => copyHead h
  | none => liveHead

/-- The READ TANK body for a link, from its copy where it holds one (R169). -/
def State.readTankBody (s : State) (l : Link) (t : TankId) : List Byte :=
  match (s.link l).hold with
  | some h => tankBody (copyHead h) t (h.tanks.get (tankIndex t)) h.condition
  | none => tankBody liveHead t (s.tankView t) s.conditionView

/-! ### READ PARCEL (R134, R155, R193) -/

/-- The parcel entry of a view (R167). -/
def State.parcelView (s : State) (p : Fin 6) : ParcelCopy :=
  let v := s.parcel p
  { state := v.state, reason := v.reason, suspensions := v.suspensions, settle := v.settle, opening := v.opening,
    live := s.liveFigures p, comparisons := v.comparisons, meter := s.meterPart p }

/-- The parcel entry a link's reads are answered from (R169). -/
def State.readParcelView (s : State) (l : Link) (p : Fin 6) : ParcelCopy :=
  match (s.link l).hold with
  | some h => h.parcels.get p
  | none => s.parcelView p

/-- The tank entry a link's reads are answered from (R169). -/
def State.readTankView (s : State) (l : Link) (t : TankId) : TankCopy :=
  match (s.link l).hold with
  | some h => h.tanks.get (tankIndex t)
  | none => s.tankView t

/-- A concurrence entry (R193). -/
def concurrenceBytes (e : Concurrence) : List Byte :=
  [declKindCode e.kind, linkCode e.first] ++ clockBytes e.taken ++ leBytes 2 e.lapse

/-- The entries of a slot, then the UNIT entry (R134, log 13). -/
def State.entriesFor (s : State) (p : Fin 6) : List Concurrence :=
  (s.concurrence.filter fun e => e.subject == .parcel p) ++ s.concurrence.filter fun e => e.subject == .unit

/-- Part 0 (R193): the record, the entries and the stop lines are read live (R169). -/
def State.parcelPart0 (s : State) (v : ParcelCopy) (p : Fin 6) : List Byte :=
  let k := (s.slot (.parcel p)).current
  [parcelStateCode v.state]
    ++ [match v.reason with
        | some r => reasonCode r
        | none => 0]
    ++ optionBytes 2 v.suspensions ++ optionClock (v.settle.map fun t => t.start)
    ++ optionBytes 2 (v.settle.map fun t => t.settleTime) ++ [settleStateCode v.settle]
    ++ [currentStateCode k, flagByte k.isSome] ++ bytesOr 0 (fun c => headerBytes c.content) k
    ++ leBytes 1 (s.entriesFor p).length ++ (s.entriesFor p).flatMap concurrenceBytes
    ++ [flagByte s.shipStop, flagByte s.terminalStop]

/-- The tank quantities of an evaluation or of live figures, 40 bytes (R193). -/
def quantityBytes (q : Quantities) : List Byte :=
  leInt 8 q.shipTotal ++ leInt 8 q.shoreTotal ++ leInt 8 q.qShip ++ leInt 8 q.qAdj ++ leInt 8 q.qShore

/-- A last result, 19 bytes (R193). -/
def lastResultBytes (r : LastResult) : List Byte :=
  [resultByte r.result, causeByte r.result] ++ optionInt 8 r.difference ++ optionInt 4 r.ratio ++ [flagByte r.entered]
    ++ clockBytes r.time

/-- Opening time, totals and VEF, 24 bytes (R193). -/
def openingBytes (o : OpeningFigures) : List Byte :=
  clockBytes o.time ++ leInt 8 o.shipTotal ++ leInt 8 o.shoreTotal ++ leBytes 4 o.vef

/-- Part 1 (R193). -/
def parcelPart1 (v : ParcelCopy) : List Byte :=
  let liveQ := v.live.bind fun f => f.quantities
  let liveM := v.live.bind fun f => f.qMeter
  let lastQ := v.comparisons.bind fun i => i.lastQuantities
  let lastM := v.comparisons.bind fun i => i.lastQmeter
  let shipLast := v.comparisons.bind fun i => i.ship.last
  let meterLast := v.comparisons.bind fun i => i.meter.bind fun c => c.last
  leBytes 1 (flagMask [v.opening.isSome, liveQ.isSome, liveM.isSome, lastQ.isSome, lastM.isSome, shipLast.isSome,
      meterLast.isSome])
    ++ bytesOr 24 openingBytes v.opening ++ bytesOr 40 quantityBytes liveQ ++ optionInt 8 liveM
    ++ [match v.comparisons.bind fun i => i.lastKind with
        | some k => evalKindCode k
        | none => 0]
    ++ bytesOr 40 quantityBytes lastQ ++ optionInt 8 lastM
    ++ bytesOr 19 lastResultBytes shipLast ++ bytesOr 19 lastResultBytes meterLast

/-- A history entry, five bytes (R193). -/
def historyBytes (e : HistoryEntry) : List Byte := gradeCode e.grade :: clockBytes e.time

/-- The four counters of a comparison (R193). -/
def counterBytes (c : ResultCounters) : List Byte :=
  leBytes 2 c.within ++ leBytes 2 c.watch ++ leBytes 2 c.outside ++ leBytes 2 c.notEvaluated

/-- A comparison of part 2: entry count, ten entries, declared state, counters, 60 bytes (R193). -/
def comparisonBytes (c : Comparison) : List Byte :=
  leBytes 1 c.history.length ++ c.history.flatMap historyBytes ++ zeroBytes (5 * (10 - c.history.length))
    ++ [flagByte c.discrepant] ++ counterBytes c.counters

/-- The base minimum, bands, kd and kc in use, 14 bytes (R193). -/
def tuningBytes (r : ParcelRecord) : List Byte :=
  leBytes 4 (baseMinimumOf r) ++ leBytes 4 (watchBandOf r) ++ leBytes 4 (alarmBandOf r) ++ leBytes 1 (declareCountOf r)
    ++ leBytes 1 (clearCountOf r)

/-- Part 2 (R193); the bands and counts in use are read live (R169). Presence bit 2 marks the counters with the tuning fields: on
a holding link whose slot has returned to FREE the counters come from the copy and no record gives tuning fields; the bit
is then set and the tuning fields are sent as zero bytes (DESIGN CHOICE, log 28). -/
def parcelPart2 (v : ParcelCopy) (r : Option ParcelRecord) : List Byte :=
  let meter := v.comparisons.bind fun i => i.meter
  leBytes 1 (flagMask [v.comparisons.isSome, meter.isSome, v.comparisons.isSome])
    ++ bytesOr 60 comparisonBytes (v.comparisons.map fun i => i.ship) ++ bytesOr 60 comparisonBytes meter
    ++ optionBytes 2 (v.comparisons.map fun i => i.evaluations) ++ optionBytes 2 (v.comparisons.map fun i => i.degraded)
    ++ bytesOr 14 tuningBytes (if v.comparisons.isSome then r else none)

/-- The meter part, from the meter number to the STALE test (R193). -/
def meterBytes (m : MeterPart) : List Byte :=
  leBytes 1 (m.meter.val + 1) ++ [channelModeCode m.mode] ++ leBytes 8 m.accumulators.indicated
    ++ leBytes 8 m.accumulators.gross ++ leBytes 8 m.accumulators.standard ++ leInt 8 m.metered
    ++ leBytes 1 (meterFlags m.accumulators.interrupted m.accumulators.overRate m.accumulators.lineTempMissing)
    ++ [flagByte m.overRateMark] ++ optionInt 4 m.lastLineVcf ++ optionInt 2 (m.lineConditions.map fun c => c.temperature)
    ++ optionClock (m.lineConditions.map fun c => c.arrival) ++ [flagByte m.lineStale]

/-- Part 3 (R193). -/
def parcelPart3 (m : Option MeterPart) : List Byte :=
  leBytes 1 (flagMask [m.isSome, (m.bind fun v => v.lineConditions).isSome, (m.bind fun v => v.lastLineVcf).isSome])
    ++ bytesOr 47 meterBytes m

/-- A tank entry of parts 4 to 6 (R193). -/
def parcelTankBytes (t : TankId) (k : TankCopy) (opening : Option Int) : List Byte :=
  [tankCode t, figureStatusCode k.figure.status] ++ leBytes 1 (marksMask k.figure.marks) ++ [flagByte k.stale]
    ++ optionInt 4 k.figure.gsv ++ optionInt 4 opening

/-- The tanks of a list with their opening GSVs, by position. -/
def withOpening : List TankId → List Int → List (TankId × Option Int)
  | [], _ => []
  | t :: ts, [] => (t, none) :: withOpening ts []
  | t :: ts, o :: os => (t, some o) :: withOpening ts os

/-- Parts 4 to 6: a count and that many tanks (R193). -/
def State.parcelTankPart (s : State) (l : Link) (ts : List (TankId × Option Int)) : List Byte :=
  leBytes 1 ts.length ++ ts.flatMap fun (t, o) => parcelTankBytes t (s.readTankView l t) o

/-- The ship tanks of a parcel with their opening GSVs. -/
def shipPositions (r : ParcelRecord) (o : Option OpeningFigures) : List (TankId × Option Int) :=
  withOpening (r.shipTanks.map .ship) ((o.map fun o => o.shipVolumes).getD [])

/-- The shore tanks of a parcel with their opening GSVs. -/
def shorePositions (r : ParcelRecord) (o : Option OpeningFigures) : List (TankId × Option Int) :=
  withOpening (r.shoreTanks.map .shore) ((o.map fun o => o.shoreVolumes).getD [])

/-- A slot in FREE or PROPOSED is answered with part 0 alone present (R193). -/
def partsPresent (st : ParcelState) : Bool := st != .free && st != .proposed

/-- The tank list of parts 4, 5 and 6: ship list positions 1..16 and 17..32 and the shore list (R193, log 14). -/
def State.parcelPositions (s : State) (v : ParcelCopy) (p : Fin 6) (part : Nat) : List (TankId × Option Int) :=
  match s.parcelRecord p with
  | none => []
  | some r =>
    if !partsPresent v.state then []
    else if part = 4 then (shipPositions r v.opening).take 16
    else if part = 5 then (shipPositions r v.opening).drop 16
    else shorePositions r v.opening

/-- A view with the items of parts 1 to 3 left out for a slot in FREE or PROPOSED (R193). -/
def presentedView (v : ParcelCopy) : ParcelCopy :=
  if partsPresent v.state then v else { v with opening := none, live := none, comparisons := none, meter := none }

/-- The fields R193 lays out for a part of READ PARCEL, from the source byte on (R169). -/
def State.parcelFields (s : State) (l : Link) (p : Fin 6) (part : Fin 7) : List Byte :=
  let v := s.readParcelView l p
  s.readHead l ++ [parcelByte p]
    ++ (if part.val = 0 then s.parcelPart0 v p
        else if part.val = 1 then parcelPart1 (presentedView v)
        else if part.val = 2 then parcelPart2 (presentedView v) (s.parcelRecord p)
        else if part.val = 3 then parcelPart3 (presentedView v).meter
        else s.parcelTankPart l (s.parcelPositions v p part.val))

/-- The closing figures item by item in the order of R128, each in the size READ FINAL gives it (R193). -/
def closingItems (c : ClosingFigures) : List (ClosingItem × List Byte) :=
  [(.time, clockBytes c.time)]
    ++ (c.shipVolumes.zipIdx.map fun v => (.shipTank v.2, leInt 4 v.1))
    ++ (c.shoreVolumes.zipIdx.map fun v => (.shoreTank v.2, leInt 4 v.1))
    ++ [(.shipTotal, leInt 8 c.shipTotal), (.shoreTotal, leInt 8 c.shoreTotal), (.metered, optionInt 8 c.metered)]

/-- The size of an item of the closing figures in bytes. -/
def closingSize : ClosingItem → Nat
  | .time => 4
  | .shipTank _ => 4
  | .shoreTank _ => 4
  | .shipTotal => 8
  | .shoreTotal => 8
  | .metered => 8

/-- The items of the closing figures of a parcel with the longest lists (R105). -/
def longestClosing : List ClosingItem :=
  [.time] ++ (List.range 32).map .shipTank ++ (List.range 16).map .shoreTank ++ [.shipTotal, .shoreTotal, .metered]

/-- What the fields of R193 leave of the longest response, in each part of a CLOSED slot with the longest lists. The body has
243 bytes after the status block (R176, R181); a CLOSED slot has two entries at most, RELEASE and the UNIT entry (R113). -/
def closingRoom (part : Fin 7) : Nat :=
  match part with
  | 0 => 116
  | 1 => 77
  | 2 => 98
  | 3 => 189
  | 4 => 44
  | 5 => 44
  | 6 => 44

/-- Every item of the longest closing figures has room in the part `f` gives it. -/
abbrev ClosingFits (f : ClosingItem → Fin 7) : Prop :=
  ∀ part, ((longestClosing.filter fun i => f i = part).map closingSize).sum ≤ closingRoom part

/-- A split that fits: ship tanks in part 3, shore tanks in part 2, and the rest in part 1. -/
def plainSplit : ClosingItem → Fin 7
  | .shipTank _ => 3
  | .shoreTank _ => 2
  | _ => 1

/-- The part that carries an item of the closing figures: the one the free value names, since a layout of the unit fits every
parcel (log 27); one that does not fit is no layout. -/
def closingSplit : ClosingItem → Fin 7 :=
  if ClosingFits Config.closingPart then Config.closingPart else plainSplit

/-- The items of the closing figures that a part carries: each item in the one part that closingSplit names (log 27). -/
def closingShare (part : Fin 7) (c : ClosingFigures) : List Byte :=
  (closingItems c).flatMap fun v => if closingSplit v.1 = part then v.2 else []

/-- The closing figures READ PARCEL reports: those of a CLOSED slot, read live on a holding link too (R134, R169). -/
def State.closingReported (s : State) (p : Fin 6) : Option ClosingFigures :=
  if (s.parcel p).state = .closed then (s.parcel p).closing else none

/-- The READ PARCEL body for a link (R134, R169, R193): the fields of R193 in their order, and after them the part's share of a
CLOSED slot's closing figures, for which R193 names no part (DESIGN CHOICE, log 27). -/
def State.readParcelBody (s : State) (l : Link) (p : Fin 6) (part : Fin 7) : List Byte :=
  s.parcelFields l p part ++ bytesOr 0 (closingShare part) (s.closingReported p)

/-! ### READ FINAL (R158, R193) -/

/-- A comparison of the final record: difference, ratio, result and cause (R193). -/
def finalComparisonBytes (c : FinalComparison) : List Byte :=
  leInt 8 c.difference ++ optionInt 4 c.ratio ++ [resultByte c.result, causeByte c.result]

/-- The presence byte of READ FINAL 0 (R193). -/
def finalPresence (f : FinalRecord) : Nat :=
  flagMask [f.vefUsed.isSome, f.meter.isSome, f.ship.ratio.isSome, (f.meter.bind fun m => m.comparison.ratio).isSome]

/-- READ FINAL 0 after source, hold time and slot (R193). -/
def finalPart0 (f : FinalRecord) : List Byte :=
  countedBytes f.grade ++ [directionCode f.direction] ++ clockBytes f.openingTime ++ clockBytes f.closingTime
    ++ leInt 8 f.openingShipTotal ++ leInt 8 f.openingShoreTotal ++ leInt 8 f.closingShipTotal
    ++ leInt 8 f.closingShoreTotal ++ leBytes 1 (finalPresence f) ++ leInt 8 f.qShip ++ optionBytes 4 f.vefUsed
    ++ leInt 8 f.qAdj ++ leInt 8 f.qShore ++ optionInt 8 (f.meter.map fun m => m.metered)
    ++ leBytes 1 (match f.meter with
        | some m => meterFlags m.interrupted m.overRate m.lineTempMissing
        | none => 0)
    ++ finalComparisonBytes f.ship ++ bytesOr 14 (fun m => finalComparisonBytes m.comparison) f.meter
    ++ leBytes 1 (flagMask [f.ship.discrepant, match f.meter with
        | some m => m.comparison.discrepant
        | none => false])
    ++ counterBytes f.ship.counters ++ bytesOr 8 (fun m => counterBytes m.comparison.counters) f.meter
    ++ leBytes 2 f.evaluations ++ leBytes 2 f.suspensions ++ leBytes 2 f.degraded

/-- A list part of READ FINAL: a count, then tank identifier, opening and closing GSV (R193). -/
def finalTankPart {n : Nat} (tank : Fin n → TankId) (ts : List (FinalTank n)) : List Byte :=
  leBytes 1 ts.length ++ ts.flatMap fun t => tankCode (tank t.tank) :: (leInt 4 t.opening ++ leInt 4 t.closing)

/-- The READ FINAL body (R193). -/
def readFinalBody (p : Fin 6) (f : FinalRecord) (part : Fin 4) : List Byte :=
  liveHead ++ [parcelByte p]
    ++ (if part.val = 0 then finalPart0 f
        else if part.val = 1 then finalTankPart .ship (f.shipTanks.take 16)
        else if part.val = 2 then finalTankPart .ship (f.shipTanks.drop 16)
        else finalTankPart .shore f.shoreTanks)

/-! ### READ TRAIL (R165, R194) -/

/-- The subject byte of a declaration's subject (R195). -/
def subjectCode : Subject → Byte
  | .parcel p => slotCode (.parcel p)
  | .unit => 0xFF

/-- The second detail byte of a PARCEL_STATE event (R195). The count that R123 has the record carry has no byte in R194 and is
not sent (DESIGN CHOICE, log 25). -/
def stateDetailCode : StateDetail → Byte
  | .plain => 0
  | .reason r _ => reasonCode r
  | .unilateral b => flagByte b

/-- Event code, subject and two detail bytes (R194, R195). -/
def eventBytes (code subject detail1 detail2 : Byte) : List Byte := [0, code, subject, detail1, detail2] ++ zeroBytes 39

/-- The declared bits of one comparison: DISCREPANT, then changed (R194). -/
def declaredBits : Option IntervalResult → List Bool
  | some r => [r.discrepant, r.changed]
  | none => [false, false]

/-- The result and cause of one comparison (R194). -/
def intervalResultBytes : Option IntervalResult → List Byte
  | some r => [resultByte r.result, causeByte r.result]
  | none => [0, 0]

/-- An INTERVAL record from its kind byte on, 44 bytes (R194). -/
def intervalBytes (r : IntervalRecord) : List Byte :=
  let meterRatio := r.meter.bind fun m => m.ratio
  [1, parcelByte r.parcel, parcelStateCode r.state, intervalMarkCode r.mark]
    ++ leBytes 1 (flagMask [r.qMeter.isSome, r.ship.ratio.isSome, meterRatio.isSome])
    ++ leInt 8 r.qAdj ++ leInt 8 r.qShore ++ optionInt 8 r.qMeter ++ optionInt 4 r.ship.ratio ++ optionInt 4 meterRatio
    ++ intervalResultBytes (some r.ship) ++ intervalResultBytes r.meter
    ++ leBytes 1 (flagMask (declaredBits (some r.ship) ++ declaredBits r.meter)) ++ zeroBytes 2

/-- A trail record's bytes from its kind byte on, 44 bytes (R194, R195). -/
def trailBodyBytes : TrailBody → List Byte
  | .recordOutcome k o => eventBytes 1 (slotCode k) (outcomeCode o) (outcomeDetailCode o)
  | .auditFailure k => eventBytes 2 (slotCode k) (outcomeCode .suspect) 0
  | .parcelState p st d => eventBytes 3 (slotCode (.parcel p)) (parcelStateCode st) (stateDetailCode d)
  | .declarationLapse subject kind first => eventBytes 4 (subjectCode subject) (declKindCode kind) (linkCode first)
  | .stopLine line asserted => eventBytes 5 (linkCode line) (flagByte asserted) 0
  | .callClear => eventBytes 6 0xFF 0 0
  | .linkState l .lost => eventBytes 7 (linkCode l) 1 0
  | .linkState l .restored => eventBytes 7 (linkCode l) 2 0
  | .recovery cause => eventBytes 8 0xFF (resetCauseCode cause) 0
  | .storeDrop k r => eventBytes 9 (slotCode k) (dropCode r) 0
  | .trailRestart => eventBytes 10 0xFF 0 0
  | .interval r => intervalBytes r

/-- A trail record, 52 bytes (R194). -/
def trailRecordBytes (r : TrailRecord) : List Byte := leBytes 4 r.seq ++ clockBytes r.time ++ trailBodyBytes r.body

/-- The records a READ TRAIL returns: up to `c`, from the first that `start` gives (R165). -/
def State.trailFrom (s : State) (start c : Nat) : List TrailRecord :=
  (s.trail.filter fun r => decide (start ≤ r.seq)).take c

/-- The GAP flag: the start lies below the oldest sequence (R165). -/
def State.trailGap (s : State) (start : Nat) : Bool := decide (start < s.oldest)

/-- The READ TRAIL body (R194). -/
def State.readTrailBody (s : State) (start c : Nat) : List Byte :=
  let records := s.trailFrom start c
  leBytes 4 s.newest ++ leBytes 4 s.oldest
    ++ leBytes 4 (match records with
        | r :: _ => r.seq
        | [] => 0)
    ++ leBytes 1 records.length ++ [flagByte (s.trailGap start)] ++ records.flatMap trailRecordBytes

end Sys2Proof.Machine
end

