-- ==== Sys2Proof/Machine/Endorsement.lean ====
section
/-! DEFINITION. The endorsement unit: proposals and their assembly (R25 to R30), endorsement, decline and withdrawal (R34 to
R40), READ RECORD STATE (R31) and the audit walk (R43, R44). -/

namespace Sys2Proof.Machine

open Sys2Proof

/-- An answer that carries the slot report as the slot stands after the request (R31, R189). -/
def answerSlot (r : ResultCode) (l : Link) (k : RecordSlot) (s : State) : State × Reply :=
  (s, { result := r, body := s.slotReport l k })

/-- Link `l` proposed the pending version of the slot. -/
def State.proposedBy (s : State) (l : Link) (k : RecordSlot) : Bool :=
  match (s.slot k).pending with
  | some v => v.proposer == l
  | none => false

/-- The slot of a record identifier that leads a request (R188): FORMAT and RANGE before it, `f` after it. -/
def onSlot (identifier : Option Byte) (f : RecordSlot → State → State × Reply) (s : State) : State × Reply :=
  match identifier with
  | none => refuseWith .format s
  | some b =>
    match slotOfCode b with
    | none => refuseWith .range s
    | some k => f k s

/-! ### PROPOSE BEGIN (R25 to R27, R40) -/

/-- A proposal of this digest is a restoring proposal (R40). -/
def State.isRestoring (s : State) (k : RecordSlot) (d : Digest) : Bool :=
  match (s.slot k).current with
  | some v => v.suspect && v.digest == d
  | none => false

/-- Checks 3 to 5 of R25. -/
def State.proposalRefusal (s : State) (l : Link) (k : RecordSlot) (restoring : Bool) : Option ResultCode :=
  firstRefusal
    [(ownsKind l k, .owner),
      ((s.slot k).pending.isNone, .state),
      ((match k with
        | .parcel p => (s.parcel p).state == .free || restoring
        | _ => true), .state)]

/-- Check 7 of R25. -/
def pointsRefusal (k : RecordSlot) (points : Nat) : Option ResultCode :=
  if (tankOfSlot k).isSome then firstRefusal [(inRange 2 240 points, .range)]
  else firstRefusal [(points == 0, .format)]

/-- Every tank and meter the record names holds an IN_FORCE record (R108). -/
def State.namedInForce (s : State) (r : ParcelRecord) : Bool :=
  (tanksNamed r).all (fun t => (s.inForce (slotOfTank t)).isSome) && (match r.meter with
    | some m => (s.inForce (.meter m)).isSome
    | none => true)

/-- Check 8 of R25: the parcel checks of R108, not made of a restoring proposal. -/
def State.bindingRefusal (s : State) (k : RecordSlot) (restoring : Bool) (c : Content) : Option ResultCode :=
  match k, c with
  | .parcel p, .parcel r =>
    if restoring then none else firstRefusal [(!s.boundElsewhere p r, .bound), (s.namedInForce r, .state)]
  | _, _ => none

/-- Check 9 of R25. -/
def State.poolRefusal (s : State) (k : RecordSlot) (points : Nat) : Option ResultCode :=
  if (tankOfSlot k).isSome then firstRefusal [(points ≤ s.poolFree, .poolFull)] else none

/-- Checks 3 to 9 of R25 in order. -/
def State.beginRefusal (s : State) (l : Link) (k : RecordSlot) (b : BeginLayout) (h : Header) : Option ResultCode :=
  let restoring := s.isRestoring k b.digest
  match s.proposalRefusal l k restoring with
  | some c => some c
  | none =>
    match headerRefusal h with
    | some c => some c
    | none =>
      match pointsRefusal k b.points with
      | some c => some c
      | none =>
        match s.bindingRefusal k restoring (headerContent h) with
        | some c => some c
        | none => s.poolRefusal k b.points

/-- The timer of an assembly, started now (R26, R28, R30). -/
def State.assemblyTimer (s : State) : Timer :=
  { start := s.clock, duration := 10 * s.settingsInUse.assemblyTimeout }

/-- The version a PROPOSE BEGIN creates, with its assembly timer or none. -/
def State.newPending (s : State) (l : Link) (k : RecordSlot) (b : BeginLayout) (c : Content) (timer : Option Timer) :
    PendingVersion :=
  { assembly := timer, content := c, declaredPoints := b.points, declaredDigest := b.digest, proposer := l, points := [],
    received := 0, expected := segmentCount b.points, restoring := s.isRestoring k b.digest }

/-- A slot takes a pending version. -/
def setPending (k : RecordSlot) (v : Option PendingVersion) (s : State) : State :=
  setSlot k { s.slot k with pending := v } s

/-- A tank proposal is taken into ASSEMBLING (R13, R26). -/
def beginAssembly (l : Link) (k : RecordSlot) (b : BeginLayout) (c : Content) (s : State) : State :=
  setPoolFree (s.poolFree - b.points) (setPending k (some (s.newPending l k b c (some s.assemblyTimer))) s)

/-- A proposal complete in one frame with equal digests (R27). -/
def takeProposal (l : Link) (k : RecordSlot) (b : BeginLayout) (c : Content) (s : State) : State :=
  let s' := setPending k (some (s.newPending l k b c none)) s
  match k, c with
  | .parcel p, .parcel r => if s.isRestoring k b.digest then s' else enterProposed p r s'
  | _, _ => s'

/-- A PROPOSE BEGIN that passes every check (R26, R27). -/
def decideProposal (l : Link) (k : RecordSlot) (b : BeginLayout) (c : Content) (s : State) : State × Reply :=
  if (tankOfSlot k).isSome then answerSlot .accepted l k (beginAssembly l k b c s)
  else if recordDigest c [] = b.digest then answerSlot .done l k (takeProposal l k b c s)
  else answerSlot .done l k (setOutcome k (.rejected .digestMismatch) s)

/-- PROPOSE BEGIN (R25 to R27). -/
def proposeBeginOwner (l : Link) (payload : List Byte) (s : State) : State × Reply :=
  match parseBegin payload with
  | none => refuseWith .format s
  | some b =>
    onSlot (some b.identifier) (fun k s =>
      match parseHeader k b.header with
      | none => refuseWith .format s
      | some h =>
        match s.beginRefusal l k b h with
        | some c => answerSlot c l k s
        | none => decideProposal l k b (headerContent h) s) s

/-! ### PROPOSE SEGMENT (R11, R28, R29) -/

/-- Checks 3 to 6 of R28 for a pending version; an absent or PROPOSED one fails check 3. -/
def segmentRefusal (l : Link) (v : Option PendingVersion) (g : SegmentLayout) : Option ResultCode :=
  match v with
  | none => some .state
  | some v =>
    firstRefusal
      [(v.assembly.isSome, .state), (v.proposer == l, .owner), (g.number == v.received + 1, .segment),
        (v.expected ≤ g.number || g.points.length == 24, .format)]

/-- The breakpoints of the last segment (R26). -/
def lastSegmentPoints (v : PendingVersion) : Nat := v.declaredPoints - 24 * (v.expected - 1)

/-- A version with the segment's breakpoints joined. -/
def joinSegment (v : PendingVersion) (g : SegmentLayout) (timer : Option Timer) : PendingVersion :=
  { v with points := v.points ++ g.points, received := v.received + 1, assembly := timer }

/-- The last segment of an assembly, its breakpoints tested (R29). -/
def completeAssembly (k : RecordSlot) (v : PendingVersion) (g : SegmentLayout) (s : State) : State :=
  if g.points.length ≠ lastSegmentPoints v then rejectPending k .pointCount false s
  else if recordDigest v.content (v.points ++ g.points) = v.declaredDigest then
    setPending k (some (joinSegment v g none)) s
  else rejectPending k .digestMismatch false s

/-- A segment that passes its checks (R11, R28, R29). -/
def decideSegment (l : Link) (k : RecordSlot) (v : PendingVersion) (g : SegmentLayout) (s : State) : State × Reply :=
  match segmentFault v.points.getLast? g.points with
  | some f => answerSlot .done l k (rejectPending k f false s)
  | none =>
    if g.number < v.expected then
      answerSlot .accepted l k (setPending k (some (joinSegment v g (some s.assemblyTimer))) s)
    else answerSlot .done l k (completeAssembly k v g s)

/-- PROPOSE SEGMENT (R28, R29). -/
def proposeSegmentOwner (l : Link) (payload : List Byte) (s : State) : State × Reply :=
  match parseSegment payload with
  | none => refuseWith .format s
  | some g =>
    onSlot (some g.identifier) (fun k s =>
      if (tankOfSlot k).isNone then refuseWith .range s
      else
        match segmentRefusal l (s.slot k).pending g, (s.slot k).pending with
        | some c, _ => answerSlot c l k s
        | none, some v => decideSegment l k v g s
        | none, none => answerSlot .state l k s) s

/-! ### Entering force (R36, R40, R42) -/

/-- The pending version restores the SUSPECT version of its slot (R40). -/
def State.restores (s : State) (k : RecordSlot) (v : PendingVersion) : Bool := v.restoring && s.isSuspect k

/-- The points held by a slot's current version (R12). -/
def currentPoints (v : Slot) : Nat :=
  match v.current with
  | some c => c.points.length
  | none => 0

/-- The version as it stands in force (R36). -/
def enteredVersion (v : PendingVersion) : CurrentVersion :=
  { suspect := false, content := v.content, points := v.points, digest := v.declaredDigest, auditCount := 0 }

/-- Step 5 of R36: the block that uses the record is told. -/
def tellEntered (k : RecordSlot) (c : Content) (s : State) : State :=
  match k, c with
  | .vessel, _ => computeTanks shipTankIds s
  | .ship n, _ => computeTank (.ship n) s
  | .shore n, _ => computeTank (.shore n) s
  | .parcel p, .parcel r =>
    if (s.parcel p).state = .proposed then enterDefined p r s else computeTanks (tanksNamed r) s
  | .settings, _ => settingsChanged s
  | _, _ => s

/-- The outcome of an entry into force (R24, R36, R40). -/
def State.entryOutcome (s : State) (k : RecordSlot) (v : PendingVersion) : LastOutcome :=
  if s.restores k v then .restored else .enteredForce

/-- Steps 1 and 2 of R36. -/
def supersede (k : RecordSlot) (v : PendingVersion) (s : State) : State :=
  setPoolFree (s.poolFree + currentPoints (s.slot k))
    (setSlot k { s.slot k with current := some (enteredVersion v), pending := none } s)

/-- A pending version enters force (R36). -/
def enterForce (k : RecordSlot) (v : PendingVersion) (s : State) : State :=
  tellEntered k v.content
    (giveRecordWrite k (enteredVersion v) (setOutcome k (s.entryOutcome k v) (supersede k v s)))

/-! ### ENDORSE and DECLINE (R34, R37) -/

/-- Check 5 of R34. -/
def State.replaceable (s : State) (k : RecordSlot) : Bool :=
  !s.inUse k || (s.slot k).current.isNone || (match (s.slot k).pending with
    | some v => s.restores k v
    | none => false)

/-- Checks 3 and 4 of R34. -/
def State.counterRefusal (s : State) (l : Link) (k : RecordSlot) : Option ResultCode :=
  firstRefusal [(s.hasProposed k, .state), (!s.proposedBy l k, .owner)]

/-- Checks 3 to 5 of R34. -/
def State.endorseRefusal (s : State) (l : Link) (k : RecordSlot) : Option ResultCode :=
  firstRefusal [(s.hasProposed k, .state), (!s.proposedBy l k, .owner), (s.replaceable k, .inUse)]

/-- The comparison of an endorsement (R34). -/
def compareEndorsement (k : RecordSlot) (d : Digest) (s : State) : State :=
  match (s.slot k).pending with
  | some v => if v.declaredDigest = d then enterForce k v s else rejectPending k .counterMismatch false s
  | none => s

/-- ENDORSE (R34 to R36). -/
def endorseOwner (l : Link) (payload : List Byte) (s : State) : State × Reply :=
  match parseEndorse payload with
  | none => refuseWith .format s
  | some (b, d) =>
    onSlot (some b) (fun k s =>
      match s.endorseRefusal l k with
      | some c => answerSlot c l k s
      | none => answerSlot .done l k (compareEndorsement k d s)) s

/-- DECLINE (R37). -/
def declineOwner (l : Link) (payload : List Byte) (s : State) : State × Reply :=
  onSlot (oneByte payload) (fun k s =>
    match s.counterRefusal l k with
    | some c => answerSlot c l k s
    | none => answerSlot .done l k (rejectPending k .declined false s)) s

/-! ### WITHDRAW (R38, R39) -/

/-- The checks of R38 after the identifier. -/
def State.withdrawPendingRefusal (s : State) (l : Link) (k : RecordSlot) : Option ResultCode :=
  firstRefusal [((s.slot k).pending.isSome, .state), (s.proposedBy l k, .owner)]

/-- WITHDRAW of a pending version (R38). -/
def withdrawPendingOwner (l : Link) (payload : List Byte) (s : State) : State × Reply :=
  onSlot (oneByte payload) (fun k s =>
    match s.withdrawPendingRefusal l k with
    | some c => answerSlot c l k s
    | none => answerSlot .done l k (rejectPending k .withdrawn false s)) s

/-- The use check of R39. -/
def State.useRefusal (s : State) (k : RecordSlot) : Option ResultCode :=
  match k with
  | .parcel p => firstRefusal [((s.parcel p).state == .defined, .state)]
  | .settings => none
  | _ => firstRefusal [(!s.inUse k, .bound)]

/-- The owner check of R39, waived for a parcel record. -/
def mayWithdraw (l : Link) (k : RecordSlot) : Bool :=
  match k with
  | .parcel _ => true
  | _ => ownsKind l k

/-- The checks of R39 after the identifier. -/
def State.withdrawCurrentRefusal (s : State) (l : Link) (k : RecordSlot) : Option ResultCode :=
  match firstRefusal [((s.slot k).current.isSome, .state), (mayWithdraw l k, .owner)] with
  | some c => some c
  | none => s.useRefusal k

/-- The block that used a withdrawn record is told (R39, R42, R62, R80). -/
def tellWithdrawn (k : RecordSlot) (s : State) : State :=
  match k with
  | .vessel => holdTanks shipTankIds s
  | .ship n => clearTank (.ship n) s
  | .shore n => clearTank (.shore n) s
  | .settings => settingsChanged s
  | _ => s

/-- The current version leaves its slot and its points return to the pool. -/
def dropCurrent (k : RecordSlot) (s : State) : State :=
  setPoolFree (s.poolFree + currentPoints (s.slot k)) (setSlot k { s.slot k with current := none } s)

/-- The current version of a slot is withdrawn (R39, R112). -/
def withdrawRecord (k : RecordSlot) (s : State) : State :=
  match k with
  | .parcel p => endParcel p false s
  | _ => tellWithdrawn k (removeRecord k (setOutcome k .removed (dropCurrent k s)))

/-- WITHDRAW of a current version (R39). -/
def withdrawCurrentOwner (l : Link) (payload : List Byte) (s : State) : State × Reply :=
  onSlot (oneByte payload) (fun k s =>
    match s.withdrawCurrentRefusal l k with
    | some c => answerSlot c l k s
    | none => answerSlot .done l k (withdrawRecord k s)) s

/-- READ RECORD STATE (R31). -/
def readRecordStateOwner (l : Link) (payload : List Byte) (s : State) : State × Reply :=
  onSlot (oneByte payload) (answerSlot .done l) s

/-! ### The audit walk (R43, R44) -/

/-- The version with its audit count raised (R44). -/
def auditPassed (v : CurrentVersion) : CurrentVersion := { v with auditCount := count16 v.auditCount }

/-- The block that uses a version found SUSPECT is told (R42, R44, R80). -/
def tellSuspect (k : RecordSlot) (s : State) : State :=
  match k with
  | .vessel => holdTanks shipTankIds s
  | .ship n => holdTank (.ship n) s
  | .shore n => holdTank (.shore n) s
  | .meter _ => s
  | .parcel p => holdTanks (s.parcelTanks p) s
  | .settings => settingsChanged s

/-- A version is marked SUSPECT (R44). -/
def markSuspect (k : RecordSlot) (v : CurrentVersion) (s : State) : State :=
  tellSuspect k (setOutcome k .suspect (setSlot k { s.slot k with current := some { v with suspect := true } } s))

/-- One step of the walk (R43, R44). -/
def auditStep (k : RecordSlot) (s : State) : State :=
  match s.inForce k with
  | none => s
  | some v =>
    if recordDigest v.content v.points = v.digest then
      setSlot k { s.slot k with current := some (auditPassed v) } s
    else markSuspect k v s

def setWalk (w : Option (Fin 60)) (s : State) : State := { s with walk := w }

def setAuditTimer (t : Option Timer) (s : State) : State := { s with auditTimer := t }

/-- The audit timer is started now (R43). -/
def startAuditTimer (s : State) : State :=
  setAuditTimer (some { start := s.clock, duration := 10 * s.settingsInUse.auditPeriod }) s

/-- What follows the step at place `i` of the walk: the next place, or the end of the walk (R43). -/
def advanceWalk (i : Fin 60) (s : State) : State :=
  if h : i.val + 1 < 60 then setWalk (some ⟨i.val + 1, h⟩) s else startAuditTimer (setWalk none s)

/-- The audit timer has reached its period and no walk is in progress (R43). -/
def State.auditDue (s : State) : Bool :=
  match s.auditTimer with
  | some t => reaches s.clock t.start t.duration && s.walk.isNone
  | none => false

/-- The assembly timer of a slot exceeds its timeout (R30). -/
def State.assemblyExpired (s : State) (k : RecordSlot) : Bool :=
  match (s.slot k).pending with
  | some v =>
    match v.assembly with
    | some t => decide (t.duration < elapsed s.clock t.start)
    | none => false
  | none => false

/-! ### The commands -/

def execProposeBegin (l : Link) (tag : Byte) (payload : List Byte) (s : State) : Host.Outcome State Fault Refusal :=
  .next (takeRequest l 0x20 tag payload true .whenRunning (proposeBeginOwner l payload) s)

def execProposeSegment (l : Link) (tag : Byte) (payload : List Byte) (s : State) : Host.Outcome State Fault Refusal :=
  .next (takeRequest l 0x21 tag payload true .whenRunning (proposeSegmentOwner l payload) s)

def execEndorse (l : Link) (tag : Byte) (payload : List Byte) (s : State) : Host.Outcome State Fault Refusal :=
  .next (takeRequest l 0x22 tag payload true .whenRunning (endorseOwner l payload) s)

def execDecline (l : Link) (tag : Byte) (payload : List Byte) (s : State) : Host.Outcome State Fault Refusal :=
  .next (takeRequest l 0x23 tag payload true .whenRunning (declineOwner l payload) s)

def execWithdrawPending (l : Link) (tag : Byte) (payload : List Byte) (s : State) :
    Host.Outcome State Fault Refusal :=
  .next (takeRequest l 0x24 tag payload true .whenRunning (withdrawPendingOwner l payload) s)

def execWithdrawCurrent (l : Link) (tag : Byte) (payload : List Byte) (s : State) :
    Host.Outcome State Fault Refusal :=
  .next (takeRequest l 0x24 tag payload true .whenRunning (withdrawCurrentOwner l payload) s)

def execReadRecordState (l : Link) (tag : Byte) (payload : List Byte) (s : State) :
    Host.Outcome State Fault Refusal :=
  .next (takeRequest l 0x28 tag payload false .whenRunning (readRecordStateOwner l payload) s)

/-- The assembly timer expires (R30). -/
def execAssemblyTimeout (k : RecordSlot) (s : State) : Host.Outcome State Fault Refusal :=
  .next (if s.assemblyExpired k then rejectPending k .timeout false s else s)

/-- The walk begins with its step for the vessel (R43). -/
def execAuditTimerExpiry (s : State) : Host.Outcome State Fault Refusal :=
  .next (if s.auditDue then advanceWalk 0 (auditStep .vessel (setAuditTimer none s)) else s)

/-- The next step of a walk in progress (R43). -/
def execAuditWalkStep (s : State) : Host.Outcome State Fault Refusal :=
  .next (match s.walk with
    | some i => advanceWalk i (auditStep (slotAt i) s)
    | none => s)

end Sys2Proof.Machine
end

