-- ==== Sys2Proof/Machine/Intake.lean ====
section
/-! DEFINITION. POST READINGS (R51, R52) and the engine's taking of entries (R56 to R60). -/

namespace Sys2Proof.Machine

open Sys2Proof

/-- The refusal of a posting whose layout is good, if any: checks 3 to 6 of R51. -/
def State.postingRefusal (s : State) (l : Link) (es : List EntryLayout) : Option ResultCode :=
  firstRefusal
    [(es.all (entryPosted l), .owner),
      (es.all fun e => (entryReading e).isSome, .range),
      (es.all entryInRange, .range),
      ((s.link l).intake.length + es.length ≤ 64, .intakeFull)]

/-- The entries join the tail of the link's queue with one arrival time (R52). -/
def queueReadings (l : Link) (rs : List Reading) (s : State) : State :=
  let u := s.link l
  setLink l { u with intake := u.intake ++ rs.map fun r => { reading := r, arrival := s.clock } } s

/-- POST READINGS (R51, R52). -/
def postReadingsOwner (l : Link) (payload : List Byte) (s : State) : State × Reply :=
  match parsePosting payload with
  | none => refuseWith .format s
  | some es =>
    match s.postingRefusal l es with
    | some c => refuseWith c s
    | none => (queueReadings l (es.filterMap entryReading) s, bare .accepted)

def execPostReadings (l : Link) (tag : Byte) (payload : List Byte) (s : State) : Host.Outcome State Fault Refusal :=
  .next (takeRequest l 0x10 tag payload true .whenRunning (postReadingsOwner l payload) s)

/-! ### Arbitration (R56) -/

/-- The queue the engine serves next, if it takes an entry at all (R56). -/
def State.servedLink (s : State) : Option Link :=
  if s.unit = .running then
    match s.shipLink.intake, s.terminalLink.intake with
    | [], [] => none
    | _ :: _, [] => some .ship
    | [], _ :: _ => some .terminal
    | _ :: _, _ :: _ => some (otherLink s.lastServed)
  else none

/-- The entry the engine takes next, with its link. -/
def State.nextEntry (s : State) : Option (Link × IntakeEntry) :=
  match s.servedLink with
  | none => none
  | some l =>
    match (s.link l).intake with
    | e :: _ => some (l, e)
    | [] => none

/-- The head entry leaves its queue and the last served mark names the queue (R56). -/
def removeHead (l : Link) (s : State) : State :=
  { setLink l { s.link l with intake := (s.link l).intake.tail } s with lastServed := l }

/-! ### The work of one entry (R57 to R60) -/

/-- The slot holds a current version, or a PROPOSED one (R57, R59). -/
def State.knownSlot (s : State) (k : RecordSlot) : Bool := (s.slot k).current.isSome || s.hasProposed k

/-- The reading becomes the tank's latest reading and a computation is due (R57, R84). -/
def keepReading (t : TankId) (f : TankFields) (arrival : Clock) (s : State) : State :=
  computeTank t (setTank t { s.tank t with reading := some { fields := f, arrival } } s)

/-- A tank reading is kept and its figure computed where the sources allow, or it is discarded (R57, R60). -/
def takeTank (l : Link) (t : TankId) (f : TankFields) (arrival : Clock) (s : State) : State :=
  if s.knownSlot (slotOfTank t) then keepReading t f arrival s else reportDiscard l s

/-- A ship condition is kept and every ship tank computed (R58). -/
def takeCondition (f : ConditionFields) (arrival : Clock) (s : State) : State :=
  computeTanks shipTankIds (setShipCondition (some { fields := f, arrival }) s)

/-- Line conditions are kept, or discarded (R59). -/
def takeLine (l : Link) (m : Fin 4) (temperature : Int) (arrival : Clock) (s : State) : State :=
  if s.knownSlot (.meter m) then
    setChannel m { s.channel m with lineConditions := some { temperature, arrival } } s
  else reportDiscard l s

/-- The engine takes a tank reading, where one is next (R57). -/
def execTakeTankReading (s : State) : Host.Outcome State Fault Refusal :=
  match s.nextEntry with
  | some (l, e) =>
    match e.reading with
    | .shipTank n f => .next (takeTank l (.ship n) f e.arrival (removeHead l s))
    | .shoreTank n f => .next (takeTank l (.shore n) f e.arrival (removeHead l s))
    | _ => .next s
  | none => .next s

/-- The engine takes a ship condition, where one is next (R58). -/
def execTakeShipCondition (s : State) : Host.Outcome State Fault Refusal :=
  match s.nextEntry with
  | some (l, e) =>
    match e.reading with
    | .shipCondition f => .next (takeCondition f e.arrival (removeHead l s))
    | _ => .next s
  | none => .next s

/-- The engine takes line conditions, where they are next (R59). -/
def execTakeLineConditions (s : State) : Host.Outcome State Fault Refusal :=
  match s.nextEntry with
  | some (l, e) =>
    match e.reading with
    | .lineConditions m t => .next (takeLine l m t e.arrival (removeHead l s))
    | _ => .next s
  | none => .next s

end Sys2Proof.Machine
end

