-- ==== Sys2Proof/Machine/Links.lean ====
section
/-! DEFINITION. The link controllers' own commands: STATUS, COUNTER RESET, SET LINK PARAMETERS, UNKNOWN_REQUEST, faulty frames,
idle gaps, responses, silence, holds (R168 to R174, R178 to R187). -/

namespace Sys2Proof.Machine

open Sys2Proof

/-! ### Requests owned by the link controller -/

/-- STATUS (R181, R188). -/
def statusOwner (payload : List Byte) (s : State) : State × Reply :=
  if payload.isEmpty then (s, bare .done) else refuseWith .format s

/-- COUNTER RESET (R183). -/
def counterResetOwner (l : Link) (payload : List Byte) (s : State) : State × Reply :=
  if payload.isEmpty then (setLink l { s.link l with counter := 0 } s, bare .done) else refuseWith .format s

/-- The answer body of SET LINK PARAMETERS (R192). -/
def linkParametersBody (threshold holdTimeout : Nat) : List Byte := leBytes 1 threshold ++ leBytes 2 holdTimeout

/-- The link takes new parameters and the writer is given them (R187). -/
def setLinkParameters (l : Link) (threshold holdTimeout : Nat) (s : State) : State :=
  giveWrite (.linkParameters l)
    (.linkParameters threshold holdTimeout (linkParametersCheck threshold holdTimeout))
    (setLink l { s.link l with threshold := threshold, holdTimeout := holdTimeout } s)

/-- SET LINK PARAMETERS (R187). -/
def setLinkParametersOwner (l : Link) (payload : List Byte) (s : State) : State × Reply :=
  match parseLinkParameters payload with
  | none => refuseWith .format s
  | some (threshold, holdTimeout) =>
    if linkParametersInRange threshold holdTimeout then
      (setLinkParameters l threshold holdTimeout s,
        { result := .done, body := linkParametersBody threshold holdTimeout })
    else refuseWith .range s

def execStatus (l : Link) (tag : Byte) (payload : List Byte) (s : State) : Host.Outcome State Fault Refusal :=
  .next (takeRequest l 0x01 tag payload false .always (statusOwner payload) s)

def execCounterReset (l : Link) (tag : Byte) (payload : List Byte) (s : State) : Host.Outcome State Fault Refusal :=
  .next (takeRequest l 0x02 tag payload false .always (counterResetOwner l payload) s)

def execSetLinkParameters (l : Link) (tag : Byte) (payload : List Byte) (s : State) :
    Host.Outcome State Fault Refusal :=
  .next (takeRequest l 0x03 tag payload true .whenRunning (setLinkParametersOwner l payload) s)

/-- An intact frame whose code or selector is undefined (R180). A code and selector of R188 make no such event: log 2. -/
def execUnknownRequest (l : Link) (code selector tag : Byte) (payload : List Byte) (s : State) :
    Host.Outcome State Fault Refusal :=
  if requestDefined code selector then .next s
  else .next (takeRequest l code tag payload false .always (refuseWith .unknownRequest) s)

/-! ### Reception without an answer -/

/-- A frame with a fault, or characters after a complete frame (R174, R178). -/
def execDamagedFrame (l : Link) (fault : FrameFault) (s : State) : Host.Outcome State Fault Refusal :=
  .next (if s.receives l then faultyFrame l fault s else s)

/-- A frame that began while the controller was busy, received to its end (R179). -/
def execOverrun (l : Link) (s : State) : Host.Outcome State Fault Refusal :=
  .next (if s.receives l then overrunFrame l s else s)

/-- The receiver stands after an idle gap: the next character begins a frame (R174). -/
def endDiscarding (l : Link) (s : State) : State := setLink l { s.link l with discarding := false } s

/-- A gap of 2 ms or more inside a frame ends it as a LENGTH error; the gap is an idle gap (R174, log 6). -/
def execIdleGapInFrame (l : Link) (s : State) : Host.Outcome State Fault Refusal :=
  if s.unit = .inactive then .next s
  else if (s.link l).discarding then .next (endDiscarding l s)
  else .next (endDiscarding l (faultyFrame l .length s))

/-- An idle gap with no frame begun (R174). -/
def execIdleGap (l : Link) (s : State) : Host.Outcome State Fault Refusal :=
  if s.unit = .inactive then .next s else .next (endDiscarding l s)

/-! ### Responses (R176, R179 to R182) -/

/-- The payload of a response: the status block, then the body (R176). -/
def State.responsePayload (s : State) (l : Link) (a : Answer) : List Byte := s.statusBlock l ++ a.body

/-- Step 4 of R180: the status block is built, the error report cleared and the response sent. -/
def execResponseSend (l : Link) (s : State) : Host.Outcome State Fault Refusal :=
  match (s.link l).controller with
  | .answering a =>
    .next (setLink l
      { s.link l with controller := .sending (responseFrame a (s.responsePayload l a)), report := .empty } s)
  | _ => .next s

/-- The last character of the response has been sent (R179). -/
def execResponseSent (l : Link) (s : State) : Host.Outcome State Fault Refusal :=
  match (s.link l).controller with
  | .sending _ => .next (setLink l { s.link l with controller := .free } s)
  | _ => .next s

/-- The silence test is made (R184, R185). -/
def execSilenceTimeout (l : Link) (s : State) : Host.Outcome State Fault Refusal :=
  if s.unit = .inactive then .next s else .next (silenceTest l s)

/-! ### Holds (R167 to R173) -/

/-- The copy of a HOLD, from live state (R167, R168). -/
def State.holdCopy (s : State) (l : Link) : HoldCopy :=
  { time := s.clock
    timeout := (s.link l).holdTimeout
    tanks := Vector.ofFn fun i => s.tankView (tankAt i)
    condition := s.conditionView
    parcels := Vector.ofFn fun p => s.parcelView p }

/-- HOLD (R168, R170). -/
def holdOwner (l : Link) (payload : List Byte) (s : State) : State × Reply :=
  if payload.isEmpty then
    (setLink l { s.link l with hold := some (s.holdCopy l) } s,
      { result := .done, body := clockBytes s.clock ++ leBytes 2 (s.link l).holdTimeout })
  else refuseWith .format s

/-- RELEASE HOLD (R171). -/
def releaseHoldOwner (l : Link) (payload : List Byte) (s : State) : State × Reply :=
  if payload.isEmpty then
    if (s.link l).hold.isSome then (dropHold l s, bare .done) else refuseWith .state s
  else refuseWith .format s

def execHold (l : Link) (tag : Byte) (payload : List Byte) (s : State) : Host.Outcome State Fault Refusal :=
  .next (takeRequest l 0x48 tag payload true .whenRunning (holdOwner l payload) s)

def execReleaseHold (l : Link) (tag : Byte) (payload : List Byte) (s : State) : Host.Outcome State Fault Refusal :=
  .next (takeRequest l 0x49 tag payload true .whenRunning (releaseHoldOwner l payload) s)

/-- The hold timer of a holding link has reached its timeout (R172). -/
def State.holdDue (s : State) (l : Link) : Bool :=
  match (s.link l).hold with
  | some h => reaches s.clock h.time (10 * h.timeout)
  | none => false

/-- The hold ends with HOLD_EXPIRED (R172). -/
def execHoldTimerExpiry (l : Link) (s : State) : Host.Outcome State Fault Refusal :=
  if s.holdDue l then .next (updateReport l (fun r => { r with holdExpired := true }) (dropHold l s)) else .next s

end Sys2Proof.Machine
end

