-- ==== Sys2Proof/Machine/Reads.lean ====
section
/-! DEFINITION. READ TANK, READ PARCEL, READ FINAL and READ TRAIL (R87, R134, R155, R158, R165, R169). -/

namespace Sys2Proof.Machine

open Sys2Proof

/-- A DONE answer with a body. -/
def doneWith (body : List Byte) : Reply := { result := .done, body := body }

/-- READ TANK (R87, R169). -/
def readTankOwner (l : Link) (payload : List Byte) (s : State) : State × Reply :=
  match oneByte payload with
  | none => refuseWith .format s
  | some b =>
    match tankOfCode b with
    | none => refuseWith .range s
    | some t => (s, doneWith (s.readTankBody l t))

/-- READ PARCEL (R134, R155, R169, R193). -/
def readParcelOwner (l : Link) (part : Fin 7) (payload : List Byte) (s : State) : State × Reply :=
  onParcel payload (fun p s => (s, doneWith (s.readParcelBody l p part))) s

/-- READ FINAL (R158). -/
def readFinalOwner (part : Fin 4) (payload : List Byte) (s : State) : State × Reply :=
  onParcel payload (fun p s =>
    match (s.parcel p).final with
    | some f => if (s.parcel p).state = .closed then (s, doneWith (readFinalBody p f part)) else refuseWith .state s
    | none => refuseWith .state s) s

/-- READ TRAIL (R165). -/
def readTrailOwner (payload : List Byte) (s : State) : State × Reply :=
  match parseReadTrail payload with
  | none => refuseWith .format s
  | some (start, c) =>
    if inRange 1 4 c then
      if start ≤ s.newest + 1 then (s, doneWith (s.readTrailBody start c)) else refuseWith .seqAhead s
    else refuseWith .range s

def execReadTank (l : Link) (tag : Byte) (payload : List Byte) (s : State) : Host.Outcome State Fault Refusal :=
  .next (takeRequest l 0x38 tag payload false .whenRunning (readTankOwner l payload) s)

def execReadParcel (l : Link) (part : Fin 7) (tag : Byte) (payload : List Byte) (s : State) :
    Host.Outcome State Fault Refusal :=
  .next (takeRequest l 0x39 tag payload false .whenRunning (readParcelOwner l part payload) s)

def execReadFinal (l : Link) (part : Fin 4) (tag : Byte) (payload : List Byte) (s : State) :
    Host.Outcome State Fault Refusal :=
  .next (takeRequest l 0x3A tag payload false .whenRunning (readFinalOwner part payload) s)

def execReadTrail (l : Link) (tag : Byte) (payload : List Byte) (s : State) : Host.Outcome State Fault Refusal :=
  .next (takeRequest l 0x40 tag payload false .whenRunning (readTrailOwner payload) s)

end Sys2Proof.Machine
end

