-- ==== Sys2Proof/Machine/Sampling.lean ====
section
/-! DEFINITION. The timers of the meter block and of the reconciliation unit: pulses (R91, R92), samples (R94) and the interval
expiry (R135, R136). -/

namespace Sys2Proof.Machine

open Sys2Proof

/-- A taken pulse raises the counter by one, modulo 2^32; the counters stand at 0 while the unit is inactive (R91, R92,
R203). -/
def execMeterPulse (m : Fin 4) (s : State) : Host.Outcome State Fault Refusal :=
  if s.unit = .inactive then .next s
  else .next (setChannel m { s.channel m with pulses := (s.channel m).pulses + 1 } s)

/-- The sample period, tenths (R94). -/
def samplePeriod : Nat := 100

/-- The sample timer of a channel is started now (R93, R208). -/
def startSampleTimer (m : Fin 4) (s : State) : State := setChannel m { s.channel m with timer := some s.clock } s

/-- The sample timer of a channel has reached its period (R94). -/
def State.sampleDue (s : State) (m : Fin 4) : Bool :=
  match (s.channel m).timer with
  | some t => reaches s.clock t samplePeriod
  | none => false

/-- The sample timer expires and starts again (R94). -/
def execSampleTimerExpiry (m : Fin 4) (s : State) : Host.Outcome State Fault Refusal :=
  .next (if s.sampleDue m then startSampleTimer m (takeSample m s) else s)

/-- The interval timer is started now with the interval in use (R135). -/
def startInterval (s : State) : State :=
  { s with intervalTimer := some { start := s.clock, duration := 10 * s.settingsInUse.interval } }

/-- The interval timer has reached its duration (R135). -/
def State.intervalDue (s : State) : Bool :=
  match s.intervalTimer with
  | some t => reaches s.clock t.start t.duration
  | none => false

/-- The interval timer expires: every live slot is evaluated in slot order, the alarm line is set after them all, and the
timer starts again (R135, R136, R152). -/
def execIntervalTimerExpiry (s : State) : Host.Outcome State Fault Refusal :=
  .next (if s.intervalDue then startInterval (setAlarm (evaluateParcels allParcels s)) else s)

end Sys2Proof.Machine
end

