-- ==== Sys2Proof/Machine/Recovery.lean ====
section
/-! DEFINITION. Full reset (R203), the steps of the store load (R205 to R208) and the completion of a store write (R202). -/

namespace Sys2Proof.Machine

open Sys2Proof

/-! ### Full reset (R202, R203) -/

/-- A full reset has begun: all volatile state is cleared, the write in flight is ended and the unit is inactive. The waiting
commands are not the unit's own state. -/
def beginReset (cause : ResetCause) (s : State) : State :=
  { State.reset with
    unit := .inactive, resetCause := cause, powered := cause == .resetLine, store := cutWrite s, pending := s.pending }

/-- A full reset begins (R203). One that has begun already is not begun again and keeps its cause; within it the supply falls
(POWER_UP), or the reset line's filter takes a low level with the supply back within its operating level (RESET_LINE), and
only the power changes (log 29). -/
def execFullResetBegin (cause : ResetCause) (s : State) : Host.Outcome State Fault Refusal :=
  .next (if s.unit = .inactive then setPowered (cause == .resetLine) s else beginReset cause s)

/-- A full reset ends, with the supply within its operating level, and the unit is STARTING (R203). -/
def execFullResetEnd (s : State) : Host.Outcome State Fault Refusal :=
  .next (if s.unit = .inactive then setPowered true { s with unit := .starting } else s)

def setLoad (p : LoadPhase) (s : State) : State := { s with load := p }

/-- The unit is STARTING and the load stands at phase `p`. -/
def State.loadsAt (s : State) (p : LoadPhase) : Bool := s.unit == .starting && s.load == p

/-- The first step of the load: the RECOVERY event with the cause of the reset (R205). -/
def execStoreLoadStart (s : State) : Host.Outcome State Fault Refusal :=
  .next (if s.loadsAt .start then setLoad (.records 0) (appendTrail (.recovery s.resetCause) s) else s)

/-! ### Records (R19, R205) -/

/-- A stored record is dropped: its event, and the removal of the object (R205). -/
def dropRecord (k : RecordSlot) (r : DropReason) (s : State) : State := removeRecord k (appendTrail (.storeDrop k r) s)

/-- A reloaded version: IN_FORCE, with audit count 0 (R205). -/
def reloadedVersion (d : Digest) (c : Content) (points : List Breakpoint) : CurrentVersion :=
  { suspect := false, content := c, points := points, digest := d, auditCount := 0 }

/-- A stored record that passes becomes current and takes its points from the pool, where there is room (R19, R205). -/
def placeRecord (k : RecordSlot) (d : Digest) (c : Content) (points : List Breakpoint) (s : State) : State :=
  if points.length ≤ s.poolFree then
    setPoolFree (s.poolFree - points.length)
      (setSlot k { s.slot k with current := some (reloadedVersion d c points), last := .none } s)
  else dropRecord k .poolFull s

/-- A stored U puts its settings in use from its step (R42, R205). -/
def tellReloaded (k : RecordSlot) (s : State) : State :=
  match k with
  | .settings => settingsChanged s
  | _ => s

/-- The load's step for one record (R205). -/
def loadRecord (k : RecordSlot) (s : State) : State :=
  let v := s.places (.record k)
  match storedCopy (.record k) v with
  | some (_, c) =>
    match c.content with
    | .record d content points => tellReloaded k (placeRecord k d content points s)
    | _ => s
  | none => if holdsCopies v then dropRecord k .digestFailed s else s

/-- The load's place after record `i` (R205). -/
def afterRecord (i : Fin 60) : LoadPhase := if h : i.val + 1 < 60 then .records ⟨i.val + 1, h⟩ else .linkParameters .ship

/-- The load's next record (R205). -/
def execStoreLoadRecord (s : State) : Host.Outcome State Fault Refusal :=
  if s.unit = .starting then
    match s.load with
    | .records i => .next (setLoad (afterRecord i) (loadRecord (slotAt i) s))
    | _ => .next s
  else .next s

/-! ### Link parameters (R187, R205) -/

/-- The load's step for a link's parameters; the values 48 and 120 of a full reset stay where none is stored (R205). The stored
values stand from this step on, as R187 and R205 say; the intake level keeps 48 until the load completes, as R54 says
(State.thresholdInUse; DESIGN CHOICE, log 26). -/
def loadLinkParameters (l : Link) (s : State) : State :=
  match storedCopy (.linkParameters l) (s.places (.linkParameters l)) with
  | some (_, c) =>
    match c.content with
    | .linkParameters threshold holdTimeout _ =>
      setLink l { s.link l with threshold := threshold, holdTimeout := holdTimeout } s
    | _ => s
  | none => s

/-- The load's place after a link's parameters (R205). -/
def afterLink : Link → LoadPhase
  | .ship => .linkParameters .terminal
  | .terminal => .checkpoints 0

/-- The load's next link parameters (R205). -/
def execStoreLoadLinkParameters (s : State) : Host.Outcome State Fault Refusal :=
  if s.unit = .starting then
    match s.load with
    | .linkParameters l => .next (setLoad (afterLink l) (loadLinkParameters l s))
    | _ => .next s
  else .next s

/-! ### Parcel checkpoints (R102, R206, R207) -/

/-- What the load finds of a slot's checkpoint (R206). -/
inductive FoundCheckpoint where
  | notStored
  | fails
  | passes (c : Checkpoint)
  deriving DecidableEq, Repr

/-- The checkpoint of a slot as the store holds it (R197, R206). -/
def State.foundCheckpoint (s : State) (p : Fin 6) : FoundCheckpoint :=
  let v := s.places (.checkpoint p)
  match storedCopy (.checkpoint p) v with
  | some (_, c) =>
    match c.content with
    | .checkpoint c _ => .passes c
    | _ => .notStored
  | none => if holdsCopies v then .fails else .notStored

/-- The stored copy of the slot's parcel record is a removal copy (R206). -/
def State.recordRemoved (s : State) (p : Fin 6) : Bool :=
  match storedCopy (.record (.parcel p)) (s.places (.record (.parcel p))) with
  | some (_, c) => c.content == .removal
  | none => false

/-- The record matches the checkpoint (R206). -/
def State.recordMatches (s : State) (p : Fin 6) (c : Checkpoint) : Bool :=
  match s.inForce (.parcel p) with
  | some v => c.recordDigest == some v.digest
  | none => false

/-- A reloaded parcel record leaves its slot with last outcome NONE and its stored copy is removed (R206). -/
def discardReloaded (p : Fin 6) (s : State) : State :=
  let k := RecordSlot.parcel p
  if (s.slot k).current.isSome then removeRecord k (setSlot k { s.slot k with current := none, last := .none } s) else s

/-- The slot comes up FREE with a STORE_DROP event, and what is stored for it is removed (R206). -/
def dropParcel (p : Fin 6) (s : State) : State :=
  discardReloaded p (removeCheckpoint p (appendTrail (.storeDrop (.parcel p) .checkpointFailed) s))

/-- The slot comes up FREE with a PARCEL_STATE event, and its checkpoint is removed (R206). -/
def freeParcel (p : Fin 6) (s : State) : State :=
  removeCheckpoint p (appendTrail (.parcelState p .free (.unilateral false)) s)

/-- The accumulator set of a restored slot, on the channel of the meter its record names (R102). -/
def restoreAccumulators (r : ParcelRecord) (a : Option AccumulatorSet) (s : State) : State :=
  match r.meter with
  | some m => setAccumulators m a s
  | none => s

/-- A slot with the items the reconciliation unit is to take up for it in place (R159). -/
def State.restoredParcel (s : State) (p : Fin 6) : Parcel :=
  { s.parcel p with comparisons := (s.restoredItems p).comparisons, final := (s.restoredItems p).final }

/-- The slot comes up as `v`: the parcel manager's items stand at once, those of the reconciliation unit wait for the end of
the load (R159, R206, R208, log 18). -/
def bringUp (p : Fin 6) (v : Parcel) (s : State) : State :=
  setRestored p { comparisons := v.comparisons, final := v.final }
    (setParcel p { v with comparisons := none, final := none } s)

/-- The writer is given the checkpoint of a slot as restored, with every item of R199 (R206, R207). -/
def giveRestoredCheckpoint (p : Fin 6) (s : State) : State :=
  let c := s.checkpointWith p (s.restoredParcel p)
  giveWrite (.checkpoint p) (.checkpoint c (checkpointCheck c)) s

/-- A restored slot's PARCEL_STATE event and the checkpoint as restored (R206, R207). -/
def announceRestored (p : Fin 6) (d : StateDetail) (s : State) : State :=
  giveRestoredCheckpoint p (appendTrail (.parcelState p (s.parcel p).state d) s)

/-- PROPOSED with the record reloaded: the slot comes up DEFINED (R206). -/
def restoreDefined (p : Fin 6) (r : ParcelRecord) (s : State) : State :=
  announceRestored p .plain
    (restoreAccumulators r (some (zeroAccumulators p)) (bringUp p (definedParcel r) s))

/-- The slot a checkpoint restores in state `st` with a reason and a count (R206, R207). -/
def checkpointedParcel (c : Checkpoint) (st : ParcelState) (reason : Option SuspendReason)
    (suspensions : Option Nat) : Parcel :=
  { state := st, opening := c.opening, closing := c.closing, reason, suspensions, settle := none,
    comparisons := c.comparisons, final := c.final }

/-- DEFINED, CLOSED or ABANDONED with a matching record: the slot comes up as checkpointed (R206). -/
def restoreAsStored (p : Fin 6) (r : ParcelRecord) (c : Checkpoint) (s : State) : State :=
  restoreAccumulators r c.accumulators (bringUp p (checkpointedParcel c c.state c.reason c.suspensions) s)

/-- A live checkpoint with a matching record: the slot comes up SUSPENDED, reason RECOVERED, one suspension more, with
INTERRUPTED set (R207). -/
def restoreSuspended (p : Fin 6) (r : ParcelRecord) (c : Checkpoint) (s : State) : State :=
  let count := count16 (c.suspensions.getD 0)
  announceRestored p (.reason .recovered count)
    (restoreAccumulators r (c.accumulators.map fun a => { a with interrupted := true })
      (bringUp p (checkpointedParcel c .suspended (some .recovered) (some count)) s))

/-- A passing checkpoint beside its reloaded record, which the slot takes up unless it names what a slot before it has bound
(R206, R207). -/
def restoreParcel (p : Fin 6) (r : ParcelRecord) (c : Checkpoint) (s : State) : State :=
  if s.boundElsewhere p r then dropParcel p s
  else
    match c.state with
    | .proposed => restoreDefined p r s
    | .free => dropParcel p s
    | st =>
      if s.recordMatches p c then
        if isLive st then restoreSuspended p r c s else restoreAsStored p r c s
      else dropParcel p s

/-- A passing checkpoint with no record reloaded (R206). -/
def restoreWithoutRecord (p : Fin 6) (c : Checkpoint) (s : State) : State :=
  match c.state with
  | .proposed => freeParcel p s
  | .defined => if s.recordRemoved p then freeParcel p s else dropParcel p s
  | .closed => if s.recordRemoved p then freeParcel p s else dropParcel p s
  | .abandoned => if s.recordRemoved p then freeParcel p s else dropParcel p s
  | _ => dropParcel p s

/-- The load's step for a parcel slot (R206). -/
def loadCheckpoint (p : Fin 6) (s : State) : State :=
  match s.foundCheckpoint p, s.parcelInForce p with
  | .notStored, none => s
  | .notStored, some _ => dropParcel p s
  | .fails, _ => dropParcel p s
  | .passes c, some r => restoreParcel p r c s
  | .passes c, none => restoreWithoutRecord p c s

/-! ### The end of the load (R132, R159, R208) -/

/-- A line ASSERTED when the unit becomes RUNNING has its STOP_LINE event (R132, R208). -/
def reportStopLine (l : Link) (s : State) : State := if s.stopLine l then appendTrail (.stopLine l true) s else s

/-- The four sample timers start (R94, R208). -/
def startSampleTimers (s : State) : State := allMeters.foldl (fun s m => startSampleTimer m s) s

/-- The reconciliation unit takes up the restored items of every slot (R159, R208). -/
def takeUpItems (s : State) : State :=
  { s with parcels := Vector.ofFn s.restoredParcel, restored := Vector.replicate 6 .empty }

/-- The load completes and the unit becomes RUNNING (R208). -/
def completeLoad (s : State) : State :=
  let running := { takeUpItems s with unit := .running, load := .complete }
  reportStopLine .terminal
    (reportStopLine .ship (startSampleTimers (startAuditTimer (startInterval (setAlarm running)))))

/-- What follows the step for slot `p`: the next slot, or the end of the load (R208). -/
def afterCheckpoint (p : Fin 6) (s : State) : State :=
  if h : p.val + 1 < 6 then setLoad (.checkpoints ⟨p.val + 1, h⟩) s else completeLoad s

/-- The load's next parcel checkpoint (R206 to R208). -/
def execStoreLoadCheckpoint (s : State) : Host.Outcome State Fault Refusal :=
  if s.unit = .starting then
    match s.load with
    | .checkpoints p => .next (afterCheckpoint p (loadCheckpoint p s))
    | _ => .next s
  else .next s

/-! ### The checkpoint writer (R202) -/

/-- The write in flight completes (R202). -/
def execStoreWriteComplete (s : State) : Host.Outcome State Fault Refusal := .next (completeWrite s)

end Sys2Proof.Machine
end

