-- ==== Sys2Proof/Machine/Dispatch.lean ====
section
/-! DEFINITION. The dispatch: one arm per command. -/

namespace Sys2Proof.Machine

open Sys2Proof

def exec (i : Instr) (s : State) : Host.Outcome State Fault Refusal :=
  match i with
  | .status l tag payload => Sys2Proof.Machine.execStatus l tag payload s
  | .counterReset l tag payload => Sys2Proof.Machine.execCounterReset l tag payload s
  | .setLinkParameters l tag payload => Sys2Proof.Machine.execSetLinkParameters l tag payload s
  | .postReadings l tag payload => Sys2Proof.Machine.execPostReadings l tag payload s
  | .proposeBegin l tag payload => Sys2Proof.Machine.execProposeBegin l tag payload s
  | .proposeSegment l tag payload => Sys2Proof.Machine.execProposeSegment l tag payload s
  | .endorse l tag payload => Sys2Proof.Machine.execEndorse l tag payload s
  | .decline l tag payload => Sys2Proof.Machine.execDecline l tag payload s
  | .withdrawPending l tag payload => Sys2Proof.Machine.execWithdrawPending l tag payload s
  | .withdrawCurrent l tag payload => Sys2Proof.Machine.execWithdrawCurrent l tag payload s
  | .readRecordState l tag payload => Sys2Proof.Machine.execReadRecordState l tag payload s
  | .declareOpen l tag payload => Sys2Proof.Machine.execDeclareOpen l tag payload s
  | .declareResume l tag payload => Sys2Proof.Machine.execDeclareResume l tag payload s
  | .declareClose l tag payload => Sys2Proof.Machine.execDeclareClose l tag payload s
  | .declareAbandon l tag payload => Sys2Proof.Machine.execDeclareAbandon l tag payload s
  | .declareRelease l tag payload => Sys2Proof.Machine.execDeclareRelease l tag payload s
  | .declareCallClear l tag payload => Sys2Proof.Machine.execDeclareCallClear l tag payload s
  | .suspend l tag payload => Sys2Proof.Machine.execSuspend l tag payload s
  | .transferEnd l tag payload => Sys2Proof.Machine.execTransferEnd l tag payload s
  | .readTank l tag payload => Sys2Proof.Machine.execReadTank l tag payload s
  | .readParcel l part tag payload => Sys2Proof.Machine.execReadParcel l part tag payload s
  | .readFinal l part tag payload => Sys2Proof.Machine.execReadFinal l part tag payload s
  | .readTrail l tag payload => Sys2Proof.Machine.execReadTrail l tag payload s
  | .hold l tag payload => Sys2Proof.Machine.execHold l tag payload s
  | .releaseHold l tag payload => Sys2Proof.Machine.execReleaseHold l tag payload s
  | .unknownRequest l code selector tag payload => Sys2Proof.Machine.execUnknownRequest l code selector tag payload s
  | .damagedFrame l fault => Sys2Proof.Machine.execDamagedFrame l fault s
  | .overrun l => Sys2Proof.Machine.execOverrun l s
  | .idleGapInFrame l => Sys2Proof.Machine.execIdleGapInFrame l s
  | .responseSend l => Sys2Proof.Machine.execResponseSend l s
  | .responseSent l => Sys2Proof.Machine.execResponseSent l s
  | .takeTankReading => Sys2Proof.Machine.execTakeTankReading s
  | .takeShipCondition => Sys2Proof.Machine.execTakeShipCondition s
  | .takeLineConditions => Sys2Proof.Machine.execTakeLineConditions s
  | .assemblyTimeout slot => Sys2Proof.Machine.execAssemblyTimeout slot s
  | .auditTimerExpiry => Sys2Proof.Machine.execAuditTimerExpiry s
  | .auditWalkStep => Sys2Proof.Machine.execAuditWalkStep s
  | .sampleTimerExpiry m => Sys2Proof.Machine.execSampleTimerExpiry m s
  | .intervalTimerExpiry => Sys2Proof.Machine.execIntervalTimerExpiry s
  | .settleTimerExpiry p => Sys2Proof.Machine.execSettleTimerExpiry p s
  | .declarationLapse subject kind => Sys2Proof.Machine.execDeclarationLapse subject kind s
  | .holdTimerExpiry l => Sys2Proof.Machine.execHoldTimerExpiry l s
  | .silenceTimeout l => Sys2Proof.Machine.execSilenceTimeout l s
  | .meterPulse m => Sys2Proof.Machine.execMeterPulse m s
  | .stopLineAsserted line => Sys2Proof.Machine.execStopLineAsserted line s
  | .stopLineCleared line => Sys2Proof.Machine.execStopLineCleared line s
  | .fullResetBegin cause => Sys2Proof.Machine.execFullResetBegin cause s
  | .fullResetEnd => Sys2Proof.Machine.execFullResetEnd s
  | .storeLoadStart => Sys2Proof.Machine.execStoreLoadStart s
  | .storeLoadRecord => Sys2Proof.Machine.execStoreLoadRecord s
  | .storeLoadLinkParameters => Sys2Proof.Machine.execStoreLoadLinkParameters s
  | .storeLoadCheckpoint => Sys2Proof.Machine.execStoreLoadCheckpoint s
  | .storeWriteComplete => Sys2Proof.Machine.execStoreWriteComplete s
  | .idleGap l => Sys2Proof.Machine.execIdleGap l s

end Sys2Proof.Machine
end

