-- ==== Sys2Proof/Machine/Step.lean ====
section
/-! DEFINITION. One step of the unit: the command at the front of the queue, or a tick of the clock. -/

namespace Sys2Proof.Machine

open Sys2Proof

/-- The command at the front of the queue is taken with the queue's rest. With no command waiting the clock ticks: log 1. -/
def step (s : State) : Host.Outcome State Fault Refusal :=
  match s.pending with
  | c :: rest => exec c (setPendingCommands rest s)
  | [] => .next (tickClock s)

/-- The command a word spells is put at the front of the queue; no word spells one. -/
def State.withFetchWord (s : State) (nbits w : Nat) : State :=
  match decodeTableWord nbits w with
  | some c => setPendingCommands (c :: s.pending) s
  | none => s

end Sys2Proof.Machine
end

