-- ==== Sys2Proof/WellFormed.lean ====
section
/-! DEFINITION. When a command is one that the unit can be sent: the bounds the type of its operands does not already give. -/

namespace Sys2Proof

open Sys2Proof.Machine

/-- A payload that one frame carries (R175). -/
def payloadFits (payload : List Byte) : Bool := payload.length ≤ 240

/-- The kind is one its subject takes (R113). -/
def subjectTakes : Subject → DeclKind → Bool
  | .unit, kind => kind == .callClear
  | .parcel _, kind => kind != .callClear

/-- The command is well formed. -/
def wellFormed : Instr → Bool
  | .status _ _ payload => payloadFits payload
  | .counterReset _ _ payload => payloadFits payload
  | .setLinkParameters _ _ payload => payloadFits payload
  | .postReadings _ _ payload => payloadFits payload
  | .proposeBegin _ _ payload => payloadFits payload
  | .proposeSegment _ _ payload => payloadFits payload
  | .endorse _ _ payload => payloadFits payload
  | .decline _ _ payload => payloadFits payload
  | .withdrawPending _ _ payload => payloadFits payload
  | .withdrawCurrent _ _ payload => payloadFits payload
  | .readRecordState _ _ payload => payloadFits payload
  | .declareOpen _ _ payload => payloadFits payload
  | .declareResume _ _ payload => payloadFits payload
  | .declareClose _ _ payload => payloadFits payload
  | .declareAbandon _ _ payload => payloadFits payload
  | .declareRelease _ _ payload => payloadFits payload
  | .declareCallClear _ _ payload => payloadFits payload
  | .suspend _ _ payload => payloadFits payload
  | .transferEnd _ _ payload => payloadFits payload
  | .readTank _ _ payload => payloadFits payload
  | .readParcel _ _ _ payload => payloadFits payload
  | .readFinal _ _ _ payload => payloadFits payload
  | .readTrail _ _ payload => payloadFits payload
  | .hold _ _ payload => payloadFits payload
  | .releaseHold _ _ payload => payloadFits payload
  | .unknownRequest _ code selector _ payload => payloadFits payload && !requestDefined code selector
  | .damagedFrame _ _ => true
  | .overrun _ => true
  | .idleGapInFrame _ => true
  | .responseSend _ => true
  | .responseSent _ => true
  | .takeTankReading => true
  | .takeShipCondition => true
  | .takeLineConditions => true
  | .assemblyTimeout slot => (tankOfSlot slot).isSome
  | .auditTimerExpiry => true
  | .auditWalkStep => true
  | .sampleTimerExpiry _ => true
  | .intervalTimerExpiry => true
  | .settleTimerExpiry _ => true
  | .declarationLapse subject kind => subjectTakes subject kind
  | .holdTimerExpiry _ => true
  | .silenceTimeout _ => true
  | .meterPulse _ => true
  | .stopLineAsserted _ => true
  | .stopLineCleared _ => true
  | .fullResetBegin _ => true
  | .fullResetEnd => true
  | .storeLoadStart => true
  | .storeLoadRecord => true
  | .storeLoadLinkParameters => true
  | .storeLoadCheckpoint => true
  | .storeWriteComplete => true
  | .idleGap _ => true

end Sys2Proof
end

