-- ==== Sys2Proof/Safety.lean ====
section
/-! DEFINITION. The terms claims are stated in: what a request row carries, when a request is taken, and what every state of a
run keeps: the pool, the trail, the alarm line, the concurrence table, the bindings, the digests, the counts, the links and
the writer. -/

namespace Sys2Proof.Machine

open Sys2Proof

/-! ### Requests (R180, R188) -/

/-- What a request row of R188 carries: whether it is counted, and whether it is answered NOT_READY while STARTING (R204). -/
structure Request where
  link : Link
  code : Byte
  tag : Byte
  payload : List Byte
  counted : Bool
  ready : Readiness
  deriving DecidableEq, Repr

/-- A counted request, answered NOT_READY while STARTING. -/
def countedRequest (l : Link) (code tag : Byte) (payload : List Byte) : Request :=
  { link := l, code, tag, payload, counted := true, ready := .whenRunning }

/-- An uncounted read, answered NOT_READY while STARTING. -/
def readRequest (l : Link) (code tag : Byte) (payload : List Byte) : Request :=
  { link := l, code, tag, payload, counted := false, ready := .whenRunning }

/-- An uncounted request that is answered in every unit state. -/
def alwaysRequest (l : Link) (code tag : Byte) (payload : List Byte) : Request :=
  { link := l, code, tag, payload, counted := false, ready := .always }

/-- The request of a command, by the rows of R188; none for a command that is no intact frame. -/
def requestOf : Instr → Option Request
  | .status l tag payload => some (alwaysRequest l 0x01 tag payload)
  | .counterReset l tag payload => some (alwaysRequest l 0x02 tag payload)
  | .setLinkParameters l tag payload => some (countedRequest l 0x03 tag payload)
  | .postReadings l tag payload => some (countedRequest l 0x10 tag payload)
  | .proposeBegin l tag payload => some (countedRequest l 0x20 tag payload)
  | .proposeSegment l tag payload => some (countedRequest l 0x21 tag payload)
  | .endorse l tag payload => some (countedRequest l 0x22 tag payload)
  | .decline l tag payload => some (countedRequest l 0x23 tag payload)
  | .withdrawPending l tag payload => some (countedRequest l 0x24 tag payload)
  | .withdrawCurrent l tag payload => some (countedRequest l 0x24 tag payload)
  | .readRecordState l tag payload => some (readRequest l 0x28 tag payload)
  | .declareOpen l tag payload => some (countedRequest l 0x30 tag payload)
  | .declareResume l tag payload => some (countedRequest l 0x30 tag payload)
  | .declareClose l tag payload => some (countedRequest l 0x30 tag payload)
  | .declareAbandon l tag payload => some (countedRequest l 0x30 tag payload)
  | .declareRelease l tag payload => some (countedRequest l 0x30 tag payload)
  | .declareCallClear l tag payload => some (countedRequest l 0x30 tag payload)
  | .suspend l tag payload => some (countedRequest l 0x31 tag payload)
  | .transferEnd l tag payload => some (countedRequest l 0x32 tag payload)
  | .readTank l tag payload => some (readRequest l 0x38 tag payload)
  | .readParcel l _ tag payload => some (readRequest l 0x39 tag payload)
  | .readFinal l _ tag payload => some (readRequest l 0x3A tag payload)
  | .readTrail l tag payload => some (readRequest l 0x40 tag payload)
  | .hold l tag payload => some (countedRequest l 0x48 tag payload)
  | .releaseHold l tag payload => some (countedRequest l 0x49 tag payload)
  | .unknownRequest l code selector tag payload =>
    if requestDefined code selector then none else some (alwaysRequest l code tag payload)
  | .damagedFrame _ _ => none
  | .overrun _ => none
  | .idleGapInFrame _ => none
  | .responseSend _ => none
  | .responseSent _ => none
  | .takeTankReading => none
  | .takeShipCondition => none
  | .takeLineConditions => none
  | .assemblyTimeout _ => none
  | .auditTimerExpiry => none
  | .auditWalkStep => none
  | .sampleTimerExpiry _ => none
  | .intervalTimerExpiry => none
  | .settleTimerExpiry _ => none
  | .declarationLapse _ _ => none
  | .holdTimerExpiry _ => none
  | .silenceTimeout _ => none
  | .meterPulse _ => none
  | .stopLineAsserted _ => none
  | .stopLineCleared _ => none
  | .fullResetBegin _ => none
  | .fullResetEnd => none
  | .storeLoadStart => none
  | .storeLoadRecord => none
  | .storeLoadLinkParameters => none
  | .storeLoadCheckpoint => none
  | .storeWriteComplete => none
  | .idleGap _ => none

/-- A request frame with this payload is taken on link `l`: the link receives, its controller is free and the payload is one a
frame carries (R174, R175, R179, R203). -/
def Ready (l : Link) (payload : List Byte) (s : State) : Prop :=
  s.unit ≠ .inactive ∧ (s.link l).discarding = false ∧ (s.link l).controller = .free ∧ payload.length ≤ 240

/-- A request frame with this payload is taken while the unit is RUNNING. -/
def ReadyRunning (l : Link) (payload : List Byte) (s : State) : Prop := s.unit = .running ∧ Ready l payload s

/-- The refusal codes of R189. -/
def isRefusal : ResultCode → Bool
  | .done => false
  | .accepted => false
  | .awaitingCounterpart => false
  | .format => true
  | .range => true
  | .unknownRequest => true
  | .owner => true
  | .state => true
  | .bound => true
  | .inUse => true
  | .duplicate => true
  | .notReady => true
  | .intakeFull => true
  | .poolFull => true
  | .segment => true
  | .stopActive => true
  | .settling => true
  | .seqAhead => true
  | .counterpartPresent => true

/-- The unit `u` with the answer of a request on link `l` decided: the controller holds it, and nothing else differs (R180). -/
def answered (l : Link) (code tag : Byte) (result : ResultCode) (body : List Byte) (u : State) : State :=
  setLink l { u.link l with controller := .answering { code, tag, result, body } } u

/-! ### Effects that several commands share -/

/-- The figure a tank has when a computation is due for it in `w`, from what the engine kept of it before (R68, R79, R80,
R84). -/
def figureDue (w : State) (x : TankId) (k : Tank) : Figure :=
  match k.reading with
  | none => k.figure
  | some r =>
    match w.tankBasis x with
    | some b => computeFigure b w.shipCondition r k.figure.temperature
    | none => if k.figure.status = .current then holdFigure k.figure else k.figure

/-- Between `u` and `w` a computation was due for exactly the tanks of `due`; no latest reading changed (R84). -/
def Computed (due : TankId → Bool) (u w : State) : Prop :=
  ∀ x, (w.tank x).reading = (u.tank x).reading
    ∧ (w.tank x).figure = if due x then figureDue w x (u.tank x) else (u.tank x).figure

/-- Trail and newest sequence of `w` are those of `v`. -/
def SameTrail (v w : State) : Prop := w.trail = v.trail ∧ w.newest = v.newest

/-- The queue and the write in flight of `w` are those of `v`. -/
def SameWrites (v w : State) : Prop := w.writeQueue = v.writeQueue ∧ w.inFlight = v.inFlight

/-- Slot `p` holds `v` in `w`, and every other slot what it held in `u`. -/
def ParcelBecomes (p : Fin 6) (v : Parcel) (u w : State) : Prop :=
  w.parcel p = v ∧ ∀ q, q ≠ p → w.parcel q = u.parcel q

/-- Record slot `k` holds `v` in `w`, and every other record slot what it held in `u`. -/
def SlotBecomes (k : RecordSlot) (v : Slot) (u w : State) : Prop :=
  w.slot k = v ∧ ∀ j, j ≠ k → w.slot j = u.slot j

/-- The accumulator set of the meter, where there is one, becomes `a`; nothing else of any channel changes (R99). -/
def AccumulatorsBecome (m : Option (Fin 4)) (a : Option AccumulatorSet) (u w : State) : Prop :=
  ∀ x, w.channel x = if m = some x then { u.channel x with accumulators := a } else u.channel x

/-- The hand-offs of a change of slot `p`, to any state but FREE, between `u` and `w` (R111, R117, R152, R201). -/
def HandedOff (p : Fin 6) (d : StateDetail) (u w : State) : Prop :=
  w.concurrence = u.concurrence.filter (entryStays p (w.parcel p).state)
    ∧ SameTrail (appendTrail (.parcelState p (w.parcel p).state d) u) w
    ∧ SameWrites (giveWrite (.checkpoint p) (.checkpoint (w.checkpointOf p) (checkpointCheck (w.checkpointOf p))) u) w
    ∧ w.alarm = w.alarmDue

/-- The silence tests of both links, ship link first, that a change of the settings in use makes between `u`, where the new
settings are in use, and `w` (R42, R184, R185, log 22). -/
def SilenceTested (u w : State) : Prop :=
  let exceeded : Link → Bool := fun l =>
    match (u.link l).lastIntact with
    | some t => decide (10 * u.settingsInUse.silenceLimit < (u.clock - t).toNat)
    | none => false
  let lost : Link → Bool := fun l => (u.link l).state == .active && exceeded l
  let ship := if lost .ship then appendTrail (.linkState .ship .lost) u else u
  (∀ l, w.link l =
      if lost l then
        { u.link l with state := .lost, restoreCount := 0, report := { (u.link l).report with wasLost := true } }
      else if (u.link l).state == .lost && exceeded l then { u.link l with restoreCount := 0 }
      else u.link l)
    ∧ SameTrail (if lost .terminal then appendTrail (.linkState .terminal .lost) ship else ship) w
    ∧ w = { u with shipLink := w.shipLink, terminalLink := w.terminalLink, trail := w.trail, newest := w.newest }

/-! ### Evaluations (R138 to R141) -/

/-- The transferred quantities of R138 and R139: what left one side and arrived at the other, signed by the direction. -/
def transferred (r : ParcelRecord) (o : OpeningFigures) (ships shores : Int) : Quantities :=
  let sign : Int := match r.direction with
    | .discharge => 1
    | .load => -1
  let qShip := sign * (o.shipTotal - ships)
  { shipTotal := ships, shoreTotal := shores, qShip, qShore := sign * (shores - o.shoreTotal)
    qAdj := if r.applyVef then roundDiv (qShip * 1000000) o.vef else qShip }

/-- What R140 and R141 make of a difference against a shore quantity, with the defaults of R107. -/
def compared (r : ParcelRecord) (difference qShore : Int) : CompOutcome :=
  let ratio := max (-999999) (min 999999 (roundDiv (difference * 1000000) qShore.toNat))
  if qShore < (r.baseMinimum.getD defaultBaseMinimum : Nat) then
    { result := .notEvaluated .belowMinimum, difference := some difference, ratio := none }
  else
    { difference := some difference, ratio := some ratio
      result := .graded
        (if ratio.natAbs ≤ r.watchBand.getD defaultWatchBand then .within
          else if ratio.natAbs ≤ r.alarmBand.getD defaultAlarmBand then .watch
          else .outside) }

/-! ### Moves of a parcel slot (R110) -/

/-- The moves of a parcel slot that R110 gives for a unit that is RUNNING. -/
def movesTo : ParcelState → ParcelState → Bool
  | .free, .proposed => true
  | .proposed, .defined => true
  | .proposed, .free => true
  | .defined, .free => true
  | .defined, .transfer => true
  | .defined, .abandoned => true
  | .transfer, .suspended => true
  | .transfer, .settling => true
  | .transfer, .abandoned => true
  | .suspended, .transfer => true
  | .suspended, .settling => true
  | .suspended, .abandoned => true
  | .settling, .transfer => true
  | .settling, .closed => true
  | .settling, .abandoned => true
  | .closed, .free => true
  | .abandoned, .free => true
  | _, _ => false

/-- TRANSFER, SUSPENDED, SETTLING, CLOSED and ABANDONED: the states after an opening fix (R109). -/
def isOpened : ParcelState → Bool
  | .transfer => true
  | .suspended => true
  | .settling => true
  | .closed => true
  | .abandoned => true
  | _ => false

/-! ### What every state of a run keeps -/

/-- A pending version's segments (R26 to R29): an ASSEMBLING version has received full segments only, with more to come; a
PROPOSED version holds exactly the points it declared. -/
def PendingSound (v : PendingVersion) : Prop :=
  match v.assembly with
  | some _ =>
    v.points.length = 24 * v.received ∧ v.received < v.expected ∧ v.expected = segmentCount v.declaredPoints
  | none => v.points.length = v.declaredPoints

/-- A slot of a kind without a table holds no points, and a pending version's segments are in order (R15, R26). -/
def SlotSound (k : RecordSlot) (v : Slot) : Prop :=
  ((tankOfSlot k).isNone → heldPoints v = 0) ∧ ∀ q, v.pending = some q → PendingSound q

/-- The store load has not yet come to slot `k` (R205). -/
def State.awaitsLoad (s : State) (k : RecordSlot) : Prop :=
  match s.load with
  | .start => True
  | .records i => i ≤ slotIndex k
  | _ => False

/-- The points held by every version of the record set (R12). -/
def State.pointsHeld (s : State) : Nat := ((List.finRange 60).map fun i => heldPoints (s.slots.get i)).sum

/-- The free count of the pool is 8,192 less the points every version holds (R12), with what this rests on: the segments of
pending versions, and no version in a slot that the load has not come to. -/
def PoolAccounted (s : State) : Prop :=
  s.poolFree + s.pointsHeld = 8192 ∧ (∀ k, SlotSound k (s.slot k))
    ∧ (∀ k, s.awaitsLoad k → (s.slot k).current = none)
    ∧ (s.unit = .running → s.load = .complete) ∧ (s.unit = .inactive → s.load = .start)

/-- The trail holds at most 256 records with consecutive ascending sequence numbers that end at the newest (R160, R161). -/
def TrailInOrder (s : State) : Prop :=
  s.trail.length ≤ 256 ∧ s.trail.length ≤ s.newest ∧ s.newest ≤ 4294967295
    ∧ s.trail.map (fun r => r.seq) = List.range' (s.newest - s.trail.length + 1) s.trail.length

/-- The alarm line of a RUNNING unit is asserted exactly when a comparison of a live parcel is DISCREPANT; it is deasserted
otherwise, with no pending version and the interval timer stopped. The supply of a unit that is not inactive is within its
operating level, so its contact is closed exactly while the line is deasserted (R152, R135, R196, R203). -/
def AlarmStands (s : State) : Prop :=
  (s.unit = .running → s.alarm = s.alarmDue)
    ∧ (s.unit ≠ .inactive → s.powered = true ∧ s.contactClosed = !s.alarm)
    ∧ (s.unit ≠ .running → s.alarm = false ∧ s.intervalTimer = none ∧ ∀ k, (s.slot k).pending = none)

/-- The subject of an entry is in a state in which its kind is allowed (R113). -/
def State.EntryAllowed (s : State) (e : Concurrence) : Prop :=
  match e.subject with
  | .parcel p => kindAllowed e.kind (s.parcel p).state = true
  | .unit => e.kind = .callClear ∧ ∀ p, allowsCallClear (s.parcel p).state = true

/-- The concurrence table holds one entry at most for each subject and kind, each allowed in its subject's state, and none
while the unit is not RUNNING (R113, R117, R118). -/
def TableAllowed (s : State) : Prop :=
  (∀ e ∈ s.concurrence, s.EntryAllowed e)
    ∧ s.concurrence.Pairwise (fun a b => ¬(a.subject = b.subject ∧ a.kind = b.kind))
    ∧ (s.unit ≠ .running → s.concurrence = [])

/-- Two parcel slots other than FREE name no tank and no meter in common (R89, R108, R207). -/
def BoundOnce (s : State) : Prop :=
  ∀ p q r o, p ≠ q → s.boundRecord p = some r → s.boundRecord q = some o →
    (∀ x ∈ tanksNamed r, x ∉ tanksNamed o) ∧ ∀ m, r.meter = some m → o.meter ≠ some m

/-- The load has not yet come to the checkpoints (R205). -/
def State.awaitsCheckpoints (s : State) : Prop :=
  match s.load with
  | .start => True
  | .records _ => True
  | .linkParameters _ => True
  | .checkpoints _ => False
  | .complete => False

/-- Tanks and meters are bound to one parcel at most, with what this rests on: a pending parcel record version stands only in a
slot in PROPOSED of a RUNNING unit, and every slot is FREE until the load comes to the checkpoints (R27, R110, R206). -/
def BindingSound (s : State) : Prop :=
  BoundOnce s
    ∧ (∀ p, (s.slot (.parcel p)).pending ≠ none → (s.parcel p).state = .proposed ∧ s.unit = .running)
    ∧ (s.awaitsCheckpoints → ∀ p, (s.parcel p).state = .free)

/-- Every current version is the content whose digest was endorsed and is IN_FORCE, and every PROPOSED version is the content
whose digest was declared (R22, R27, R29, R36, R44). -/
def DigestsHold (s : State) : Prop :=
  (∀ k v, (s.slot k).current = some v → v.suspect = false ∧ recordDigest v.content v.points = v.digest)
    ∧ ∀ k q, (s.slot k).pending = some q → q.assembly = none → recordDigest q.content q.points = q.declaredDigest

/-- The ranges of one comparison (R145, R148). -/
def ComparisonSound (c : Comparison) : Prop :=
  c.history.length ≤ 10 ∧ c.counters.within ≤ 65535 ∧ c.counters.watch ≤ 65535 ∧ c.counters.outside ≤ 65535
    ∧ c.counters.notEvaluated ≤ 65535

/-- The ranges of a slot's comparison items (R145, R148). -/
def ItemsSound (i : CompItems) : Prop :=
  ComparisonSound i.ship ∧ (∀ c, i.meter = some c → ComparisonSound c) ∧ i.evaluations ≤ 65535 ∧ i.degraded ≤ 65535

/-- The ranges of the counts of a stored checkpoint (R123, R199). -/
def ContentSound : StoredContent → Prop
  | .checkpoint c _ => (∀ i, c.comparisons = some i → ItemsSound i) ∧ ∀ n, c.suspensions = some n → n ≤ 65535
  | _ => True

/-- The ranges of the counts of a place's copy. -/
def PlaceSound : Place → Prop
  | .copy c => ContentSound c.content
  | _ => True

/-- Histories hold at most ten entries and every counter stays at most 65,535, in the parcel slots, in what waits for the end
of the load, in the writer and in the store; so do the audit counts (R44, R123, R145, R148). -/
def CountsSound (s : State) : Prop :=
  (∀ p i, (s.parcel p).comparisons = some i → ItemsSound i)
    ∧ (∀ p n, (s.parcel p).suspensions = some n → n ≤ 65535)
    ∧ (∀ p i, (s.restoredItems p).comparisons = some i → ItemsSound i)
    ∧ (∀ k v, (s.slot k).current = some v → v.auditCount ≤ 65535)
    ∧ (∀ w ∈ s.writeQueue, ContentSound w.content) ∧ (∀ w, s.inFlight = some w → ContentSound w.content)
    ∧ ∀ o, PlaceSound (s.places o).first ∧ PlaceSound (s.places o).second

/-- The ranges of what a link holds (R53, R183, R184, R187). -/
def LinkSound (u : LinkUnit) : Prop :=
  u.counter ≤ 255 ∧ u.restoreCount ≤ 2 ∧ 1 ≤ u.threshold ∧ u.threshold ≤ 63 ∧ 10 ≤ u.holdTimeout
    ∧ u.holdTimeout ≤ 600 ∧ u.intake.length ≤ 64

/-- Both links are in their ranges. -/
def LinksSound (s : State) : Prop := LinkSound s.shipLink ∧ LinkSound s.terminalLink

/-- The write queue holds one write at most for each object, and waits only behind a write in flight (R200). -/
def WriterSound (s : State) : Prop :=
  s.writeQueue.Pairwise (fun a b => a.object ≠ b.object) ∧ (s.inFlight = none → s.writeQueue = [])

end Sys2Proof.Machine
end

