-- ==== Sys2Proof/Certificates/Slice0/Obligations.lean ====
section
/-! DEFINITION. The statements about the unit: what each command does, and what every state of a run keeps. -/

open Sys2Proof
open Sys2Proof.Machine

/-! ### The queue, the clock and reset -/

/-- The step of a state with a command at the front of its queue is that command's meaning on the state with the queue's
rest. -/
def Obligations.StepTakesFront : Prop :=
  ∀ (c : Instr) (rest : List Instr) (s : State), s.pending = c :: rest → step s = exec c { s with pending := rest }

/-- What the model adds to the unit: no command changes the queue of waiting commands (log 7), and with no command waiting the
clock of an active unit advances by a tenth and nothing else changes (log 1). -/
def Obligations.QueueAndClockAreTheModels : Prop :=
  (∀ (c : Instr) (s t : State), exec c s = .next t → t.pending = s.pending)
    ∧ ∀ s : State, s.pending = [] →
        (s.unit ≠ .inactive → step s = .next { s with clock := s.clock + 1 }) ∧ (s.unit = .inactive → step s = .next s)

/-- What a full reset leaves of every part of the unit. -/
def Obligations.ResetLeaves : Prop :=
  State.reset.unit = .starting ∧ State.reset.powered = true ∧ State.reset.load = .start ∧ State.reset.clock = 0
    ∧ (∀ l, State.reset.link l =
        { discarding := false, controller := .free, counter := 0,
          report := { headerCrc := false, payloadCrc := false, length := false, framing := false, overrun := false,
                      readingDiscarded := false, wasLost := false, holdExpired := false },
          state := .idle, lastIntact := none, restoreCount := 0, threshold := 48, holdTimeout := 120, intake := [],
          hold := none })
    ∧ State.reset.lastServed = .terminal
    ∧ (∀ k, State.reset.slot k = { current := none, pending := none, last := .none })
    ∧ State.reset.poolFree = 8192 ∧ State.reset.auditTimer = none ∧ State.reset.walk = none
    ∧ (∀ x, (State.reset.tank x).reading = none ∧ (State.reset.tank x).figure =
        { status := .none, volumes := none, temperature := none, shell := none, vcf := none, gsv := none,
          marks := { levelClamped := false, trimClamped := false, tempHeld := false, noTemp := false,
                     vcfClamped := false, tableHeld := false } })
    ∧ State.reset.shipCondition = none
    ∧ (∀ m, State.reset.channel m =
        { pulses := 0, lastCount := 0, lastTime := 0, timer := none, overRate := false, lastLineVcf := none,
          accumulators := none, lineConditions := none })
    ∧ (∀ p, State.reset.parcel p =
        { state := .free, opening := none, closing := none, reason := none, suspensions := none, settle := none,
          comparisons := none, final := none })
    ∧ (∀ p, State.reset.restoredItems p = { comparisons := none, final := none })
    ∧ State.reset.concurrence = [] ∧ State.reset.shipStop = false ∧ State.reset.terminalStop = false
    ∧ State.reset.intervalTimer = none ∧ State.reset.alarm = false ∧ State.reset.trail = []
    ∧ State.reset.newest = 0 ∧ State.reset.writeQueue = [] ∧ State.reset.inFlight = none

/-! ### The taking of a request -/

/-- Steps 1 and 2 of R180: an intact frame restarts the silence timer, moves the link from IDLE to ACTIVE, raises the restore
count of a LOST link or restores it at the third frame, and advances the frame counter of a counted request, from 255 to 1.
Nothing else of the unit changes. -/
def Obligations.FrameTaken : Prop :=
  ∀ (l : Link) (counted : Bool) (s : State),
    let v := s.link l
    let u := takeFrame l counted s
    let restored := v.state = .lost ∧ 2 ≤ v.restoreCount
    u.link l =
        { v with
          lastIntact := some s.clock
          counter := if counted then (if v.counter < 255 then v.counter + 1 else 1) else v.counter
          state := if v.state = .lost ∧ v.restoreCount < 2 then .lost else .active
          restoreCount := if v.state = .lost then (if v.restoreCount < 2 then v.restoreCount + 1 else 0)
                          else v.restoreCount }
      ∧ u.link (otherLink l) = s.link (otherLink l)
      ∧ (restored → SameTrail (appendTrail (.linkState l .restored) s) u)
      ∧ (¬restored → SameTrail s u)
      ∧ u = { s with shipLink := u.shipLink, terminalLink := u.terminalLink, trail := u.trail, newest := u.newest }

/-- A request frame that is not taken: it is discarded while the link does not receive; it is a LENGTH fault with a payload
over 240 bytes; on a busy controller it is an overrun. Neither answers it, counts it or restarts the silence timer. -/
def Obligations.RequestsNotTaken : Prop :=
  ∀ (c : Instr) (r : Request) (s : State), requestOf c = some r →
    (s.unit = .inactive ∨ (s.link r.link).discarding = true → exec c s = .next s)
      ∧ (s.unit ≠ .inactive → (s.link r.link).discarding = false → 240 < r.payload.length →
          (s.link r.link).controller = .free →
          exec c s = .next
            (setLink r.link
              { s.link r.link with
                discarding := true, restoreCount := 0, report := { (s.link r.link).report with length := true } } s))
      ∧ (s.unit ≠ .inactive → (s.link r.link).discarding = false → r.payload.length ≤ 240 →
          (s.link r.link).controller ≠ .free →
          exec c s = .next
            (setLink r.link
              { s.link r.link with restoreCount := 0, report := { (s.link r.link).report with overrun := true } } s))

/-- While the unit is STARTING every request but STATUS, COUNTER RESET and an undefined one is answered NOT_READY before any
check of its owner, with none of its effects. -/
def Obligations.StartingAnswersNotReady : Prop :=
  ∀ (c : Instr) (r : Request) (s : State), requestOf c = some r → r.ready = .whenRunning → s.unit = .starting →
    Ready r.link r.payload s →
    exec c s = .next (answered r.link r.code r.tag .notReady [] (takeFrame r.link r.counted s))

/-- A request that is answered with a refusal code changes nothing but what its frame does to the link. -/
def Obligations.RefusalsChangeNothing : Prop :=
  ∀ (c : Instr) (r : Request) (s t : State) (a : Answer), requestOf c = some r → Ready r.link r.payload s →
    exec c s = .next t → (t.link r.link).controller = .answering a → isRefusal a.result = true →
    a.code = r.code ∧ a.tag = r.tag
      ∧ t = answered r.link r.code r.tag a.result a.body (takeFrame r.link r.counted s)

/-! ### The link controllers -/

/-- STATUS, COUNTER RESET and an undefined request are answered in every unit state, and none of them is counted. -/
def Obligations.LinkRequestsAnswered : Prop :=
  ∀ (l : Link) (tag : Byte) (payload : List Byte) (s : State), Ready l payload s →
    let u := takeFrame l false s
    (payload = [] → exec (.status l tag payload) s = .next (answered l 0x01 tag .done [] u)
        ∧ exec (.counterReset l tag payload) s =
            .next (answered l 0x02 tag .done [] (setLink l { u.link l with counter := 0 } u)))
      ∧ (payload ≠ [] → exec (.status l tag payload) s = .next (answered l 0x01 tag .format [] u)
        ∧ exec (.counterReset l tag payload) s = .next (answered l 0x02 tag .format [] u))
      ∧ ∀ code selector, requestDefined code selector = false →
          exec (.unknownRequest l code selector tag payload) s = .next (answered l code tag .unknownRequest [] u)

/-- SET LINK PARAMETERS sets the threshold and the hold timeout of its link, gives the writer the link's parameters and
answers both values; it is refused FORMAT for another length and RANGE for a value outside its range. -/
def Obligations.LinkParametersSet : Prop :=
  ∀ (l : Link) (tag : Byte) (payload : List Byte) (s : State), ReadyRunning l payload s →
    let u := takeFrame l true s
    (∀ b h0 h1 : Byte, payload = [b, h0, h1] →
        let holdTimeout := h0.toNat + 256 * h1.toNat
        (1 ≤ b.toNat ∧ b.toNat ≤ 63 ∧ 10 ≤ holdTimeout ∧ holdTimeout ≤ 600 →
          exec (.setLinkParameters l tag payload) s =
            .next (answered l 0x03 tag .done payload
              (giveWrite (.linkParameters l)
                (.linkParameters b.toNat holdTimeout (linkParametersCheck b.toNat holdTimeout))
                (setLink l { u.link l with threshold := b.toNat, holdTimeout := holdTimeout } u))))
        ∧ (¬(1 ≤ b.toNat ∧ b.toNat ≤ 63 ∧ 10 ≤ holdTimeout ∧ holdTimeout ≤ 600) →
          exec (.setLinkParameters l tag payload) s = .next (answered l 0x03 tag .range [] u)))
      ∧ (payload.length ≠ 3 → exec (.setLinkParameters l tag payload) s = .next (answered l 0x03 tag .format [] u))

/-- What a fault of a frame, an overrun and a gap do to a link: the kind is set, the restore count becomes 0, and the rest is
discarded up to the next idle gap after FRAMING, HEADER_CRC and LENGTH. Each is answered by nothing, and no other part of
the unit changes. That an idle gap inside a frame leaves the receiver ready is the model's reading: log 6. -/
def Obligations.FaultsReported : Prop :=
  ∀ (l : Link) (s : State), s.unit ≠ .inactive →
    let v := s.link l
    (v.discarding = false → v.controller = .free →
        exec (.damagedFrame l .framing) s =
            .next (setLink l { v with
              discarding := true, restoreCount := 0, report := { v.report with framing := true } } s)
        ∧ exec (.damagedFrame l .headerCrc) s =
            .next (setLink l { v with
              discarding := true, restoreCount := 0, report := { v.report with headerCrc := true } } s)
        ∧ exec (.damagedFrame l .length) s =
            .next (setLink l { v with
              discarding := true, restoreCount := 0, report := { v.report with length := true } } s)
        ∧ exec (.damagedFrame l .payloadCrc) s =
            .next (setLink l { v with restoreCount := 0, report := { v.report with payloadCrc := true } } s)
        ∧ exec (.idleGapInFrame l) s =
            .next (setLink l { v with restoreCount := 0, report := { v.report with length := true } } s))
      ∧ (v.discarding = false →
        (∃ n, exec (.damagedFrame l .trailing) s =
            .next (setLink l { v with
              discarding := true, restoreCount := n, report := { v.report with length := true } } s)
            ∧ (n = 0 ∨ n = v.restoreCount))
        ∧ exec (.overrun l) s =
            .next (setLink l { v with restoreCount := 0, report := { v.report with overrun := true } } s))
      ∧ (v.discarding = false → v.controller ≠ .free →
        (∀ f, f ≠ .trailing →
          ∃ d, exec (.damagedFrame l f) s =
              .next (setLink l { v with
                discarding := d, restoreCount := 0, report := { v.report with overrun := true } } s)
              ∧ (d = false ↔ f = .payloadCrc))
        ∧ exec (.idleGapInFrame l) s =
            .next (setLink l { v with restoreCount := 0, report := { v.report with overrun := true } } s))
      ∧ (v.discarding = true →
        (∀ f, exec (.damagedFrame l f) s = .next s) ∧ exec (.overrun l) s = .next s
          ∧ exec (.idleGapInFrame l) s = .next (setLink l { v with discarding := false } s))
      ∧ exec (.idleGap l) s = .next (setLink l { v with discarding := false } s)

/-- The response of a decided request: five header bytes and their CRC, the status block as the unit stands at that event
and the body, and the payload's CRC. The intake level is derived with the link's threshold, and with 48 until the unit is
RUNNING (log 26). Its sending empties the error report and keeps the controller busy until the last
character has been sent. -/
def Obligations.ResponseSentOnce : Prop :=
  ∀ (l : Link) (s : State),
    let v := s.link l
    (∀ a, v.controller = .answering a →
      ∃ block payload header,
        block = leBytes 1 v.counter ++ leBytes 2 (reportMask v.report) ++ leBytes 1 v.intake.length
            ++ [intakeLevel v.intake.length (if s.unit = .running then v.threshold else 48), linkConditionCode (s.link (otherLink l)).state,
                unitStateCode s.unit]
            ++ leBytes 1 (flagMask [s.alarm, s.anySuspect, s.anyDegraded]) ++ leBytes 4 s.newest
        ∧ block.length = 12 ∧ payload = block ++ a.body
        ∧ header = [0x3C, a.code, resultCode a.result, a.tag, BitVec.ofNat 8 payload.length]
        ∧ exec (.responseSend l) s =
            .next (setLink l
              { v with
                controller := .sending
                  (header ++ leBytes 2 (frameCrc header).toNat ++ payload ++ leBytes 2 (frameCrc payload).toNat)
                report := { headerCrc := false, payloadCrc := false, length := false, framing := false,
                            overrun := false, readingDiscarded := false, wasLost := false,
                            holdExpired := false } } s))
      ∧ (∀ f, v.controller = .sending f →
        exec (.responseSent l) s = .next (setLink l { v with controller := .free } s))

/-- The two timers of a link. The silence test of a link whose silence timer exceeds the silence limit in use: an ACTIVE link
becomes LOST with WAS_LOST set and its LINK_STATE event; the restore count of a LOST link becomes 0; an IDLE link is not
tested; within the limit nothing changes. The hold timer of a holding link expires when the clock less the hold time reaches
the hold timeout: the copy is gone and HOLD_EXPIRED is set; before that nothing happens. A change of the settings in use
makes the silence test of both links, ship link first (log 22). -/
def Obligations.LinkTimersExpire : Prop :=
  (∀ (l : Link) (s : State),
    let v := s.link l
    (∀ start : Clock, s.unit ≠ .inactive → v.lastIntact = some start →
        let exceeded := 10 * s.settingsInUse.silenceLimit < (s.clock - start).toNat
        (exceeded → v.state = .active →
            exec (.silenceTimeout l) s =
              .next (appendTrail (.linkState l .lost)
                (setLink l { v with state := .lost, restoreCount := 0, report := { v.report with wasLost := true } } s)))
          ∧ (exceeded → v.state = .lost → exec (.silenceTimeout l) s = .next (setLink l { v with restoreCount := 0 } s))
          ∧ (v.state = .idle ∨ ¬exceeded → exec (.silenceTimeout l) s = .next s))
      ∧ ∀ h : HoldCopy, v.hold = some h →
          (10 * h.timeout ≤ (s.clock - h.time).toNat →
            exec (.holdTimerExpiry l) s =
              .next (setLink l { v with hold := none, report := { v.report with holdExpired := true } } s))
          ∧ ((s.clock - h.time).toNat < 10 * h.timeout → exec (.holdTimerExpiry l) s = .next s))
    ∧ ∀ u : State, SilenceTested u (settingsChanged u)

/-! ### Holds -/

/-- HOLD takes a copy of every tank, of the ship condition and of every parcel as they stand, with the unit clock as hold time
and the link's hold timeout, in place of any copy the link holds; it answers DONE with both times, and is refused FORMAT
with a payload. Nothing but the link changes. -/
def Obligations.HoldTaken : Prop :=
  ∀ (l : Link) (tag : Byte) (payload : List Byte) (s : State), ReadyRunning l payload s →
    let u := takeFrame l true s
    (payload = [] → ∃ h : HoldCopy,
        h.time = s.clock ∧ h.timeout = (s.link l).holdTimeout
          ∧ (∀ x, h.tanks.get (tankIndex x) =
              { reading := (s.tank x).reading, figure := (s.tank x).figure, stale := s.tankStale x })
          ∧ h.condition = s.conditionView ∧ (∀ p, h.parcels.get p = s.parcelView p)
          ∧ exec (.hold l tag payload) s =
              .next (answered l 0x48 tag .done (leBytes 4 s.clock.toNat ++ leBytes 2 (s.link l).holdTimeout)
                (setLink l { u.link l with hold := some h } u)))
      ∧ (payload ≠ [] → exec (.hold l tag payload) s = .next (answered l 0x48 tag .format [] u))

/-- RELEASE HOLD: counted; NOT_READY while STARTING; FORMAT with a payload; on a link that holds, the copy and with it the hold
timer are gone, the answer is DONE and the link's reads are answered from live state; on a link that does not hold it is
refused STATE and changes nothing. It sets no kind of the error report and appends no trail record. -/
def Obligations.HoldReleased : Prop :=
  ∀ (l : Link) (tag : Byte) (payload : List Byte) (s : State), Ready l payload s →
    let u := takeFrame l true s
    (s.unit = .starting → exec (.releaseHold l tag payload) s = .next (answered l 0x49 tag .notReady [] u))
      ∧ (s.unit = .running → payload ≠ [] →
        exec (.releaseHold l tag payload) s = .next (answered l 0x49 tag .format [] u))
      ∧ (s.unit = .running → payload = [] → (s.link l).hold = none →
        exec (.releaseHold l tag payload) s = .next (answered l 0x49 tag .state [] u))
      ∧ (s.unit = .running → payload = [] → (s.link l).hold ≠ none →
        ∃ t, exec (.releaseHold l tag payload) s = .next t
          ∧ t = answered l 0x49 tag .done [] (setLink l { u.link l with hold := none } u)
          ∧ (t.link l).report = (s.link l).report ∧ SameTrail u t ∧ t.readHead l = liveHead
          ∧ (∀ p, t.readParcelView l p = t.parcelView p) ∧ ∀ x, t.readTankView l x = t.tankView x)

/-! ### Readings -/

/-- POST READINGS, checked in the order of R51: FORMAT for a payload not laid out as one to eight entries, OWNER for an entry
the link does not post, RANGE for a number or a field out of range, INTAKE_FULL where the queue has no room for them all.
Otherwise all entries join the tail of the link's queue with the clock as their arrival time, and the answer is ACCEPTED. The
engine serves the queue that holds entries, and the one the last served mark does not name where both do; none while the unit
is STARTING. -/
def Obligations.ReadingsPostedAndServed : Prop :=
  (∀ (l : Link) (tag : Byte) (payload : List Byte) (s : State), ReadyRunning l payload s →
      let u := takeFrame l true s
      (parsePosting payload = none → exec (.postReadings l tag payload) s = .next (answered l 0x10 tag .format [] u))
        ∧ ∀ es, parsePosting payload = some es →
          (¬(∀ e ∈ es, entryPosted l e = true) →
              exec (.postReadings l tag payload) s = .next (answered l 0x10 tag .owner [] u))
            ∧ ((∀ e ∈ es, entryPosted l e = true) →
                ¬(∀ e ∈ es, (entryReading e).isSome = true ∧ entryInRange e = true) →
                exec (.postReadings l tag payload) s = .next (answered l 0x10 tag .range [] u))
            ∧ ((∀ e ∈ es, entryPosted l e = true) →
                (∀ e ∈ es, (entryReading e).isSome = true ∧ entryInRange e = true) →
                64 < (s.link l).intake.length + es.length →
                exec (.postReadings l tag payload) s = .next (answered l 0x10 tag .intakeFull [] u))
            ∧ ((∀ e ∈ es, entryPosted l e = true) →
                (∀ e ∈ es, (entryReading e).isSome = true ∧ entryInRange e = true) →
                (s.link l).intake.length + es.length ≤ 64 →
                ∃ rs : List Reading, es.map entryReading = rs.map some ∧ 1 ≤ rs.length ∧ rs.length ≤ 8
                  ∧ exec (.postReadings l tag payload) s =
                      .next (answered l 0x10 tag .accepted []
                        (setLink l
                          { u.link l with
                            intake := (s.link l).intake ++ rs.map fun r => { reading := r, arrival := s.clock } } u))))
    ∧
      ∀ s : State,
        (s.unit ≠ .running → s.nextEntry = none)
          ∧ (s.shipLink.intake = [] → s.terminalLink.intake = [] → s.nextEntry = none)
          ∧ (∀ e es, s.unit = .running → s.shipLink.intake = e :: es →
              (s.terminalLink.intake = [] ∨ s.lastServed = .terminal) → s.nextEntry = some (.ship, e))
          ∧ (∀ e es, s.unit = .running → s.terminalLink.intake = e :: es →
              (s.shipLink.intake = [] ∨ s.lastServed = .ship) → s.nextEntry = some (.terminal, e))

/-- The engine takes a tank reading: the entry leaves the head of its queue, which becomes the queue last served. A tank with
no current version and no PROPOSED one discards it with READING_DISCARDED on the posting link. Any other tank keeps it as
its latest reading and a computation is due for it: made where every source is in force, and held otherwise. No other tank
and nothing else of the unit changes. A computation that is made: the slopes of the ship condition, the level from the
corrected ullage or as posted, TOV and FW from the table, the mean of the probes that count or the temperature held, VCF, the
shell factor of a shore tank, GSV, and the marks of each stage. -/
def Obligations.TankReadingTaken : Prop :=
  (∀ (l : Link) (e : IntakeEntry) (x : TankId) (f : TankFields) (s : State), s.nextEntry = some (l, e) →
    ((∃ n, x = .ship n ∧ e.reading = .shipTank n f) ∨ (∃ n, x = .shore n ∧ e.reading = .shoreTank n f)) →
    let taken : LinkUnit := { s.link l with intake := (s.link l).intake.tail }
    let known := (s.slot (slotOfTank x)).current ≠ none
      ∨ ∃ v, (s.slot (slotOfTank x)).pending = some v ∧ v.assembly = none
    (¬known → exec .takeTankReading s =
        .next { setLink l { taken with report := { taken.report with readingDiscarded := true } } s with
                lastServed := l })
      ∧ (known → ∃ w, exec .takeTankReading s = .next w
        ∧ w = { setLink l taken s with lastServed := l, tanks := w.tanks }
        ∧ (∀ y, y ≠ x → w.tank y = s.tank y)
        ∧ (w.tank x).reading = some { fields := f, arrival := e.arrival }
        ∧ (w.tank x).figure =
            figureDue w x { reading := some { fields := f, arrival := e.arrival }, figure := (s.tank x).figure }))
    ∧
      ∀ (b : TankBasis) (c : Option ShipCondition) (r : TankReading) (held : Option Int),
        let clamp := fun (low high v : Int) => max low (min high v)
        let raw : Int × Int := match b.geometry, c with
          | .ship _ _ _ lbp, some v =>
            (roundDiv (((v.fields.aft : Int) - v.fields.fore) * 100000) lbp, v.fields.listSlope)
          | _, _ => (0, 0)
        let slopes := (clamp (-5000) 5000 raw.1, clamp (-5000) 5000 raw.2)
        let ullage : Int := match b.geometry with
          | .ship _ longitudinal transverse _ =>
            r.fields.gauge + roundDiv (longitudinal * slopes.1) 100000 + roundDiv (transverse * slopes.2) 100000
          | .shore => 0
        let level : Int := match b.geometry with
          | .ship height _ _ _ => height - clamp 0 height ullage
          | .shore => r.fields.gauge
        let counted := ([r.fields.probe1, r.fields.probe2, r.fields.probe3].zip b.probes).filterMap fun
          | (some v, height) => if -4000 ≤ v ∧ v ≤ 15000 ∧ (height : Int) ≤ level then some v else none
          | (none, _) => none
        let used := if counted = [] then held else some (roundDiv counted.sum counted.length)
        let rawVcf := fun (t : Int) =>
          1000000 - roundDiv (b.a * (t - 1500) * 10000 + b.b * ((t - 1500) * (t - 1500))) 10000000
        let vcf := used.map fun t => clamp 850000 1050000 (rawVcf t)
        let shellAt := match r.fields.shell with
          | some v => if -4000 ≤ v ∧ v ≤ 15000 then some v else used
          | none => used
        let shell := match b.geometry with
          | .shore => shellAt.map fun t => 1000000 + roundDiv (24 * (t - 1500)) 100
          | .ship _ _ _ _ => none
        let tov := volumeAt b.table level
        let fw := match r.fields.water with
          | some v => volumeAt b.table (min v level)
          | none => 0
        let gross := match shell with
          | some v => roundDiv ((tov - fw) * v) 1000000
          | none => tov - fw
        let f := computeFigure b c r held
        f.volumes = some { tov, fw, nov := tov - fw, readingTime := r.arrival } ∧ f.temperature = used ∧ f.vcf = vcf
          ∧ (∀ v, vcf = some v → f.status = .current ∧ f.shell = shell ∧ f.gsv = some (roundDiv (gross * v) 1000000))
          ∧ (vcf = none → tov = fw → f.status = .current ∧ f.shell = shell ∧ f.gsv = some 0)
          ∧ (vcf = none → tov ≠ fw → f.status = .none ∧ f.shell = none ∧ f.gsv = none)
          ∧ (f.marks.trimClamped = true ↔ slopes ≠ raw)
          ∧ (f.marks.levelClamped = true ↔
              (∃ height x y z, b.geometry = .ship height x y z ∧ clamp 0 height ullage ≠ ullage)
                ∨ (topLevel b.table : Int) < level ∨ ∃ v, r.fields.water = some v ∧ level < v)
          ∧ (f.marks.tempHeld = true ↔ counted = [] ∧ held ≠ none) ∧ (f.marks.noTemp = true ↔ used = none)
          ∧ (f.marks.vcfClamped = true ↔ ∃ t, used = some t ∧ vcf ≠ some (rawVcf t)) ∧ f.marks.tableHeld = false

/-- The engine takes a ship condition: it replaces the latest one and a computation is due for every ship tank with the new
slopes. No shore tank, no latest reading and nothing else of the unit changes. -/
def Obligations.ShipConditionTaken : Prop :=
  ∀ (l : Link) (e : IntakeEntry) (f : ConditionFields) (s : State), s.nextEntry = some (l, e) →
    e.reading = .shipCondition f →
    ∃ w, exec .takeShipCondition s = .next w
      ∧ w = { setLink l { s.link l with intake := (s.link l).intake.tail } s with
              lastServed := l, shipCondition := some { fields := f, arrival := e.arrival }, tanks := w.tanks }
      ∧ Computed (fun x => match x with
          | .ship _ => true
          | .shore _ => false) s w

/-- The engine takes line conditions: they replace the meter's latest line conditions where the meter's slot holds a current
version or a PROPOSED one, and are discarded with READING_DISCARDED otherwise. No tank and no accumulator changes. -/
def Obligations.LineConditionsTaken : Prop :=
  ∀ (l : Link) (e : IntakeEntry) (m : Fin 4) (temperature : Int) (s : State), s.nextEntry = some (l, e) →
    e.reading = .lineConditions m temperature →
    let taken : LinkUnit := { s.link l with intake := (s.link l).intake.tail }
    let known := (s.slot (.meter m)).current ≠ none ∨ ∃ v, (s.slot (.meter m)).pending = some v ∧ v.assembly = none
    (known → exec .takeLineConditions s =
        .next { setChannel m { s.channel m with lineConditions := some { temperature, arrival := e.arrival } }
                  (setLink l taken s) with lastServed := l })
      ∧ (¬known → exec .takeLineConditions s =
        .next { setLink l { taken with report := { taken.report with readingDiscarded := true } } s with
                lastServed := l })

/-- A valid table never decreases and keeps its volumes between its first volume and its top volume: at a breakpoint the volume
is the breakpoint's, and at or above the top level it is the top volume. A figure computed from such a table, with no
temperature held or a valid one, has FW from 0 to TOV, TOV at most the top volume, a valid temperature, VCF in
850,000..1,050,000, a shell factor in 998,680..1,003,240 and a GSV of 0 or more. A figure whose source leaves force keeps
every field and mark, takes TABLE_HELD, and becomes HELD where it was CURRENT. -/
def Obligations.VolumeWithinTable : Prop :=
  (∀ (table : List Breakpoint) (first : Breakpoint), tableValid table = true → table.head? = some first →
    (∀ p ∈ table, volumeAt table p.level = p.volume)
      ∧ (∀ level : Int, 0 ≤ level → (first.volume : Int) ≤ volumeAt table level
          ∧ volumeAt table level ≤ topVolume table)
      ∧ (∀ level : Int, (topLevel table : Int) ≤ level → volumeAt table level = topVolume table)
      ∧ ∀ low high : Int, 0 ≤ low → low ≤ high → volumeAt table low ≤ volumeAt table high)
    ∧ (∀ (b : TankBasis) (c : Option ShipCondition) (r : TankReading) (held : Option Int), tableValid b.table = true →
        (∀ t, held = some t → -4000 ≤ t ∧ t ≤ 15000) →
        let f := computeFigure b c r held
        (∃ v, f.volumes = some v ∧ 0 ≤ v.fw ∧ v.fw ≤ v.tov ∧ v.tov ≤ topVolume b.table ∧ v.nov = v.tov - v.fw)
          ∧ (∀ t, f.temperature = some t → -4000 ≤ t ∧ t ≤ 15000)
          ∧ (∀ v, f.vcf = some v → 850000 ≤ v ∧ v ≤ 1050000)
          ∧ (∀ v, f.shell = some v → 998680 ≤ v ∧ v ≤ 1003240) ∧ ∀ v, f.gsv = some v → 0 ≤ v)
    ∧ ∀ f : Figure,
        let h := holdFigure f
        (f.status = .current → h.status = .held) ∧ (f.status ≠ .current → h.status = f.status)
          ∧ h = { f with status := h.status, marks := { f.marks with tableHeld := true } }

/-- Every division is rounded to the nearest integer, and a half away from zero; a mean of probe temperatures is rounded in the
same way. -/
def Obligations.QuotientsRounded : Prop :=
  (∀ (n : Int) (d : Nat), 0 < d →
      let q := roundDiv n d
      2 * (n - d * q).natAbs ≤ d
        ∧ (2 * (n - d * q).natAbs = d → (0 ≤ n → n ≤ d * q) ∧ (n ≤ 0 → (d : Int) * q ≤ n)))
    ∧ roundDiv 25 10 = 3 ∧ roundDiv (-25) 10 = -3 ∧ roundDiv 61364 100 = 614 ∧ roundDiv (-5) 10 = -1
    ∧ ∀ vs : List Int, meanTemperature vs = roundDiv vs.sum vs.length

/-! ### The record set -/

/-- Content headers and breakpoints are carried byte for byte: the bytes a header was read from are the bytes its content has in
the canonical form, and those of a segment are its identifier, number and count and the canonical bytes of its breakpoints. So
the unit's digest is computed over what the proposer sent. -/
def Obligations.CanonicalFormIsAsSent : Prop :=
  (∀ (k : RecordSlot) (bytes : List Byte) (h : Header), parseHeader k bytes = some h → headerRefusal h = none →
      headerBytes (headerContent h) = bytes)
    ∧ ∀ (payload : List Byte) (g : SegmentLayout), parseSegment payload = some g →
        payload = g.identifier :: BitVec.ofNat 8 g.number :: BitVec.ofNat 8 g.points.length
            :: g.points.flatMap breakpointBytes
          ∧ 1 ≤ g.points.length ∧ g.points.length ≤ 24

/-- A tank proposal that passes its checks: the slot holds an ASSEMBLING version of zero segments received, its points leave the
pool, its assembly timer starts with the timeout in use, and the answer is ACCEPTED with the slot report. The current version
and the last outcome stay, and nothing else changes.
The refusals of R25 in the order of its checks, each with no effect but the frame's: FORMAT for a payload that is not laid
out, RANGE for an identifier that names no slot, OWNER for a link that does not own the kind, STATE over a pending version;
for a tank the refusal of its header's fields, RANGE for a point count outside 2..240, POOL_FULL for one above the free count. -/
def Obligations.TankProposalAssembles : Prop :=
  (∀ (l : Link) (tag : Byte) (payload : List Byte) (s : State) (b : BeginLayout) (k : RecordSlot) (x : TankId)
      (h : Header),
      ReadyRunning l payload s → parseBegin payload = some b → slotOfCode b.identifier = some k →
      tankOfSlot k = some x → parseHeader k b.header = some h → ownsKind l k = true → (s.slot k).pending = none →
      headerRefusal h = none → 2 ≤ b.points → b.points ≤ 240 → b.points ≤ s.poolFree →
      let u := takeFrame l true s
      let restoring := ∃ v, (s.slot k).current = some v ∧ v.suspect = true ∧ v.digest = b.digest
      ∃ q w, exec (.proposeBegin l tag payload) s = .next (answered l 0x20 tag .accepted (w.slotReport l k) w)
        ∧ q = { assembly := some { start := s.clock, duration := 10 * s.settingsInUse.assemblyTimeout }
                content := headerContent h, declaredPoints := b.points, declaredDigest := b.digest, proposer := l
                points := [], received := 0, expected := (b.points + 23) / 24, restoring := q.restoring }
        ∧ (q.restoring = true ↔ restoring)
        ∧ SlotBecomes k { s.slot k with pending := some q } u w ∧ w.poolFree = s.poolFree - b.points
        ∧ w = { u with slots := w.slots, poolFree := w.poolFree })
    ∧
      ∀ (l : Link) (tag : Byte) (payload : List Byte) (s : State), ReadyRunning l payload s →
        let u := takeFrame l true s
        let refused := fun (result : ResultCode) (report : List Byte) =>
          exec (.proposeBegin l tag payload) s = .next (answered l 0x20 tag result report u)
        (parseBegin payload = none → refused .format [])
          ∧ ∀ b, parseBegin payload = some b →
            (slotOfCode b.identifier = none → refused .range [])
              ∧ ∀ k, slotOfCode b.identifier = some k →
                let report := u.slotReport l k
                let owns := match k with
                  | .vessel => l = .ship
                  | .ship _ => l = .ship
                  | .shore _ => l = .terminal
                  | .meter _ => l = .terminal
                  | .parcel _ => True
                  | .settings => l = .terminal
                (parseHeader k b.header = none → refused .format [])
                  ∧ ∀ h, parseHeader k b.header = some h →
                    (¬owns → refused .owner report)
                      ∧ (owns → (s.slot k).pending ≠ none → refused .state report)
                      ∧ (owns → (s.slot k).pending = none → (tankOfSlot k).isSome = true →
                        (∀ c, headerRefusal h = some c → refused c report)
                          ∧ (headerRefusal h = none → ¬(2 ≤ b.points ∧ b.points ≤ 240) → refused .range report)
                          ∧ (headerRefusal h = none → 2 ≤ b.points → b.points ≤ 240 → s.poolFree < b.points →
                            refused .poolFull report))

/-- A proposal of a vessel, meter, parcel or unit settings record that passes its checks is decided at once. With equal digests
the slot holds a PROPOSED version, and a parcel slot that is not being restored enters PROPOSED with its hand-offs and a
zero accumulator set on the meter it names. With unequal digests the version is rejected with DIGEST_MISMATCH. Either way
the answer is DONE with the slot report, and the pool is untouched.
The refusals of R25 in order, after those that TankProposalAssembles states for every kind: STATE for a parcel slot that is not
FREE, unless the proposal is a restoring one; the refusal of the header's fields; FORMAT for a point count other than 0; BOUND
for a tank or meter that a parcel other than FREE names; STATE for one without a record in force. -/
def Obligations.WholeProposalDecided : Prop :=
  (∀ (l : Link) (tag : Byte) (payload : List Byte) (s : State) (b : BeginLayout) (k : RecordSlot) (h : Header),
      ReadyRunning l payload s → parseBegin payload = some b → slotOfCode b.identifier = some k → tankOfSlot k = none →
      parseHeader k b.header = some h → ownsKind l k = true → (s.slot k).pending = none → headerRefusal h = none →
      b.points = 0 →
      let restoring := s.isRestoring k b.digest
      (∀ p, k = .parcel p → restoring = false → (s.parcel p).state = .free
        ∧ ∀ r, headerContent h = .parcel r → s.boundElsewhere p r = false ∧ s.namedInForce r = true) →
      let u := takeFrame l true s
      (recordDigest (headerContent h) [] ≠ b.digest →
          ∃ w, exec (.proposeBegin l tag payload) s = .next (answered l 0x20 tag .done (w.slotReport l k) w)
            ∧ SlotBecomes k { s.slot k with last := .rejected .digestMismatch } u w
            ∧ SameTrail (appendTrail (.recordOutcome k (.rejected .digestMismatch)) u) w
            ∧ w = { u with slots := w.slots, trail := w.trail, newest := w.newest })
        ∧ (recordDigest (headerContent h) [] = b.digest →
          ∃ w, exec (.proposeBegin l tag payload) s = .next (answered l 0x20 tag .done (w.slotReport l k) w)
            ∧ SlotBecomes k
                { s.slot k with
                  pending := some
                    { assembly := none, content := headerContent h, declaredPoints := 0, declaredDigest := b.digest
                      proposer := l, points := [], received := 0, expected := 0, restoring := restoring } } u w
            ∧ ((∀ p, k ≠ .parcel p) ∨ restoring = true → w = { u with slots := w.slots })
            ∧ ∀ p r, k = .parcel p → headerContent h = .parcel r → restoring = false →
                ParcelBecomes p
                    { state := .proposed, opening := none, closing := none, reason := none, suspensions := none,
                      settle := none, comparisons := none, final := none } u w
                  ∧ AccumulatorsBecome r.meter
                      (some { parcel := p, indicated := 0, gross := 0, standard := 0, interrupted := false,
                              overRate := false, lineTempMissing := false }) u w
                  ∧ HandedOff p .plain u w
                  ∧ w = { u with
                          slots := w.slots, parcels := w.parcels, channels := w.channels, concurrence := w.concurrence
                          trail := w.trail, newest := w.newest, writeQueue := w.writeQueue, inFlight := w.inFlight
                          alarm := w.alarm }))
    ∧
      ∀ (l : Link) (tag : Byte) (payload : List Byte) (s : State) (b : BeginLayout) (k : RecordSlot) (h : Header),
        ReadyRunning l payload s → parseBegin payload = some b → slotOfCode b.identifier = some k → tankOfSlot k = none →
        parseHeader k b.header = some h → ownsKind l k = true → (s.slot k).pending = none →
        let u := takeFrame l true s
        let refused := fun (result : ResultCode) =>
          exec (.proposeBegin l tag payload) s = .next (answered l 0x20 tag result (u.slotReport l k) u)
        let restoring := ∃ v, (s.slot k).current = some v ∧ v.suspect = true ∧ v.digest = b.digest
        let closed := ∃ p, k = .parcel p ∧ (s.parcel p).state ≠ .free ∧ ¬restoring
        (closed → refused .state)
          ∧ (¬closed → ∀ c, headerRefusal h = some c → refused c)
          ∧ (¬closed → headerRefusal h = none → b.points ≠ 0 → refused .format)
          ∧ (¬closed → headerRefusal h = none → b.points = 0 → ¬restoring → ∀ p r, k = .parcel p →
              headerContent h = .parcel r →
              let bound := ∃ q o, q ≠ p ∧ s.boundRecord q = some o
                ∧ ((∃ x, x ∈ tanksNamed r ∧ x ∈ tanksNamed o) ∨ ∃ m, r.meter = some m ∧ o.meter = some m)
              let inForce := (∀ x ∈ tanksNamed r, s.inForce (slotOfTank x) ≠ none)
                ∧ ∀ m, r.meter = some m → s.inForce (.meter m) ≠ none
              (bound → refused .bound) ∧ (¬bound → ¬inForce → refused .state))

/-- What the rejection of a pending version does: it leaves its slot with the last outcome and the trail record of its detail,
its points return to the pool, a tank without a current version loses its latest reading and figure, and a parcel slot in
PROPOSED returns to FREE with the binding of its meter. -/
def Obligations.RejectionRemoves : Prop :=
  ∀ (k : RecordSlot) (d : RejectDetail) (unilateral : Bool) (s : State) (v : PendingVersion),
    (s.slot k).pending = some v →
    let w := rejectPending k d unilateral s
    let proposed := ∃ p, k = .parcel p ∧ (s.parcel p).state = .proposed
    SlotBecomes k { s.slot k with pending := none, last := .rejected d } s w
      ∧ w.poolFree = s.poolFree + v.declaredPoints
      ∧ (∀ x, w.tank x =
          if slotOfTank x = k ∧ (s.slot k).current = none then { reading := none, figure := .cleared } else s.tank x)
      ∧ (¬proposed → SameTrail (appendTrail (.recordOutcome k (.rejected d)) s) w
          ∧ w = { s with
                  slots := w.slots, poolFree := w.poolFree, tanks := w.tanks, trail := w.trail, newest := w.newest })
      ∧ ∀ p, k = .parcel p → (s.parcel p).state = .proposed →
          ParcelBecomes p .reset s w ∧ AccumulatorsBecome (s.boundMeter p) none s w
            ∧ w.concurrence = s.concurrence.filter (entryStays p .free)
            ∧ SameTrail (appendTrail (.parcelState p .free (.unilateral unilateral))
                (appendTrail (.recordOutcome k (.rejected d)) s)) w
            ∧ SameWrites (giveWrite (.checkpoint p) .removal s) w ∧ w.alarm = w.alarmDue
            ∧ w = { s with
                    slots := w.slots, poolFree := w.poolFree, parcels := w.parcels, channels := w.channels
                    concurrence := w.concurrence, trail := w.trail, newest := w.newest, writeQueue := w.writeQueue
                    inFlight := w.inFlight, alarm := w.alarm }

/-- The four commands that end a pending version without its entering force: an ENDORSE with an unequal digest, a DECLINE, a
WITHDRAW by its proposer, and the expiry of an assembly timer, which exceeds the timeout it started with.
The refusals of DECLINE and of WITHDRAW of a pending version in order: FORMAT, RANGE, STATE without such a version (for a DECLINE
a PROPOSED one), OWNER on the link that may not; neither is ever refused IN_USE or BOUND. -/
def Obligations.PendingVersionEnded : Prop :=
  (∀ (l : Link) (tag b : Byte) (s : State) (k : RecordSlot) (v : PendingVersion),
      slotOfCode b = some k → (s.slot k).pending = some v →
      let u := takeFrame l true s
      (∀ payload d, ReadyRunning l payload s → parseEndorse payload = some (b, d) → v.assembly = none → v.proposer ≠ l →
          (s.inUse k = false ∨ (s.slot k).current = none ∨ (v.restoring = true ∧ s.isSuspect k = true)) →
          v.declaredDigest ≠ d →
          let w := rejectPending k .counterMismatch false u
          exec (.endorse l tag payload) s = .next (answered l 0x22 tag .done (w.slotReport l k) w))
        ∧ (ReadyRunning l [b] s → v.assembly = none → v.proposer ≠ l →
          let w := rejectPending k .declined false u
          exec (.decline l tag [b]) s = .next (answered l 0x23 tag .done (w.slotReport l k) w))
        ∧ (ReadyRunning l [b] s → v.proposer = l →
          let w := rejectPending k .withdrawn false u
          exec (.withdrawPending l tag [b]) s = .next (answered l 0x24 tag .done (w.slotReport l k) w))
        ∧ ∀ timer, v.assembly = some timer →
            (timer.duration < (s.clock - timer.start).toNat →
              exec (.assemblyTimeout k) s = .next (rejectPending k .timeout false s))
            ∧ ((s.clock - timer.start).toNat ≤ timer.duration → exec (.assemblyTimeout k) s = .next s))
    ∧
      ∀ (l : Link) (tag : Byte) (payload : List Byte) (s : State), ReadyRunning l payload s →
        let u := takeFrame l true s
        let declined := fun (result : ResultCode) (report : List Byte) =>
          exec (.decline l tag payload) s = .next (answered l 0x23 tag result report u)
        let withdrawn := fun (result : ResultCode) (report : List Byte) =>
          exec (.withdrawPending l tag payload) s = .next (answered l 0x24 tag result report u)
        (payload.length ≠ 1 → declined .format [] ∧ withdrawn .format [])
          ∧ ∀ b, payload = [b] →
            (slotOfCode b = none → declined .range [] ∧ withdrawn .range [])
              ∧ ∀ k, slotOfCode b = some k →
                let report := u.slotReport l k
                ((s.slot k).pending = none → declined .state report ∧ withdrawn .state report)
                  ∧ ∀ v, (s.slot k).pending = some v →
                    (v.assembly ≠ none → declined .state report)
                      ∧ (v.assembly = none → v.proposer = l → declined .owner report)
                      ∧ (v.proposer ≠ l → withdrawn .owner report)

/-- A segment that passes its checks. A breakpoint that breaks a condition of the table rejects the version with its fault.
Otherwise a segment before the last joins the assembly, whose timer restarts, and is answered ACCEPTED; the last one is
rejected with POINT_COUNT for another number of points than remain and with DIGEST_MISMATCH for another digest, and
otherwise makes the version PROPOSED.
The refusals of R28 in order, which leave the assembly as it stood: FORMAT, RANGE for a slot that is no tank's, STATE without an
ASSEMBLING version, OWNER, SEGMENT for another number than the next, FORMAT for a short segment before the last. -/
def Obligations.SegmentTaken : Prop :=
  (∀ (l : Link) (tag : Byte) (payload : List Byte) (s : State) (g : SegmentLayout) (k : RecordSlot)
      (v : PendingVersion) (timer : Timer),
      ReadyRunning l payload s → parseSegment payload = some g → slotOfCode g.identifier = some k →
      (tankOfSlot k).isSome = true → (s.slot k).pending = some v → v.assembly = some timer → v.proposer = l →
      g.number = v.received + 1 → (g.number < v.expected → g.points.length = 24) →
      let u := takeFrame l true s
      let joined := v.points ++ g.points
      let answer := fun (result : ResultCode) (w : State) =>
        exec (.proposeSegment l tag payload) s = .next (answered l 0x21 tag result (w.slotReport l k) w)
      (∀ f, segmentFault v.points.getLast? g.points = some f → answer .done (rejectPending k f false u))
        ∧ (segmentFault v.points.getLast? g.points = none → g.number < v.expected →
            answer .accepted
              (setSlot k
                { s.slot k with
                  pending := some
                    { v with
                      points := joined, received := v.received + 1
                      assembly := some { start := s.clock, duration := 10 * s.settingsInUse.assemblyTimeout } } } u))
        ∧ (segmentFault v.points.getLast? g.points = none → ¬ g.number < v.expected →
            (g.points.length ≠ v.declaredPoints - 24 * (v.expected - 1) →
                answer .done (rejectPending k .pointCount false u))
            ∧ (g.points.length = v.declaredPoints - 24 * (v.expected - 1) →
                (recordDigest v.content joined ≠ v.declaredDigest →
                  answer .done (rejectPending k .digestMismatch false u))
                ∧ (recordDigest v.content joined = v.declaredDigest →
                  answer .done
                    (setSlot k
                      { s.slot k with
                        pending := some
                          { v with points := joined, received := v.received + 1, assembly := none } } u)))))
    ∧
      ∀ (l : Link) (tag : Byte) (payload : List Byte) (s : State), ReadyRunning l payload s →
        let u := takeFrame l true s
        let refused := fun (result : ResultCode) (report : List Byte) =>
          exec (.proposeSegment l tag payload) s = .next (answered l 0x21 tag result report u)
        (parseSegment payload = none → refused .format [])
          ∧ ∀ g, parseSegment payload = some g →
            (slotOfCode g.identifier = none → refused .range [])
              ∧ ∀ k, slotOfCode g.identifier = some k →
                let report := u.slotReport l k
                (tankOfSlot k = none → refused .range [])
                  ∧ ((tankOfSlot k).isSome = true →
                    ((∀ v, (s.slot k).pending = some v → v.assembly = none) → refused .state report)
                      ∧ ∀ v, (s.slot k).pending = some v → v.assembly ≠ none →
                        (v.proposer ≠ l → refused .owner report)
                          ∧ (v.proposer = l → g.number ≠ v.received + 1 → refused .segment report)
                          ∧ (v.proposer = l → g.number = v.received + 1 → g.number < v.expected → g.points.length ≠ 24 →
                            refused .format report))

/-- An ENDORSE with an equal digest puts the version in force: it takes the slot with the compared digest and audit count 0, the
superseded version's points return to the pool, the last outcome is ENTERED_FORCE, or RESTORED over a SUSPECT version, with
its trail record, the writer is given the record, and the block that uses it is told: a tank, or every ship tank for the
vessel, is computed; a parcel slot in PROPOSED becomes DEFINED with its tanks computed; one in another state keeps it with
its tanks computed; new settings are in use and both silence tests are made.
The refusals of ENDORSE in order, which leave the version in place: FORMAT, RANGE, STATE without a PROPOSED version, OWNER on its
proposer's link, IN_USE where the record is in use, a version is current and the proposal does not restore a SUSPECT one. A
record is in use as the table of R35 says. -/
def Obligations.EndorsedEntersForce : Prop :=
  (∀ (l : Link) (tag : Byte) (payload : List Byte) (s : State) (b : Byte) (k : RecordSlot) (v : PendingVersion),
      ReadyRunning l payload s → parseEndorse payload = some (b, v.declaredDigest) → slotOfCode b = some k →
      (s.slot k).pending = some v → v.assembly = none → v.proposer ≠ l → contentFits k v.content = true →
      (s.inUse k = false ∨ (s.slot k).current = none ∨ (v.restoring = true ∧ s.isSuspect k = true)) →
      let u := takeFrame l true s
      let entered : CurrentVersion :=
        { suspect := false, content := v.content, points := v.points, digest := v.declaredDigest, auditCount := 0 }
      let outcome : LastOutcome := if v.restoring = true ∧ s.isSuspect k = true then .restored else .enteredForce
      let recorded := appendTrail (.recordOutcome k outcome) u
      let written := giveWrite (.record k) (.record v.declaredDigest v.content v.points) u
      ∃ w, exec (.endorse l tag payload) s = .next (answered l 0x22 tag .done (w.slotReport l k) w)
        ∧ SlotBecomes k { current := some entered, pending := none, last := outcome } u w
        ∧ w.poolFree = s.poolFree + (match (s.slot k).current with
            | some c => c.points.length
            | none => 0)
        ∧ (∀ m, k = .meter m → SameTrail recorded w ∧ SameWrites written w
            ∧ w = { u with slots := w.slots, poolFree := w.poolFree, trail := w.trail, newest := w.newest
                           writeQueue := w.writeQueue, inFlight := w.inFlight })
        ∧ (k = .vessel ∨ (tankOfSlot k).isSome = true → SameTrail recorded w ∧ SameWrites written w
            ∧ Computed (fun x => match x with
                | .ship _ => k == .vessel || k == slotOfTank x
                | .shore _ => k == slotOfTank x) u w
            ∧ w = { u with slots := w.slots, poolFree := w.poolFree, tanks := w.tanks, trail := w.trail
                           newest := w.newest, writeQueue := w.writeQueue, inFlight := w.inFlight })
        ∧ (k = .settings → SameWrites written w
            ∧ ∃ w0, w = settingsChanged w0 ∧ SameTrail recorded w0 ∧ w0.slots = w.slots
              ∧ w0 = { u with slots := w.slots, poolFree := w.poolFree, trail := w0.trail, newest := w0.newest
                              writeQueue := w.writeQueue, inFlight := w.inFlight })
        ∧ ∀ p r, k = .parcel p → v.content = .parcel r →
            Computed (fun x => (tanksNamed r).contains x) u w
              ∧ ((s.parcel p).state ≠ .proposed → SameTrail recorded w ∧ SameWrites written w
                ∧ w = { u with slots := w.slots, poolFree := w.poolFree, tanks := w.tanks, trail := w.trail
                               newest := w.newest, writeQueue := w.writeQueue, inFlight := w.inFlight })
              ∧ ((s.parcel p).state = .proposed →
                ParcelBecomes p
                    { state := .defined, opening := none, closing := none, reason := none, suspensions := some 0,
                      settle := none, comparisons := some (freshItems r), final := none } u w
                  ∧ w.concurrence = u.concurrence.filter (entryStays p .defined)
                  ∧ SameTrail (appendTrail (.parcelState p .defined .plain) recorded) w
                  ∧ SameWrites
                      (giveWrite (.checkpoint p) (.checkpoint (w.checkpointOf p) (checkpointCheck (w.checkpointOf p)))
                        written) w
                  ∧ w.alarm = w.alarmDue
                  ∧ w = { u with
                          slots := w.slots, poolFree := w.poolFree, tanks := w.tanks, parcels := w.parcels
                          concurrence := w.concurrence, trail := w.trail, newest := w.newest
                          writeQueue := w.writeQueue, inFlight := w.inFlight, alarm := w.alarm }))
    ∧
      (∀ (l : Link) (tag : Byte) (payload : List Byte) (s : State), ReadyRunning l payload s →
          let u := takeFrame l true s
          let refused := fun (result : ResultCode) (report : List Byte) =>
            exec (.endorse l tag payload) s = .next (answered l 0x22 tag result report u)
          (parseEndorse payload = none → refused .format [])
            ∧ ∀ b d, parseEndorse payload = some (b, d) →
              (slotOfCode b = none → refused .range [])
                ∧ ∀ k, slotOfCode b = some k →
                  let report := u.slotReport l k
                  ((∀ v, (s.slot k).pending = some v → v.assembly ≠ none) → refused .state report)
                    ∧ ∀ v, (s.slot k).pending = some v → v.assembly = none →
                      (v.proposer = l → refused .owner report)
                        ∧ (v.proposer ≠ l → s.inUse k = true → (s.slot k).current ≠ none →
                          ¬(v.restoring = true ∧ s.isSuspect k = true) → refused .inUse report))
        ∧ ∀ s : State,
            (s.inUse .vessel = true ↔ ∃ p, isLive (s.parcel p).state = true)
              ∧ (∀ x, s.inUse (slotOfTank x) = true ↔ ∃ p r, s.boundRecord p = some r ∧ x ∈ tanksNamed r)
              ∧ (∀ m, s.inUse (.meter m) = true ↔ ∃ p r, s.boundRecord p = some r ∧ r.meter = some m)
              ∧ (∀ p, s.inUse (.parcel p) = true ↔ (s.parcel p).state ≠ .free) ∧ s.inUse .settings = false

/-- A WITHDRAW of a current version that passes its checks: the version leaves its slot, its points return to the pool, the last
outcome is REMOVED with its trail record and the writer is given the record's removal. A tank loses its latest reading and
figure; every ship tank figure is held when the vessel record goes; the defaults come into use when the settings go. A
parcel slot, which must be DEFINED, returns to FREE: its pending version is rejected with WITHDRAWN, its tanks are computed
without its coefficients, and what the store keeps of it is removed.
Its refusals in the order of R39: FORMAT, RANGE, STATE without a current version, OWNER for a link that does not own the kind
(waived for a parcel record), BOUND for a vessel, tank or meter record in use, STATE for a parcel slot that is not DEFINED. -/
def Obligations.CurrentWithdrawn : Prop :=
  (∀ (l : Link) (tag b : Byte) (s : State) (k : RecordSlot) (v : CurrentVersion),
      ReadyRunning l [b] s → slotOfCode b = some k → (s.slot k).current = some v →
      let u := takeFrame l true s
      let answer := fun (w : State) =>
        exec (.withdrawCurrent l tag [b]) s = .next (answered l 0x24 tag .done (w.slotReport l k) w)
      ((∀ p, k ≠ .parcel p) → ownsKind l k = true → (k = .settings ∨ s.inUse k = false) →
          ∃ w w0, answer w
            ∧ SlotBecomes k { s.slot k with current := none, last := .removed } u w
            ∧ w.poolFree = s.poolFree + v.points.length
            ∧ SameTrail (appendTrail (.recordOutcome k .removed) u) w0
            ∧ SameWrites (giveWrite (.record k) .removal u) w0
            ∧ w0 = { u with slots := w.slots, poolFree := w.poolFree, trail := w0.trail, newest := w0.newest
                            writeQueue := w0.writeQueue, inFlight := w0.inFlight }
            ∧ (∀ x, tankOfSlot k = some x →
                (∀ y, w.tank y = if y = x then { reading := none, figure := .cleared } else s.tank y)
                  ∧ w = { w0 with tanks := w.tanks })
            ∧ (k = .vessel →
                (∀ n, w.tank (.ship n) =
                    { s.tank (.ship n) with figure := holdFigure (s.tank (.ship n)).figure })
                  ∧ (∀ n, w.tank (.shore n) = s.tank (.shore n)) ∧ w = { w0 with tanks := w.tanks })
            ∧ (∀ m, k = .meter m → w = w0) ∧ (k = .settings → w = settingsChanged w0))
        ∧ ∀ p r, k = .parcel p → v.content = .parcel r → (s.parcel p).state = .defined →
            ∃ w, answer w ∧ w = endParcel p false u)
    ∧
      ∀ (l : Link) (tag : Byte) (payload : List Byte) (s : State), ReadyRunning l payload s →
        let u := takeFrame l true s
        let refused := fun (result : ResultCode) (report : List Byte) =>
          exec (.withdrawCurrent l tag payload) s = .next (answered l 0x24 tag result report u)
        (payload.length ≠ 1 → refused .format [])
          ∧ ∀ b, payload = [b] →
            (slotOfCode b = none → refused .range [])
              ∧ ∀ k, slotOfCode b = some k →
                let report := u.slotReport l k
                ((s.slot k).current = none → refused .state report)
                  ∧ ((s.slot k).current ≠ none → (∀ p, k ≠ .parcel p) →
                    (ownsKind l k = false → refused .owner report)
                      ∧ (ownsKind l k = true → k ≠ .settings → s.inUse k = true → refused .bound report))
                  ∧ ∀ p, k = .parcel p → (s.slot k).current ≠ none → (s.parcel p).state ≠ .defined → refused .state report

/-- What the end of a parcel does, by WITHDRAW from DEFINED or by RELEASE from CLOSED or ABANDONED: the record leaves its slot
with outcome REMOVED, a pending version with WITHDRAWN, the slot is FREE with no items, its tanks are computed without its
coefficients, its meter's accumulator set is absent, its own entries go while every other entry, an entry for the unit among
them, stays, and the removals of its record and its checkpoint are given. -/
def Obligations.ParcelEnds : Prop :=
  ∀ (p : Fin 6) (unilateral : Bool) (s : State) (v : CurrentVersion) (r : ParcelRecord),
    (s.slot (.parcel p)).current = some v → v.content = .parcel r →
    ((s.parcel p).state = .defined ∨ (s.parcel p).state = .closed ∨ (s.parcel p).state = .abandoned) →
    let w := endParcel p unilateral s
    let k := RecordSlot.parcel p
    let rejected := (s.slot k).pending.isSome
    let removed := appendTrail (.recordOutcome k .removed) s
    SlotBecomes k
        { current := none, pending := none, last := if rejected then .rejected .withdrawn else .removed } s w
      ∧ ParcelBecomes p .reset s w ∧ AccumulatorsBecome r.meter none s w
      ∧ Computed (fun x => (tanksNamed r).contains x) s w
      ∧ w.concurrence = s.concurrence.filter (entryStays p .free)
      ∧ SameTrail
          (appendTrail (.parcelState p .free (.unilateral unilateral))
            (if rejected then appendTrail (.recordOutcome k (.rejected .withdrawn)) removed else removed)) w
      ∧ SameWrites (giveWrite (.checkpoint p) .removal (giveWrite (.record k) .removal s)) w ∧ w.alarm = w.alarmDue
      ∧ w = { s with
              slots := w.slots, parcels := w.parcels, channels := w.channels, tanks := w.tanks
              concurrence := w.concurrence, trail := w.trail, newest := w.newest, writeQueue := w.writeQueue
              inFlight := w.inFlight, alarm := w.alarm }

/-- A step of the audit walk for a slot, and what follows it: an IN_FORCE version with its endorsed digest has its audit count
raised, held at 65,535; a slot without a version in force is passed over. One with another digest becomes SUSPECT with its
AUDIT_FAILURE event: every ship tank for the vessel record, the tank for a tank record, and every tank named for a parcel
record has its figure held, CURRENT as HELD, with TABLE_HELD and every other field kept; for a meter record nothing else
changes; for the settings the defaults are in use and both silence tests are made. After the step for U the walk ends and the
audit timer starts. The walk starts with the vessel's step when the audit timer has reached its period. -/
def Obligations.AuditStepsTaken : Prop :=
  ∀ s : State,
    (∀ t : Timer, s.auditTimer = some t → s.walk = none →
        (t.duration ≤ (s.clock - t.start).toNat →
          exec .auditTimerExpiry s = .next { auditStep .vessel { s with auditTimer := none } with walk := some 1 })
        ∧ ((s.clock - t.start).toNat < t.duration → exec .auditTimerExpiry s = .next s))
      ∧ (∀ i : Fin 60, s.walk = some i → i ≠ 59 →
        exec .auditWalkStep s = .next { auditStep (slotAt i) s with walk := some (i + 1) })
      ∧ (s.walk = some 59 →
        let w := auditStep .settings s
        exec .auditWalkStep s =
          .next { w with
                  walk := none, auditTimer := some { start := s.clock, duration := 10 * w.settingsInUse.auditPeriod } })
      ∧ ∀ k : RecordSlot,
          (s.inForce k = none → auditStep k s = s)
          ∧ ∀ v, s.inForce k = some v →
              (recordDigest v.content v.points = v.digest →
                auditStep k s =
                  setSlot k
                    { s.slot k with
                      current := some { v with auditCount := if v.auditCount < 65535 then v.auditCount + 1 else 65535 } }
                    s)
              ∧ (recordDigest v.content v.points ≠ v.digest →
                let w := auditStep k s
                let rests := fun (x : TankId) => (k = .vessel ∧ ∃ n, x = .ship n) ∨ tankOfSlot k = some x
                  ∨ ∃ p r, k = .parcel p ∧ v.content = .parcel r ∧ x ∈ tanksNamed r
                SlotBecomes k { s.slot k with current := some { v with suspect := true }, last := .suspect } s w
                  ∧ (∀ x, (w.tank x).reading = (s.tank x).reading
                    ∧ (¬rests x → (w.tank x).figure = (s.tank x).figure)
                    ∧ (rests x → (w.tank x).figure =
                        { (s.tank x).figure with
                          status := if (s.tank x).figure.status = .none then .none else .held
                          marks := { (s.tank x).figure.marks with tableHeld := true } }))
                  ∧ (k ≠ .settings → SameTrail (appendTrail (.auditFailure k) s) w
                    ∧ w = { s with slots := w.slots, tanks := w.tanks, trail := w.trail, newest := w.newest })
                  ∧ (k = .settings →
                    w.settingsInUse =
                        { interval := 60, concurrenceTimeout := 900, settleTime := 900, auditPeriod := 600
                          shipStaleness := 300, shoreStaleness := 300, silenceLimit := 30, assemblyTimeout := 60 }
                      ∧ SilenceTested (appendTrail (.auditFailure k) { s with slots := w.slots }) w))

/-! ### Parcels -/

/-- A first declaration of a kind, with no entry of its subject and kind standing, makes an entry with the clock, its link and
the concurrence timeout in use, and is answered AWAITING_COUNTERPART; the same declaration of the entry's own party is
answered DUPLICATE. Both hold for the five parcel kinds in the states they are allowed in and for CALL_CLEAR.
The refusals of R114 in order, for a first and a second declaration alike: FORMAT for a payload that is not subject and mode or a
UNILATERAL mode of a kind other than ABANDON and RELEASE, RANGE for a subject that is not the kind's, STATE for a subject in a
state that does not allow the kind, STOP_ACTIVE for OPEN and RESUME, SETTLING for CLOSE before the settle timer has expired. -/
def Obligations.FirstDeclarationEntered : Prop :=
  (∀ (l : Link) (tag b : Byte) (s : State) (p : Fin 6), parcelOfByte b = some p →
      let u := takeFrame l true s
      let entry := fun (subject : Subject) (kind : DeclKind) =>
        ({ subject, kind, first := l, taken := s.clock, lapse := s.settingsInUse.concurrenceTimeout } : Concurrence)
      let decided := fun (c : Instr) (subject : Subject) (kind : DeclKind) =>
        (s.entry subject kind = none →
            exec c s = .next (answered l 0x30 tag .awaitingCounterpart []
              { u with concurrence := s.concurrence ++ [entry subject kind] }))
          ∧ ((∃ e, s.entry subject kind = some e ∧ e.first = l) →
            exec c s = .next (answered l 0x30 tag .duplicate [] u))
      let st := (s.parcel p).state
      let clear := s.shipStop = false ∧ s.terminalStop = false
      (ReadyRunning l [b, 0] s →
          (st = .defined → clear → decided (.declareOpen l tag [b, 0]) (.parcel p) .opening)
          ∧ ((st = .suspended ∨ st = .settling) → clear → decided (.declareResume l tag [b, 0]) (.parcel p) .resume)
          ∧ (st = .settling → (∃ t, (s.parcel p).settle = some t ∧ t.expired = true) →
              decided (.declareClose l tag [b, 0]) (.parcel p) .closing)
          ∧ ((st = .proposed ∨ st = .defined ∨ isLive st = true) →
              decided (.declareAbandon l tag [b, 0]) (.parcel p) .abandon)
          ∧ ((st = .closed ∨ st = .abandoned) → decided (.declareRelease l tag [b, 0]) (.parcel p) .release))
        ∧ (ReadyRunning l [0, 0] s → (∀ q, (s.parcel q).state = .free ∨ (s.parcel q).state = .closed
              ∨ (s.parcel q).state = .abandoned) →
            decided (.declareCallClear l tag [0, 0]) .unit .callClear))
    ∧
      ∀ (l : Link) (tag : Byte) (payload : List Byte) (s : State), ReadyRunning l payload s →
        let u := takeFrame l true s
        let command := fun (kind : DeclKind) => match kind with
          | .opening => Instr.declareOpen l tag payload
          | .resume => Instr.declareResume l tag payload
          | .closing => Instr.declareClose l tag payload
          | .abandon => Instr.declareAbandon l tag payload
          | .release => Instr.declareRelease l tag payload
          | .callClear => Instr.declareCallClear l tag payload
        let refused := fun (kind : DeclKind) (result : ResultCode) =>
          exec (command kind) s = .next (answered l 0x30 tag result [] u)
        let allowed := fun (kind : DeclKind) (st : ParcelState) => match kind with
          | .opening => st = .defined
          | .resume => st = .suspended ∨ st = .settling
          | .closing => st = .settling
          | .abandon => st = .proposed ∨ st = .defined ∨ isLive st = true
          | .release => st = .closed ∨ st = .abandoned
          | .callClear => st = .free ∨ st = .closed ∨ st = .abandoned
        let laidOut := fun (kind : DeclKind) (mode : Byte) => mode = 0 ∨ (mode = 1 ∧ (kind = .abandon ∨ kind = .release))
        ∀ kind,
          (payload.length ≠ 2 → refused kind .format)
            ∧ ∀ b mode, payload = [b, mode] →
              (¬laidOut kind mode → refused kind .format)
                ∧ (laidOut kind mode → kind = .callClear →
                  (b ≠ 0 → refused kind .range)
                    ∧ (b = 0 → (∃ q, ¬allowed kind (s.parcel q).state) → refused kind .state))
                ∧ (laidOut kind mode → kind ≠ .callClear →
                  (parcelOfByte b = none → refused kind .range)
                    ∧ ∀ p, parcelOfByte b = some p →
                      (¬allowed kind (s.parcel p).state → refused kind .state)
                        ∧ (allowed kind (s.parcel p).state → kind = .opening ∨ kind = .resume →
                          s.shipStop = true ∨ s.terminalStop = true → refused kind .stopActive)
                        ∧ (kind = .closing → (s.parcel p).state = .settling →
                          (∀ t, (s.parcel p).settle = some t → t.expired = false) → refused kind .settling))

/-- The second OPEN declaration. Where every named tank is CURRENT, without TABLE_HELD and not STALE, the ship condition is
present and a named meter's record is in force, the opening fix is made: the tanks' GSVs in list order, their totals and the
VEF of the vessel record in force; the meter's accumulators start at zero from its counter as it stands; the comparisons are
fresh; the slot enters TRANSFER with its hand-offs. Otherwise the answer is NOT_READY and nothing changes. -/
def Obligations.OpenStepTaken : Prop :=
  ∀ (l : Link) (tag b : Byte) (s : State) (p : Fin 6) (e : Concurrence) (r : ParcelRecord),
    ReadyRunning l [b, 0] s → parcelOfByte b = some p → (s.parcel p).state = .defined →
    s.shipStop = false → s.terminalStop = false → s.entry (.parcel p) .opening = some e → e.first = otherLink l →
    s.parcelRecord p = some r →
    let u := takeFrame l true s
    let ready := (∀ x ∈ tanksNamed r, (s.tank x).figure.status = .current
        ∧ (s.tank x).figure.marks.tableHeld = false ∧ s.tankStale x = false)
      ∧ s.shipCondition ≠ none ∧ ∀ m, r.meter = some m → s.meterInForce m ≠ none
    let ships := r.shipTanks.map fun n => ((s.tank (.ship n)).figure.gsv).getD 0
    let shores := r.shoreTanks.map fun n => ((s.tank (.shore n)).figure.gsv).getD 0
    (¬ready → exec (.declareOpen l tag [b, 0]) s = .next (answered l 0x30 tag .notReady [] u))
      ∧ (ready → ∃ vef w, exec (.declareOpen l tag [b, 0]) s = .next (answered l 0x30 tag .done [] w)
        ∧ (∀ v, s.vesselInForce = some v → vef = v.vef)
        ∧ ParcelBecomes p
            { s.parcel p with
              state := .transfer
              opening := some
                { time := s.clock, shipVolumes := ships, shoreVolumes := shores, shipTotal := ships.sum
                  shoreTotal := shores.sum, vef := vef }
              suspensions := some 0
              comparisons := some (freshItems r) } u w
        ∧ (∀ m, w.channel m = if r.meter = some m then
              { u.channel m with
                lastCount := (s.channel m).pulses, lastTime := s.clock
                accumulators := some
                  { parcel := p, indicated := 0, gross := 0, standard := 0, interrupted := false, overRate := false,
                    lineTempMissing := false } }
            else u.channel m)
        ∧ HandedOff p .plain u w
        ∧ w = { u with
                parcels := w.parcels, channels := w.channels, concurrence := w.concurrence, trail := w.trail
                newest := w.newest, writeQueue := w.writeQueue, inFlight := w.inFlight, alarm := w.alarm })

/-- The second RESUME declaration returns a SUSPENDED or SETTLING slot to TRANSFER, without its reason and its settle timer,
with its hand-offs; while a stop line is ASSERTED it is refused STOP_ACTIVE and nothing changes. -/
def Obligations.ResumeStepTaken : Prop :=
  ∀ (l : Link) (tag b : Byte) (s : State) (p : Fin 6) (e : Concurrence),
    ReadyRunning l [b, 0] s → parcelOfByte b = some p →
    ((s.parcel p).state = .suspended ∨ (s.parcel p).state = .settling) →
    s.entry (.parcel p) .resume = some e → e.first = otherLink l →
    let u := takeFrame l true s
    (s.shipStop = true ∨ s.terminalStop = true →
        exec (.declareResume l tag [b, 0]) s = .next (answered l 0x30 tag .stopActive [] u))
      ∧ (s.shipStop = false → s.terminalStop = false →
        ∃ w, exec (.declareResume l tag [b, 0]) s = .next (answered l 0x30 tag .done [] w)
          ∧ ParcelBecomes p { s.parcel p with state := .transfer, reason := none, settle := none } u w
          ∧ HandedOff p .plain u w
          ∧ w = { u with
                  parcels := w.parcels, concurrence := w.concurrence, trail := w.trail, newest := w.newest
                  writeQueue := w.writeQueue, inFlight := w.inFlight, alarm := w.alarm })

/-- The second CLOSE declaration. Where every named tank is CURRENT, without TABLE_HELD, not STALE and gauged after settling
began, and the ship condition arrived after it, the bound meter takes its closing sample, the closing figures are fixed, the
final record is built from them, and the slot enters CLOSED with its hand-offs. Otherwise the answer is NOT_READY and
nothing changes. The closing sample of a RUNNING channel adds its pulse difference as any sample does and leaves the sample
timer; a channel in another mode is left. The final record holds both fixes tank by tank, the quantities, each comparison's
difference, ratio and result with its counters, and the meter's figure with its flags. -/
def Obligations.CloseStepTaken : Prop :=
  ∀ (l : Link) (tag b : Byte) (s : State) (p : Fin 6) (e : Concurrence) (r : ParcelRecord) (timer : SettleTimer)
    (o : OpeningFigures),
    ReadyRunning l [b, 0] s → parcelOfByte b = some p → (s.parcel p).state = .settling →
    (s.parcel p).settle = some timer → timer.expired = true → s.entry (.parcel p) .closing = some e →
    e.first = otherLink l → s.parcelRecord p = some r → (s.parcel p).opening = some o →
    let u := takeFrame l true s
    let ready := (∀ x ∈ tanksNamed r, (s.tank x).figure.status = .current
        ∧ (s.tank x).figure.marks.tableHeld = false ∧ s.tankStale x = false
        ∧ ∃ k, (s.tank x).reading = some k ∧ laterThan k.arrival timer.start = true)
      ∧ ∃ c, s.shipCondition = some c ∧ laterThan c.arrival timer.start = true
    let ships := r.shipTanks.map fun n => ((s.tank (.ship n)).figure.gsv).getD 0
    let shores := r.shoreTanks.map fun n => ((s.tank (.shore n)).figure.gsv).getD 0
    (¬ready → exec (.declareClose l tag [b, 0]) s = .next (answered l 0x30 tag .notReady [] u))
      ∧ (ready → ∃ w, exec (.declareClose l tag [b, 0]) s = .next (answered l 0x30 tag .done [] w)
        ∧ (∀ m, w.channel m = if r.meter = some m then (closingSample m s).channel m else s.channel m)
        ∧ (∀ m, r.meter = some m → s.channelMode m ≠ .running → w.channel m = s.channel m)
        ∧ (∀ m meter a, r.meter = some m → s.meterParcel m = some p → s.meterInForce m = some meter →
            s.parcelInForce p = some r → (s.channel m).accumulators = some a →
            let c := s.channel m
            let span := (s.clock - c.lastTime).toNat
            let pulses := (c.pulses - c.lastCount).toNat
            let vcf : Int := match c.lineConditions with
              | some line => vcfOf r.a r.b line.temperature
              | none => 1000000
            let indicated := (roundDiv (pulses * 1000000) meter.kFactor).toNat
            let gross := (roundDiv (indicated * meter.meterFactor) 1000000).toNat
            let standard := (roundDiv (gross * vcf) 1000000).toNat
            let hold := 9223372036854775807
            let tooFast := decide (meter.maxRate * span < pulses * 10)
            w.channel m =
              { c with
                lastCount := c.pulses, lastTime := s.clock, lastLineVcf := some vcf
                overRate := if span = 0 then c.overRate else tooFast
                accumulators := some
                  { a with
                    indicated := min (a.indicated + indicated) hold, gross := min (a.gross + gross) hold
                    standard := min (a.standard + standard) hold
                    overRate := a.overRate || (span != 0 && tooFast)
                    lineTempMissing := a.lineTempMissing || c.lineConditions.isNone } })
        ∧ (∀ items, (s.parcel p).comparisons = some items →
            let q := transferred r o ships.sum shores.sum
            let set := r.meter.bind fun m => (w.channel m).accumulators
            let part := fun (v : CompOutcome) (c : Comparison) =>
              ({ difference := v.difference.getD 0, ratio := v.ratio, result := v.result, discrepant := c.discrepant
                 counters := c.counters } : FinalComparison)
            (w.parcel p).final = some
              { parcel := p, grade := r.grade, direction := r.direction, openingTime := o.time, closingTime := s.clock
                shipTanks := (r.shipTanks.zip (o.shipVolumes.zip ships)).map fun v =>
                  { tank := v.1, opening := v.2.1, closing := v.2.2 }
                shoreTanks := (r.shoreTanks.zip (o.shoreVolumes.zip shores)).map fun v =>
                  { tank := v.1, opening := v.2.1, closing := v.2.2 }
                openingShipTotal := o.shipTotal, openingShoreTotal := o.shoreTotal
                closingShipTotal := ships.sum, closingShoreTotal := shores.sum, qShip := q.qShip
                vefUsed := if r.applyVef then some o.vef else none, qAdj := q.qAdj, qShore := q.qShore
                ship := part (compared r (q.qAdj - q.qShore) q.qShore) items.ship
                meter := match set, items.meter with
                  | some a, some c =>
                    let metered := roundDiv a.standard 1000
                    some
                      { metered, interrupted := a.interrupted, overRate := a.overRate
                        lineTempMissing := a.lineTempMissing
                        comparison := part
                          (if ∃ m, r.meter = some m ∧ s.channelMode m = .waiting then
                            { result := .notEvaluated .meterWaiting, difference := some (metered - q.qShore)
                              ratio := none }
                          else compared r (metered - q.qShore) q.qShore) c }
                  | _, _ => none
                evaluations := items.evaluations, suspensions := (s.parcel p).suspensions.getD 0
                degraded := items.degraded })
        ∧ (∃ closing : ClosingFigures, closing =
              { time := s.clock, shipVolumes := ships, shoreVolumes := shores, shipTotal := ships.sum
                shoreTotal := shores.sum
                metered := r.meter.bind fun m => (w.channel m).accumulators.map fun a => roundDiv a.standard 1000 }
            ∧ ParcelBecomes p
                { s.parcel p with
                  state := .closed, settle := none, closing := some closing
                  final := some (finalRecord p r o closing (s.itemsOf p) ((s.parcel p).suspensions.getD 0)
                    (s.meterWaiting p) (r.meter.bind fun m => (w.channel m).accumulators)) } u w)
        ∧ HandedOff p .plain u w
        ∧ w = { u with
                parcels := w.parcels, channels := w.channels, concurrence := w.concurrence, trail := w.trail
                newest := w.newest, writeQueue := w.writeQueue, inFlight := w.inFlight, alarm := w.alarm })

/-- ABANDON and RELEASE, as a second declaration in either mode, and alone as UNILATERAL while the counterpart link is LOST:
RELEASE ends a CLOSED or ABANDONED parcel; ABANDON rejects the version of a PROPOSED slot with WITHDRAWN and takes a DEFINED
or live slot to ABANDONED with its reason and settle timer gone and everything else it holds kept. UNILATERAL without an entry
of the counterpart is refused COUNTERPART_PRESENT while the counterpart link is not LOST. -/
def Obligations.EndingStepsTaken : Prop :=
  ∀ (l : Link) (tag b mode : Byte) (s : State) (p : Fin 6),
    ReadyRunning l [b, mode] s → parcelOfByte b = some p → (mode = 0 ∨ mode = 1) →
    let u := takeFrame l true s
    let st := (s.parcel p).state
    let counter := fun (kind : DeclKind) => ∃ e, s.entry (.parcel p) kind = some e ∧ e.first = otherLink l
    let taken := fun (kind : DeclKind) (unilateral : Bool) =>
      (counter kind ∧ unilateral = false)
        ∨ (¬counter kind ∧ mode = 1 ∧ (s.link (otherLink l)).state = .lost ∧ unilateral = true)
    let removed := fun (kind : DeclKind) =>
      { u with concurrence := u.concurrence.filter fun e => !(e.subject == .parcel p && e.kind == kind) }
    (∀ unilateral, (st = .closed ∨ st = .abandoned) → taken .release unilateral →
        exec (.declareRelease l tag [b, mode]) s =
          .next (answered l 0x30 tag .done [] (endParcel p unilateral (removed .release))))
      ∧ (∀ unilateral, st = .proposed → taken .abandon unilateral →
        exec (.declareAbandon l tag [b, mode]) s =
          .next (answered l 0x30 tag .done []
            (rejectPending (.parcel p) .withdrawn unilateral (removed .abandon))))
      ∧ (∀ unilateral, (st = .defined ∨ isLive st = true) → taken .abandon unilateral →
        ∃ w, exec (.declareAbandon l tag [b, mode]) s = .next (answered l 0x30 tag .done [] w)
          ∧ ParcelBecomes p { s.parcel p with state := .abandoned, reason := none, settle := none } u w
          ∧ HandedOff p (.unilateral unilateral) u w
          ∧ w = { u with
                  parcels := w.parcels, concurrence := w.concurrence, trail := w.trail, newest := w.newest
                  writeQueue := w.writeQueue, inFlight := w.inFlight, alarm := w.alarm })
      ∧ (mode = 1 → (s.link (otherLink l)).state ≠ .lost →
        ((st = .closed ∨ st = .abandoned) → ¬counter .release →
            exec (.declareRelease l tag [b, mode]) s = .next (answered l 0x30 tag .counterpartPresent [] u))
        ∧ ((st = .proposed ∨ st = .defined ∨ isLive st = true) → ¬counter .abandon →
            exec (.declareAbandon l tag [b, mode]) s = .next (answered l 0x30 tag .counterpartPresent [] u)))

/-- The second CALL_CLEAR declaration, with every slot FREE, CLOSED or ABANDONED: every ended parcel is FREE with its record slot
emptied, the vessel slot and the ship tank slots are emptied and their points returned, the ship tanks and the ship condition
have no reading and no figure, the shore tanks of the ended parcels are computed without coefficients, both intake queues and
both holds are empty, the table is empty and the alarm line is deasserted. The trail receives the PARCEL_STATE FREE event of
each ended parcel in slot order, then the CALL_CLEAR event. The writer is given the removals of the record and the checkpoint
of each ended parcel in slot order, then of the vessel record and of S01 to S32 (all 33, log 20). The shore tank, meter and settings slots, the other shore tanks and everything else of the unit are kept. -/
def Obligations.CallClearTaken : Prop :=
  ∀ (l : Link) (tag : Byte) (s : State) (e : Concurrence),
    ReadyRunning l [0, 0] s →
    (∀ q, (s.parcel q).state = .free ∨ (s.parcel q).state = .closed ∨ (s.parcel q).state = .abandoned) →
    s.entry .unit .callClear = some e → e.first = otherLink l →
    let u := takeFrame l true s
    let ended := fun q => (s.parcel q).state = .closed ∨ (s.parcel q).state = .abandoned
    ∃ w, exec (.declareCallClear l tag [0, 0]) s = .next (answered l 0x30 tag .done [] w)
      ∧ (∀ q, (w.parcel q).state = .free
          ∧ (ended q → w.parcel q = .reset ∧ w.slot (.parcel q) = .reset)
          ∧ (¬ended q → w.parcel q = s.parcel q ∧ w.slot (.parcel q) = s.slot (.parcel q)))
      ∧ w.slot .vessel = .reset ∧ (∀ n, w.slot (.ship n) = .reset) ∧ (∀ n, w.slot (.shore n) = s.slot (.shore n))
      ∧ (∀ m, w.slot (.meter m) = s.slot (.meter m)) ∧ w.slot .settings = s.slot .settings
      ∧ w.poolFree = s.poolFree + heldPoints (s.slot .vessel)
          + (allShipTanks.map fun n => heldPoints (s.slot (.ship n))).sum
      ∧ (∀ n, w.tank (.ship n) = { reading := none, figure := .cleared }) ∧ w.shipCondition = none
      ∧ (∀ n, (w.tank (.shore n)).reading = (s.tank (.shore n)).reading
          ∧ ((∃ q r, ended q ∧ s.parcelRecord q = some r ∧ n ∈ r.shoreTanks) →
              (w.tank (.shore n)).figure = figureDue w (.shore n) (s.tank (.shore n)))
          ∧ (¬(∃ q r, ended q ∧ s.parcelRecord q = some r ∧ n ∈ r.shoreTanks) →
              (w.tank (.shore n)).figure = (s.tank (.shore n)).figure))
      ∧ (∀ m, w.channel m =
          if ∃ q, ended q ∧ s.boundMeter q = some m then { s.channel m with accumulators := none } else s.channel m)
      ∧ (∀ x, w.link x =
          { u.link x with
            intake := [], hold := none
            report := { (u.link x).report with
              readingDiscarded := (u.link x).report.readingDiscarded || !(u.link x).intake.isEmpty } })
      ∧ w.concurrence = [] ∧ w.alarm = false
      ∧ SameTrail
          (appendTrail .callClear
            (allParcels.foldl (fun v q =>
              if ended q then appendTrail (.parcelState q .free (.unilateral false)) v else v) u)) w
      ∧ SameWrites
          ((RecordSlot.vessel :: allShipTanks.map .ship).foldl (fun v k => giveWrite (.record k) .removal v)
            (allParcels.foldl (fun v q =>
              if ended q then giveWrite (.checkpoint q) .removal (giveWrite (.record (.parcel q)) .removal v)
              else v) u)) w
      ∧ w = { u with
              slots := w.slots, poolFree := w.poolFree, tanks := w.tanks, shipCondition := w.shipCondition
              channels := w.channels, parcels := w.parcels, concurrence := w.concurrence, shipLink := w.shipLink
              terminalLink := w.terminalLink, trail := w.trail, newest := w.newest, writeQueue := w.writeQueue
              inFlight := w.inFlight, alarm := w.alarm }

/-- SUSPEND of a slot in TRANSFER: the slot is SUSPENDED with the reason of its link and its count one higher, held at 65,535,
with its hand-offs. Any other state is refused STATE. -/
def Obligations.SuspendTaken : Prop :=
  ∀ (l : Link) (tag b : Byte) (s : State) (p : Fin 6), ReadyRunning l [b] s → parcelOfByte b = some p →
    let u := takeFrame l true s
    let count := (s.parcel p).suspensions.getD 0
    let reason : SuspendReason := match l with
      | .ship => .shipRequest
      | .terminal => .terminalRequest
    ((s.parcel p).state ≠ .transfer → exec (.suspend l tag [b]) s = .next (answered l 0x31 tag .state [] u))
      ∧ ((s.parcel p).state = .transfer → ∃ w, exec (.suspend l tag [b]) s = .next (answered l 0x31 tag .done [] w)
        ∧ ParcelBecomes p
            { s.parcel p with
              state := .suspended, reason := some reason
              suspensions := some (if count < 65535 then count + 1 else 65535) } u w
        ∧ HandedOff p (.reason reason (if count < 65535 then count + 1 else 65535)) u w
        ∧ w = { u with
                parcels := w.parcels, concurrence := w.concurrence, trail := w.trail, newest := w.newest
                writeQueue := w.writeQueue, inFlight := w.inFlight, alarm := w.alarm })

/-- TRANSFER END of a slot in TRANSFER or SUSPENDED: the slot is SETTLING without a reason, with a settle timer started now with
the settle time in use, EXPIRED at once for a settle time of 0, with its hand-offs. Any other state is refused STATE. -/
def Obligations.TransferEndTaken : Prop :=
  ∀ (l : Link) (tag b : Byte) (s : State) (p : Fin 6), ReadyRunning l [b] s → parcelOfByte b = some p →
    let u := takeFrame l true s
    let time := s.settingsInUse.settleTime
    let allowed := (s.parcel p).state = .transfer ∨ (s.parcel p).state = .suspended
    (¬allowed → exec (.transferEnd l tag [b]) s = .next (answered l 0x32 tag .state [] u))
      ∧ (allowed → ∃ w, exec (.transferEnd l tag [b]) s = .next (answered l 0x32 tag .done [] w)
        ∧ ParcelBecomes p
            { s.parcel p with
              state := .settling, reason := none
              settle := some { start := s.clock, settleTime := time, expired := decide (time = 0) } } u w
        ∧ HandedOff p .plain u w
        ∧ w = { u with
                parcels := w.parcels, concurrence := w.concurrence, trail := w.trail, newest := w.newest
                writeQueue := w.writeQueue, inFlight := w.inFlight, alarm := w.alarm })

/-- A RUNNING settle timer that has reached its settle time becomes EXPIRED, and nothing else changes; before that, or once
EXPIRED, nothing happens. An entry of the concurrence table whose age exceeds its lapse timeout is removed with its
DECLARATION_LAPSE event; within it, nothing happens. -/
def Obligations.ParcelTimersExpire : Prop :=
  ∀ s : State,
    (∀ (p : Fin 6) (t : SettleTimer), (s.parcel p).settle = some t →
        (t.expired = false → 10 * t.settleTime ≤ (s.clock - t.start).toNat →
          exec (.settleTimerExpiry p) s =
            .next (setParcel p { s.parcel p with settle := some { t with expired := true } } s))
        ∧ (t.expired = true ∨ (s.clock - t.start).toNat < 10 * t.settleTime →
          exec (.settleTimerExpiry p) s = .next s))
      ∧ ∀ (subject : Subject) (kind : DeclKind) (e : Concurrence), s.entry subject kind = some e →
          (10 * e.lapse < (s.clock - e.taken).toNat →
            exec (.declarationLapse subject kind) s =
              .next (appendTrail (.declarationLapse subject kind e.first)
                { s with
                  concurrence := s.concurrence.filter fun x => !(x.subject == subject && x.kind == kind) }))
          ∧ ((s.clock - e.taken).toNat ≤ 10 * e.lapse → exec (.declarationLapse subject kind) s = .next s)

/-- A stop line taken as ASSERTED: while STARTING only its state changes. While RUNNING every slot in TRANSFER is SUSPENDED with
the line's reason and its count one higher, every other slot keeps everything; the trail receives the PARCEL_STATE event of
each suspended slot in slot order, with reason and count, then the STOP_LINE event; the writer is given the checkpoint of each
in slot order; the entries its new state does not allow go, and no other; the alarm line follows the declared states; nothing
else changes. A line taken as CLEAR changes its state and, while RUNNING, appends its
event; no parcel resumes. -/
def Obligations.StopLinesTaken : Prop :=
  ∀ (line : Link) (s : State),
    let reason : SuspendReason := match line with
      | .ship => .shipStop
      | .terminal => .terminalStop
    (s.unit = .starting → s.stopLine line = false → exec (.stopLineAsserted line) s = .next (setStopLine line true s))
      ∧ (s.unit = .running → s.stopLine line = false → ∃ w, exec (.stopLineAsserted line) s = .next w
        ∧ w.stopLine line = true ∧ w.stopLine (otherLink line) = s.stopLine (otherLink line)
        ∧ (∀ q, (s.parcel q).state = .transfer → w.parcel q =
            { s.parcel q with
              state := .suspended, reason := some reason
              suspensions := some (count16 ((s.parcel q).suspensions.getD 0)) })
        ∧ (∀ q, (s.parcel q).state ≠ .transfer → w.parcel q = s.parcel q)
        ∧ SameTrail
            (appendTrail (.stopLine line true)
              (allParcels.foldl (fun v q =>
                if (s.parcel q).state = .transfer then
                  appendTrail
                    (.parcelState q .suspended (.reason reason (count16 ((s.parcel q).suspensions.getD 0)))) v
                else v) s)) w
        ∧ SameWrites
            (allParcels.foldl (fun v q =>
              if (s.parcel q).state = .transfer then
                giveWrite (.checkpoint q) (.checkpoint (w.checkpointOf q) (checkpointCheck (w.checkpointOf q))) v
              else v) s) w
        ∧ w.concurrence = (s.concurrence.filter fun e =>
            allParcels.all fun q => (s.parcel q).state != .transfer || entryStays q .suspended e)
        ∧ ((∃ q, (s.parcel q).state = .transfer) → w.alarm = w.alarmDue)
        ∧ ((∀ q, (s.parcel q).state ≠ .transfer) → w.alarm = s.alarm)
        ∧ w = { s with
                shipStop := w.shipStop, terminalStop := w.terminalStop, parcels := w.parcels
                concurrence := w.concurrence, trail := w.trail, newest := w.newest, writeQueue := w.writeQueue
                inFlight := w.inFlight, alarm := w.alarm })
      ∧ (s.unit = .starting → s.stopLine line = true → exec (.stopLineCleared line) s = .next (setStopLine line false s))
      ∧ (s.unit = .running → s.stopLine line = true →
        exec (.stopLineCleared line) s = .next (appendTrail (.stopLine line false) (setStopLine line false s)))

/-- While the unit is RUNNING a parcel slot moves only as R110 allows, whatever command is taken. -/
def Obligations.ParcelsMoveAsAllowed : Prop :=
  ∀ (c : Instr) (s t : State) (p : Fin 6), s.unit = .running → exec c s = .next t → t.unit = .running →
    (t.parcel p).state = (s.parcel p).state ∨ movesTo (s.parcel p).state (t.parcel p).state = true

/-- A parcel's opening figures, once fixed, do not change while the unit runs until the parcel returns to FREE. -/
def Obligations.OpeningFiguresStand : Prop :=
  ∀ (c : Instr) (s t : State) (p : Fin 6) (o : OpeningFigures), s.unit = .running → exec c s = .next t →
    t.unit = .running → isOpened (s.parcel p).state = true → (s.parcel p).opening = some o →
    (t.parcel p).opening = some o ∨ (t.parcel p).state = .free

/-! ### Meters and reconciliation -/

/-- A pulse raises the counter of its channel by one, modulo 2^32, in every unit state but during a full reset; no other channel
and nothing else changes. A sample is taken where 10 s have passed since the timer's start. The timer starts again and no
other channel and nothing else changes. IDLE: the last sampled count and time advance, and the rate test sets or clears the
mark, which is cleared without a meter record in force. RUNNING: the volumes of the pulse difference are added, each rounded
and each accumulator held at 2^63 - 1, with the flags, the mark, the line VCF, and the count and time. WAITING: nothing else
of the channel changes. -/
def Obligations.MetersCountAndSample : Prop :=
  (∀ (m : Fin 4) (s : State), s.unit ≠ .inactive →
      ∃ w, exec (.meterPulse m) s = .next w ∧ w = { s with channels := w.channels }
        ∧ (w.channel m).pulses.toNat = ((s.channel m).pulses.toNat + 1) % 4294967296
        ∧ w.channel m = { s.channel m with pulses := (w.channel m).pulses }
        ∧ ∀ x, x ≠ m → w.channel x = s.channel x)
    ∧
      ∀ (m : Fin 4) (s : State) (start : Clock), (s.channel m).timer = some start →
        let c := s.channel m
        let span := (s.clock - c.lastTime).toNat
        let pulses := (c.pulses - c.lastCount).toNat
        let due := 100 ≤ (s.clock - start).toNat
        (¬due → exec (.sampleTimerExpiry m) s = .next s)
          ∧ (due → ∃ w, exec (.sampleTimerExpiry m) s = .next w ∧ w = { s with channels := w.channels }
            ∧ (∀ x, x ≠ m → w.channel x = s.channel x)
            ∧ (s.channelMode m = .waiting → w.channel m = { c with timer := some s.clock })
            ∧ (s.channelMode m = .idle → w.channel m =
                { c with
                  timer := some s.clock, lastCount := c.pulses, lastTime := s.clock
                  overRate := match s.meterInForce m with
                    | some meter => if span = 0 then c.overRate else decide (meter.maxRate * span < pulses * 10)
                    | none => false })
            ∧ ∀ p meter r a, s.channelMode m = .running → s.meterParcel m = some p → s.meterInForce m = some meter →
                s.parcelInForce p = some r → c.accumulators = some a →
                let exceeded := span ≠ 0 ∧ meter.maxRate * span < pulses * 10
                let vcf : Int := match c.lineConditions with
                  | some line => vcfOf r.a r.b line.temperature
                  | none => 1000000
                let indicated := (roundDiv (pulses * 1000000) meter.kFactor).toNat
                let gross := (roundDiv (indicated * meter.meterFactor) 1000000).toNat
                let standard := (roundDiv (gross * vcf) 1000000).toNat
                let hold := 9223372036854775807
                w.channel m =
                  { c with
                    timer := some s.clock, lastCount := c.pulses, lastTime := s.clock, lastLineVcf := some vcf
                    overRate := if span = 0 then c.overRate else decide (meter.maxRate * span < pulses * 10)
                    accumulators := some
                      { a with
                        indicated := min (a.indicated + indicated) hold, gross := min (a.gross + gross) hold
                        standard := min (a.standard + standard) hold, overRate := a.overRate || decide exceeded
                        lineTempMissing := a.lineTempMissing || c.lineConditions.isNone } })

/-- The interval expiry: each live parcel takes the evaluation of its figures as they stand, with one INTERVAL record, in slot
order, and one write of its checkpoint as it then stands, in slot order; no other parcel changes; the alarm line follows the
declared states; the timer starts again with the interval in use. Nothing but the parcels' comparison items, the trail, the
writes, the alarm line and the timer changes. The evaluation of a live parcel: its kind, INCOMPLETE with a tank NONE or a
SUSPECT record, DEGRADED with a tank HELD, TABLE_HELD or STALE; the quantities by direction and VEF; the ship outcome and, with
METER_WAITING before the base minimum, the meter outcome; the counts; and the INTERVAL record built from them. -/
def Obligations.IntervalEvaluated : Prop :=
  (∀ (s : State) (t : Timer), s.intervalTimer = some t →
    ((s.clock - t.start).toNat < t.duration → exec .intervalTimerExpiry s = .next s)
      ∧ (t.duration ≤ (s.clock - t.start).toNat → ∃ w, exec .intervalTimerExpiry s = .next w
        ∧ (∀ p, isLive (s.parcel p).state = true →
            w.parcel p = { s.parcel p with comparisons := some (s.evaluatedItems p (s.itemsOf p)) })
        ∧ (∀ p, isLive (s.parcel p).state = false → w.parcel p = s.parcel p)
        ∧ SameTrail
            (allParcels.foldl (fun v p =>
              if isLive (s.parcel p).state then
                appendTrail (.interval (s.intervalRecord p (s.itemsOf p) (s.evaluatedItems p (s.itemsOf p)))) v
              else v) s) w
        ∧ SameWrites
            (allParcels.foldl (fun v p =>
              if isLive (s.parcel p).state then
                giveWrite (.checkpoint p) (.checkpoint (w.checkpointOf p) (checkpointCheck (w.checkpointOf p))) v
              else v) s) w
        ∧ w.intervalTimer = some { start := s.clock, duration := 10 * s.settingsInUse.interval }
        ∧ w.alarm = w.alarmDue
        ∧ w = { s with
                parcels := w.parcels, trail := w.trail, newest := w.newest, writeQueue := w.writeQueue
                inFlight := w.inFlight, alarm := w.alarm, intervalTimer := w.intervalTimer }))
    ∧
      ∀ (s : State) (p : Fin 6) (r : ParcelRecord) (o : OpeningFigures) (items : CompItems),
        isLive (s.parcel p).state = true → s.parcelRecord p = some r → (s.parcel p).opening = some o →
        let inForce := if s.isSuspect (.parcel p) then none else some r
        let incomplete := s.isSuspect (.parcel p) = true ∨ ∃ x ∈ tanksNamed r, (s.tank x).figure.status = .none
        let degrades := ∃ x ∈ tanksNamed r, (s.tank x).figure.status = .held
          ∨ (s.tank x).figure.marks.tableHeld = true ∨ s.tankStale x = true
        let kind : EvalKind := if incomplete then .incomplete else if degrades then .degraded else .clean
        let q := transferred r o (r.shipTanks.map fun n => ((s.tank (.ship n)).figure.gsv).getD 0).sum
          (r.shoreTanks.map fun n => ((s.tank (.shore n)).figure.gsv).getD 0).sum
        let metered := r.meter.bind fun m => (s.channel m).accumulators.map fun a => roundDiv a.standard 1000
        let notMade : CompOutcome := { result := .notEvaluated .incomplete, difference := none, ratio := none }
        let ship := if incomplete then notMade else compared r (q.qAdj - q.qShore) q.qShore
        let meter := if incomplete then notMade
          else if ∃ m, r.meter = some m ∧ s.channelMode m = .waiting then
            { result := .notEvaluated .meterWaiting, difference := some (metered.getD 0 - q.qShore), ratio := none }
          else compared r (metered.getD 0 - q.qShore) q.qShore
        let after := fun (v : CompOutcome) (c : Comparison) =>
          evaluated inForce ((s.parcel p).state == .transfer) s.clock v c
        let said := fun (v : CompOutcome) (c : Comparison) =>
          ({ result := v.result, ratio := v.ratio, discrepant := (after v c).discrepant
             changed := c.discrepant != (after v c).discrepant } : IntervalResult)
        let up := fun n => if n < 65535 then n + 1 else 65535
        let w : CompItems :=
          { ship := after ship items.ship, meter := items.meter.map (after meter)
            lastQuantities := if incomplete then none else some q, lastQmeter := metered, lastKind := some kind
            evaluations := up items.evaluations
            degraded := if kind = .degraded then up items.degraded else items.degraded }
        s.evaluatedItems p items = w
          ∧ s.intervalRecord p items w =
              { parcel := p, state := (s.parcel p).state, qAdj := if incomplete then 0 else q.qAdj
                qShore := if incomplete then 0 else q.qShore, qMeter := metered, ship := said ship items.ship
                meter := items.meter.map (said meter), mark := kind }

/-- One comparison of one evaluation: the result's counter rises by one, held at 65,535; the last result is replaced; a graded
result in TRANSFER joins the history, which holds ten entries, and the declared state is DISCREPANT with kd or more OUTSIDE
entries, CLEAR with kc or fewer, and otherwise as it was; any other result leaves history and declared state alone. -/
def Obligations.ComparisonEvaluated : Prop :=
  ∀ (r : ParcelRecord) (inTransfer : Bool) (now : Clock) (o : CompOutcome) (c : Comparison),
    c.history.length ≤ 10 → clearCountOf r < declareCountOf r →
    let v := evaluated (some r) inTransfer now o c
    let outside := (v.history.filter fun e => e.grade == .outside).length
    let up := fun n => if n < 65535 then n + 1 else 65535
    v.history.length ≤ 10
      ∧ (∀ g, o.result = .graded g → inTransfer = true →
          v.history = ((c.history ++ [({ grade := g, time := now } : HistoryEntry)]).reverse.take 10).reverse
            ∧ (declareCountOf r ≤ outside → v.discrepant = true) ∧ (outside ≤ clearCountOf r → v.discrepant = false)
            ∧ (clearCountOf r < outside → outside < declareCountOf r → v.discrepant = c.discrepant))
      ∧ (inTransfer = false ∨ (∃ k, o.result = .notEvaluated k) →
          v.history = c.history ∧ v.discrepant = c.discrepant)
      ∧ v.counters = (match o.result with
          | .graded .within => { c.counters with within := up c.counters.within }
          | .graded .watch => { c.counters with watch := up c.counters.watch }
          | .graded .outside => { c.counters with outside := up c.counters.outside }
          | .notEvaluated _ => { c.counters with notEvaluated := up c.counters.notEvaluated })
      ∧ ∃ e, v.last = some { result := o.result, difference := o.difference, ratio := o.ratio, entered := e, time := now }
          ∧ (e = true ↔ inTransfer = true ∧ ∃ g, o.result = .graded g)

/-- A ratio is graded by its magnitude against the watch band and the alarm band of the record, its defaults put in, a ratio
equal to a band lying inside it. -/
def Obligations.RatiosGraded : Prop :=
  (∀ (watchBand alarmBand : Nat) (ratio : Int),
      (gradeOf watchBand alarmBand ratio = .within ↔ ratio.natAbs ≤ watchBand)
        ∧ (gradeOf watchBand alarmBand ratio = .watch ↔ watchBand < ratio.natAbs ∧ ratio.natAbs ≤ alarmBand)
        ∧ (watchBand ≤ alarmBand → (gradeOf watchBand alarmBand ratio = .outside ↔ alarmBand < ratio.natAbs))
        ∧ gradeOf watchBand alarmBand (-ratio) = gradeOf watchBand alarmBand ratio)
    ∧ ∀ (r : ParcelRecord) (difference qShore : Int), (baseMinimumOf r : Int) ≤ qShore →
        (gradeDifference r difference qShore).result =
          .graded (gradeOf (r.watchBand.getD 2000) (r.alarmBand.getD 5000) (ratioOf difference qShore))

/-! ### Reads -/

/-- The reads are answered DONE with their bodies and change nothing but what their frames do to the link: READ RECORD STATE with
the slot report, READ TANK and READ PARCEL from the link's copy while it holds, with source COPY and the hold time, and from
live state with source LIVE otherwise, READ FINAL with the final record of a CLOSED slot. READ PARCEL takes slot state, reason,
count, settle timer, opening and live figures, comparison items, meter part and tank entries from the copy, and the record,
the entries, the stop lines and the tuning fields live; a slot in FREE or PROPOSED has part 0 alone present. The tanks of parts
4 to 6 are those of the record at the read (log 14), and part 2 marks copied counters present without a record (log 28). Part 0
lists the slot's own entries in the order made and then the UNIT entry, an order R134 and R193 do not give (log 13). The
closing figures of a slot then CLOSED stand after a part's fields, live: time, each tank's GSV, totals and metered figure, each
item whole in one part, by a split that leaves room for the longest lists and is free otherwise (log 27). They are refused
FORMAT for another length, RANGE for an identifier that names nothing and READ FINAL STATE for any other slot. -/
def Obligations.ReadsAnswered : Prop :=
  ClosingFits closingSplit ∧ ∀ (l : Link) (tag : Byte) (payload : List Byte) (s : State), ReadyRunning l payload s →
    let u := takeFrame l false s
    (∀ b, payload = [b] →
        (∀ k, slotOfCode b = some k →
            exec (.readRecordState l tag payload) s = .next (answered l 0x28 tag .done (s.slotReport l k) u))
          ∧ (slotOfCode b = none →
            exec (.readRecordState l tag payload) s = .next (answered l 0x28 tag .range [] u))
          ∧ (∀ x, tankOfCode b = some x → exec (.readTank l tag payload) s =
              .next (answered l 0x38 tag .done
                (match (s.link l).hold with
                  | some h => tankBody (1 :: leBytes 4 h.time.toNat) x (h.tanks.get (tankIndex x)) h.condition
                  | none => tankBody [0, 0, 0, 0, 0] x (s.tankView x) s.conditionView) u))
          ∧ (tankOfCode b = none → exec (.readTank l tag payload) s = .next (answered l 0x38 tag .range [] u))
          ∧ (∀ p part, parcelOfByte b = some p →
            let v := match (s.link l).hold with
              | some h => h.parcels.get p
              | none => s.parcelView p
            let tank := fun (x : TankId) => match (s.link l).hold with
              | some h => h.tanks.get (tankIndex x)
              | none => s.tankView x
            let head := match (s.link l).hold with
              | some h => 1 :: leBytes 4 h.time.toNat
              | none => [0, 0, 0, 0, 0]
            let present := v.state ≠ .free ∧ v.state ≠ .proposed
            let shown := if present then v
              else { v with opening := none, live := none, comparisons := none, meter := none }
            let record := (s.slot (.parcel p)).current
            let entries := (s.concurrence.filter fun e => e.subject == .parcel p)
              ++ s.concurrence.filter fun e => e.subject == .unit
            let ships := if present then (s.parcelRecord p).elim [] fun r => r.shipTanks.zipIdx.map fun n =>
                parcelTankBytes (.ship n.1) (tank (.ship n.1)) (v.opening.bind fun o => o.shipVolumes[n.2]?)
              else []
            let shores := if present then (s.parcelRecord p).elim [] fun r => r.shoreTanks.zipIdx.map fun n =>
                parcelTankBytes (.shore n.1) (tank (.shore n.1)) (v.opening.bind fun o => o.shoreVolumes[n.2]?)
              else []
            let listed := fun (ts : List (List Byte)) => leBytes 1 ts.length ++ ts.flatten
            let body := match part with
              | 0 => [parcelStateCode v.state]
                  ++ [match v.reason with
                      | some reason => reasonCode reason
                      | none => 0]
                  ++ leBytes 2 (v.suspensions.getD 0)
                  ++ (match v.settle with
                      | some t => leBytes 4 t.start.toNat ++ leBytes 2 t.settleTime ++ [if t.expired then 2 else 1]
                      | none => [0, 0, 0, 0, 0, 0, 0])
                  ++ (match record with
                      | some c => [if c.suspect then 2 else 1, 1] ++ headerBytes c.content
                      | none => [0, 0])
                  ++ leBytes 1 entries.length
                  ++ (entries.flatMap fun e =>
                      [declKindCode e.kind, linkCode e.first] ++ leBytes 4 e.taken.toNat ++ leBytes 2 e.lapse)
                  ++ [if s.shipStop then 1 else 0, if s.terminalStop then 1 else 0]
              | 1 => parcelPart1 shown
              | 2 => parcelPart2 shown (s.parcelRecord p)
              | 3 => parcelPart3 shown.meter
              | 4 => listed (ships.take 16)
              | 5 => listed (ships.drop 16)
              | 6 => listed shores
            let fields := head ++ [BitVec.ofNat 8 (p.val + 1)] ++ body
            let closing := if (s.parcel p).state = .closed then (s.parcel p).closing else none
            let carried := fun (item : ClosingItem) (bytes : List Byte) =>
              if closingSplit item = part then bytes else []
            let share := closing.elim [] fun c => carried .time (leBytes 4 c.time.toNat)
              ++ (c.shipVolumes.zipIdx.flatMap fun v => carried (.shipTank v.2) (leInt 4 v.1))
              ++ (c.shoreVolumes.zipIdx.flatMap fun v => carried (.shoreTank v.2) (leInt 4 v.1))
              ++ carried .shipTotal (leInt 8 c.shipTotal) ++ carried .shoreTotal (leInt 8 c.shoreTotal)
              ++ carried .metered (leInt 8 (c.metered.getD 0))
            exec (.readParcel l part tag payload) s =
              .next (answered l 0x39 tag .done (fields ++ share) u))
          ∧ (∀ part, parcelOfByte b = none →
            exec (.readParcel l part tag payload) s = .next (answered l 0x39 tag .range [] u)
              ∧ ∀ part, exec (.readFinal l part tag payload) s = .next (answered l 0x3A tag .range [] u))
          ∧ ∀ p part, parcelOfByte b = some p →
            (∀ f, (s.parcel p).state = .closed → (s.parcel p).final = some f →
                exec (.readFinal l part tag payload) s = .next (answered l 0x3A tag .done (readFinalBody p f part) u))
              ∧ ((s.parcel p).state ≠ .closed ∨ (s.parcel p).final = none →
                exec (.readFinal l part tag payload) s = .next (answered l 0x3A tag .state [] u)))
      ∧ (payload.length ≠ 1 →
          exec (.readRecordState l tag payload) s = .next (answered l 0x28 tag .format [] u)
            ∧ exec (.readTank l tag payload) s = .next (answered l 0x38 tag .format [] u)
            ∧ (∀ part, exec (.readParcel l part tag payload) s = .next (answered l 0x39 tag .format [] u))
            ∧ ∀ part, exec (.readFinal l part tag payload) s = .next (answered l 0x3A tag .format [] u))

/-- READ TRAIL: FORMAT for a payload of another length than five bytes, RANGE for a count outside 1..4, SEQ_AHEAD for a start
more than one above the newest sequence, and otherwise DONE with up to that many records in ascending order of sequence, from the start or, with the GAP flag, from the oldest. That
an answer with no records sends 0 as first sequence is the model's reading (DEDUCED, log 12), not R194's words. -/
def Obligations.TrailRead : Prop :=
  (∀ (l : Link) (tag : Byte) (payload : List Byte) (s : State) (start count : Nat), ReadyRunning l payload s →
      TrailInOrder s → parseReadTrail payload = some (start, count) →
      let u := takeFrame l false s
      let oldest := u.newest - u.trail.length + 1
      (¬(1 ≤ count ∧ count ≤ 4) → exec (.readTrail l tag payload) s = .next (answered l 0x40 tag .range [] u))
        ∧ (1 ≤ count → count ≤ 4 → u.newest + 1 < start →
          exec (.readTrail l tag payload) s = .next (answered l 0x40 tag .seqAhead [] u))
        ∧ (1 ≤ count → count ≤ 4 → start ≤ u.newest + 1 → ∃ records : List TrailRecord,
            records = (u.trail.drop (start - oldest)).take count
              ∧ records.map (fun r => r.seq) = List.range' (max start oldest) (min count (u.newest + 1 - max start oldest))
              ∧ exec (.readTrail l tag payload) s =
                  .next (answered l 0x40 tag .done
                    (leBytes 4 u.newest ++ leBytes 4 oldest
                      ++ leBytes 4 (if records = [] then 0 else max start oldest) ++ leBytes 1 records.length
                      ++ [if start < oldest then 1 else 0] ++ records.flatMap trailRecordBytes) u)))
    ∧
      ∀ (l : Link) (tag : Byte) (payload : List Byte) (s : State), ReadyRunning l payload s →
        (parseReadTrail payload = none ↔ payload.length ≠ 5)
          ∧ (payload.length ≠ 5 →
            exec (.readTrail l tag payload) s = .next (answered l 0x40 tag .format [] (takeFrame l false s)))

/-! ### Full reset and the store -/

/-- A full reset clears every volatile part at its beginning and holds the unit inactive; the store keeps every object but the
one whose write it cut short, whose new copy fails every check; its end makes the unit STARTING with the load to begin. The
alarm contact is open while the supply is lost; that the supply falls or returns within a reset by the commands of log 29 is
the model's reading. -/
def Obligations.FullResetClears : Prop :=
  ∀ (cause : ResetCause) (s : State),
    (s.unit ≠ .inactive → ∃ w, exec (.fullResetBegin cause) s = .next w
        ∧ w = { State.reset with
                unit := .inactive, resetCause := cause, powered := w.powered, store := w.store, pending := s.pending }
        ∧ w.powered = (cause == .resetLine) ∧ w.contactClosed = (cause == .resetLine)
        ∧ (s.inFlight = none → w.store = s.store)
        ∧ ∀ x, s.inFlight = some x →
            (∀ o, o ≠ x.object → w.places o = s.places o)
              ∧ ∀ o, storedCopy o (w.places o) = storedCopy o (s.places o))
      ∧ (s.unit = .inactive → exec (.fullResetBegin cause) s = .next { s with powered := cause == .resetLine }
        ∧ exec .fullResetEnd s = .next { s with unit := .starting, powered := true })

/-- The store load's first steps: the RECOVERY event with the cause of the reset, then one record at each step. A record whose
stored copy passes becomes the slot's current version, IN_FORCE with audit count 0, with its points taken from the pool; one
without room is dropped with POOL_FULL, one whose copies all fail with DIGEST_FAILED, each with the removal of the object;
one that is not stored leaves its slot as it is. A record of settings puts them in use at its step. -/
def Obligations.RecordsLoaded : Prop :=
  ∀ s : State, s.unit = .starting →
    (s.load = .start →
        exec .storeLoadStart s = .next { appendTrail (.recovery s.resetCause) s with load := .records 0 })
      ∧ ∀ i : Fin 60, s.load = .records i →
        let k := slotAt i
        let v := s.places (.record k)
        let next : LoadPhase := if h : i.val + 1 < 60 then .records ⟨i.val + 1, h⟩ else .linkParameters .ship
        let dropped := fun (reason : DropReason) =>
          ({ giveWrite (.record k) .removal (appendTrail (.storeDrop k reason) s) with load := next } : State)
        (storedCopy (.record k) v = none → holdsCopies v = false →
            exec .storeLoadRecord s = .next { s with load := next })
          ∧ (storedCopy (.record k) v = none → holdsCopies v = true →
            exec .storeLoadRecord s = .next (dropped .digestFailed))
          ∧ ∀ first c, storedCopy (.record k) v = some (first, c) →
              (c.content = .removal → exec .storeLoadRecord s = .next { s with load := next })
              ∧ ∀ d content points, c.content = .record d content points →
                  (points.length ≤ s.poolFree → ∃ w,
                    SlotBecomes k
                        { current := some { suspect := false, content, points, digest := d, auditCount := 0 }
                          pending := (s.slot k).pending, last := .none } s w
                      ∧ w.poolFree + points.length = s.poolFree
                      ∧ w = { s with slots := w.slots, poolFree := w.poolFree }
                      ∧ exec .storeLoadRecord s =
                          .next { (if i = 59 then settingsChanged w else w) with load := next })
                  ∧ (s.poolFree < points.length → i ≠ 59 →
                    exec .storeLoadRecord s = .next (dropped .poolFull))

/-- The load of link parameters: a stored object sets both values of its link, one that is not stored or fails leaves them, and
nothing else changes. The end of the load: the unit is RUNNING, the reconciliation unit takes up the comparison items and the
final record that wait for each slot (log 18 reads R206 and R207 together with R159 and R208), the alarm line follows the
declared states so taken up, the interval timer, the audit timer and the four sample timers start, each line then ASSERTED has
its STOP_LINE event, ship line first, and nothing else changes. -/
def Obligations.LoadOfLinksAndItsEnd : Prop :=
  (∀ (l : Link) (s : State), s.unit = .starting → s.load = .linkParameters l →
      let next : LoadPhase := match l with
        | .ship => .linkParameters .terminal
        | .terminal => .checkpoints 0
      let found := storedCopy (.linkParameters l) (s.places (.linkParameters l))
      (∀ first c threshold holdTimeout check, found = some (first, c) →
          c.content = .linkParameters threshold holdTimeout check →
          exec .storeLoadLinkParameters s =
              .next { setLink l { s.link l with threshold := threshold, holdTimeout := holdTimeout } s with load := next }
            ∧ 1 ≤ threshold ∧ threshold ≤ 63 ∧ 10 ≤ holdTimeout ∧ holdTimeout ≤ 600)
        ∧ (found = none ∨ (∃ first c, found = some (first, c) ∧ c.content = .removal) →
          exec .storeLoadLinkParameters s = .next { s with load := next }))
    ∧
      ∀ s : State,
        let w := completeLoad s
        let ship := if s.shipStop then appendTrail (.stopLine .ship true) s else s
        w.unit = .running ∧ w.load = .complete ∧ w.alarm = w.alarmDue
          ∧ (∀ p, w.parcel p =
              { s.parcel p with comparisons := (s.restoredItems p).comparisons, final := (s.restoredItems p).final })
          ∧ (∀ p, w.restoredItems p = { comparisons := none, final := none })
          ∧ w.intervalTimer = some { start := s.clock, duration := 10 * s.settingsInUse.interval }
          ∧ w.auditTimer = some { start := s.clock, duration := 10 * s.settingsInUse.auditPeriod }
          ∧ (∀ m, w.channel m = { s.channel m with timer := some s.clock })
          ∧ SameTrail (if s.terminalStop then appendTrail (.stopLine .terminal true) ship else ship) w
          ∧ w = { s with
                  unit := w.unit, load := w.load, parcels := w.parcels, restored := w.restored, alarm := w.alarm
                  intervalTimer := w.intervalTimer, auditTimer := w.auditTimer, channels := w.channels, trail := w.trail, newest := w.newest }

/-- The slot a checkpoint brings up: the rows of R206, taken in their order, with R207's items and its refusal of a slot that
names what a slot before it has bound (before its row is read, log 17). A dropped slot has its STORE_DROP event and the
removals of its checkpoint and of a reloaded record (in that order, log 17), which leaves its slot; the stored copy that is a
removal copy is read from the store at the slot's step (log 19). A slot that comes up has its comparison items and its final
record waiting for the end of the load (log 18), and one that comes up DEFINED from PROPOSED or SUSPENDED gives the writer its
checkpoint as restored, with those items. Nothing else changes. -/
def Obligations.CheckpointsRestored : Prop :=
  ∀ (p : Fin 6) (s : State), s.unit = .starting → (s.parcel p).state = .free →
    let k := RecordSlot.parcel p
    let w := loadCheckpoint p s
    let dropped := giveWrite (.checkpoint p) .removal s
    let drop := SameTrail (appendTrail (.storeDrop k .checkpointFailed) s) w ∧ w.parcel p = s.parcel p
      ∧ ((s.slot k).current ≠ none → w.slot k = { s.slot k with current := none, last := .none }
        ∧ SameWrites (giveWrite (.record k) .removal dropped) w)
      ∧ ((s.slot k).current = none → w.slot k = s.slot k ∧ SameWrites dropped w)
      ∧ (∀ j, j ≠ k → w.slot j = s.slot j)
      ∧ w = { s with
              slots := w.slots, trail := w.trail, newest := w.newest, writeQueue := w.writeQueue
              inFlight := w.inFlight }
    let free := SameTrail (appendTrail (.parcelState p .free (.unilateral false)) s) w
      ∧ w.parcel p = s.parcel p ∧ SameWrites (giveWrite (.checkpoint p) .removal s) w
      ∧ w = { s with trail := w.trail, newest := w.newest, writeQueue := w.writeQueue, inFlight := w.inFlight }
    let restored := fun (v : Parcel) (m : Option (Fin 4)) (a : Option AccumulatorSet) =>
      ParcelBecomes p { v with comparisons := none, final := none } s w
        ∧ w.restoredItems p = { comparisons := v.comparisons, final := v.final }
        ∧ (∀ q, q ≠ p → w.restoredItems q = s.restoredItems q) ∧ AccumulatorsBecome m a s w
        ∧ w = { s with
                parcels := w.parcels, restored := w.restored, channels := w.channels, trail := w.trail
                newest := w.newest, writeQueue := w.writeQueue, inFlight := w.inFlight }
    let stored := fun (v : Parcel) (m : Option (Fin 4)) (a : Option AccumulatorSet) =>
      let c : Checkpoint :=
        { state := v.state, recordDigest := (s.slot k).current.map fun c => c.digest, reason := v.reason
          suspensions := v.suspensions, opening := v.opening, closing := v.closing, final := v.final
          accumulators := m.bind fun _ => a, comparisons := v.comparisons }
      SameWrites (giveWrite (.checkpoint p) (.checkpoint c (checkpointCheck c)) s) w
    let found := s.foundCheckpoint p
    (∀ i : Fin 6, s.load = .checkpoints i → i ≠ 5 →
        exec .storeLoadCheckpoint s = .next { loadCheckpoint i s with load := .checkpoints (i + 1) })
      ∧ (s.load = .checkpoints 5 → exec .storeLoadCheckpoint s = .next (completeLoad (loadCheckpoint 5 s)))
      ∧ (found = .notStored → s.parcelInForce p = none → w = s)
      ∧ (found = .fails ∨ (found = .notStored ∧ s.parcelInForce p ≠ none) → drop)
      ∧ (∀ c, found = .passes c → c.state = .proposed → s.parcelInForce p = none → free)
      ∧ (∀ c r, found = .passes c → c.state = .proposed → s.parcelInForce p = some r → s.boundElsewhere p r = false →
          let v : Parcel :=
            { state := .defined, opening := none, closing := none, reason := none, suspensions := some 0,
              settle := none, comparisons := some (freshItems r), final := none }
          let a : AccumulatorSet :=
            { parcel := p, indicated := 0, gross := 0, standard := 0, interrupted := false, overRate := false,
              lineTempMissing := false }
          restored v r.meter (some a) ∧ stored v r.meter (some a)
          ∧ SameTrail (appendTrail (.parcelState p .defined .plain) s) w)
      ∧ (∀ c r, found = .passes c → (c.state = .defined ∨ c.state = .closed ∨ c.state = .abandoned) →
          s.parcelInForce p = some r → s.boundElsewhere p r = false → s.recordMatches p c = true →
          restored
            { state := c.state, opening := c.opening, closing := c.closing, reason := c.reason,
              suspensions := c.suspensions, settle := none, comparisons := c.comparisons, final := c.final }
            r.meter c.accumulators
          ∧ SameTrail s w ∧ SameWrites s w)
      ∧ (∀ c r, found = .passes c → isLive c.state = true → s.parcelInForce p = some r →
          s.boundElsewhere p r = false → s.recordMatches p c = true →
          let count := if c.suspensions.getD 0 < 65535 then c.suspensions.getD 0 + 1 else 65535
          let v : Parcel :=
            { state := .suspended, opening := c.opening, closing := c.closing, reason := some .recovered,
              suspensions := some count, settle := none, comparisons := c.comparisons, final := c.final }
          let a := c.accumulators.map fun a => { a with interrupted := true }
          restored v r.meter a ∧ stored v r.meter a
          ∧ SameTrail (appendTrail (.parcelState p .suspended (.reason .recovered count)) s) w)
      ∧ (∀ c, found = .passes c → (c.state = .defined ∨ c.state = .closed ∨ c.state = .abandoned) →
          s.parcelInForce p = none → s.recordRemoved p = true → free)
      ∧ (∀ c r, found = .passes c → s.parcelInForce p = some r → s.boundElsewhere p r = true → drop)
      ∧ (∀ c, found = .passes c → c.state ≠ .proposed →
          (∀ r, s.parcelInForce p = some r → s.recordMatches p c = false) →
          (s.parcelInForce p = none → isLive c.state = true ∨ s.recordRemoved p = false) → drop)

/-- The writer: a write given replaces the object's waiting write and joins the tail, and is taken into flight at once when
nothing is; a write that completes leaves its content, with a generation one above that of the stored copy or 1, in the place
that did not hold it, and the next waiting write is taken. With nothing in flight nothing happens. -/
def Obligations.WritesComplete : Prop :=
  ∀ s : State,
    (∀ o c, ∃ q, q = (s.writeQueue.filter fun w => w.object != o) ++ [{ object := o, content := c : StoreWrite }]
        ∧ (∀ x, s.inFlight = some x → giveWrite o c s = { s with writeQueue := q })
        ∧ (∀ x rest, s.inFlight = none → q = x :: rest →
            giveWrite o c s = { s with inFlight := some x, writeQueue := rest }))
      ∧ (s.inFlight = none → exec .storeWriteComplete s = .next s)
      ∧ ∀ x, s.inFlight = some x → ∃ w, exec .storeWriteComplete s = .next w
        ∧ (w.inFlight, w.writeQueue) = (match s.writeQueue with
            | y :: rest => (some y, rest)
            | [] => (none, []))
        ∧ w = { s with store := w.store, inFlight := w.inFlight, writeQueue := w.writeQueue }
        ∧ (∀ o, o ≠ x.object → w.places o = s.places o)
        ∧ let v := s.places x.object
          let found := storedCopy x.object v
          let generation : BitVec 32 := match found with
            | some c => c.2.generation + 1
            | none => 1
          let copy : Place :=
            .copy { generation, headerCheck := headerCheckOf x.object generation, content := x.content }
          let first := match found with
            | some c => !c.1
            | none => true
          w.places x.object = if first then { v with first := copy } else { v with second := copy }

/-! ### What every state of a run keeps -/

/-- Every step keeps the account of the table pool: the free count is 8,192 less the points every version holds. -/
def Obligations.PoolStaysAccounted : Prop := ∀ s t : State, PoolAccounted s → step s = .next t → PoolAccounted t

/-- Every step keeps the trail in order. -/
def Obligations.TrailStaysInOrder : Prop := ∀ s t : State, TrailInOrder s → step s = .next t → TrailInOrder t

/-- Every step keeps the alarm line at the declared states of the live parcels, and keeps what those rest on in its bounds: each
history at ten entries at most, and every counter of the comparisons, the suspension counts and the audit counts at 65,535 at
most, in the slots, in the writer and in the store. -/
def Obligations.AlarmKeepsStanding : Prop :=
  (∀ s t : State, AlarmStands s → step s = .next t → AlarmStands t)
    ∧ ∀ s t : State, CountsSound s → step s = .next t → CountsSound t

/-- Every step keeps the concurrence table to entries that are allowed, one for each subject and kind. From a state with the pool
accounted and every version in force at its endorsed digest, every step keeps each tank and each meter bound to one parcel
other than FREE at most. That premise, DigestsHold, shuts out SUSPECT versions, and BindingSound has every pending parcel
version in a slot in PROPOSED, which shuts out the restoring proposals of R40 for a parcel: no command of the model alters
working memory, so no run has either (DESIGN CHOICE, log 10). -/
def Obligations.TableStaysAllowed : Prop :=
  (∀ s t : State, TableAllowed s → step s = .next t → TableAllowed t)
    ∧ ∀ s t : State, PoolAccounted s → DigestsHold s → BindingSound s → step s = .next t → BindingSound t

/-- Every step keeps every version in force at the content whose digest was endorsed. The model has no command that alters
working memory: log 10. -/
def Obligations.DigestsStayTrue : Prop := ∀ s t : State, DigestsHold s → step s = .next t → DigestsHold t

/-- Every step keeps both links in their ranges, and the writer's queue at one write for each object, waiting only behind a
write in flight. -/
def Obligations.LinksAndWriterStaySound : Prop :=
  ∀ s t : State, LinksSound s → WriterSound s → step s = .next t → LinksSound t ∧ WriterSound t

/-- The state after reset meets every invariant. -/
def Obligations.ResetMeetsInvariants : Prop :=
  PoolAccounted State.reset ∧ TrailInOrder State.reset ∧ AlarmStands State.reset ∧ TableAllowed State.reset
    ∧ DigestsHold State.reset ∧ LinksSound State.reset ∧ WriterSound State.reset ∧ CountsSound State.reset
    ∧ BindingSound State.reset
end

