-- ==== Sys2Proof/Laws/State.lean ====
section
/-! SUPPORT. One lemma per field per update of the state, and the reading of each part after the writing of it. -/

namespace Sys2Proof.Machine

open Sys2Proof

/-! ### setLink -/

@[simp] theorem setLink_unit (l : Link) (u : LinkUnit) (s : State) : (setLink l u s).unit = s.unit := by cases l <;> rfl
@[simp] theorem setLink_resetCause (l : Link) (u : LinkUnit) (s : State) : (setLink l u s).resetCause = s.resetCause := by cases l <;> rfl
@[simp] theorem setLink_powered (l : Link) (u : LinkUnit) (s : State) : (setLink l u s).powered = s.powered := by cases l <;> rfl
@[simp] theorem setLink_load (l : Link) (u : LinkUnit) (s : State) : (setLink l u s).load = s.load := by cases l <;> rfl
@[simp] theorem setLink_clock (l : Link) (u : LinkUnit) (s : State) : (setLink l u s).clock = s.clock := by cases l <;> rfl
@[simp] theorem setLink_lastServed (l : Link) (u : LinkUnit) (s : State) : (setLink l u s).lastServed = s.lastServed := by cases l <;> rfl
@[simp] theorem setLink_slots (l : Link) (u : LinkUnit) (s : State) : (setLink l u s).slots = s.slots := by cases l <;> rfl
@[simp] theorem setLink_poolFree (l : Link) (u : LinkUnit) (s : State) : (setLink l u s).poolFree = s.poolFree := by cases l <;> rfl
@[simp] theorem setLink_auditTimer (l : Link) (u : LinkUnit) (s : State) : (setLink l u s).auditTimer = s.auditTimer := by cases l <;> rfl
@[simp] theorem setLink_walk (l : Link) (u : LinkUnit) (s : State) : (setLink l u s).walk = s.walk := by cases l <;> rfl
@[simp] theorem setLink_tanks (l : Link) (u : LinkUnit) (s : State) : (setLink l u s).tanks = s.tanks := by cases l <;> rfl
@[simp] theorem setLink_shipCondition (l : Link) (u : LinkUnit) (s : State) : (setLink l u s).shipCondition = s.shipCondition := by cases l <;> rfl
@[simp] theorem setLink_channels (l : Link) (u : LinkUnit) (s : State) : (setLink l u s).channels = s.channels := by cases l <;> rfl
@[simp] theorem setLink_parcels (l : Link) (u : LinkUnit) (s : State) : (setLink l u s).parcels = s.parcels := by cases l <;> rfl
@[simp] theorem setLink_restored (l : Link) (u : LinkUnit) (s : State) : (setLink l u s).restored = s.restored := by cases l <;> rfl
@[simp] theorem setLink_concurrence (l : Link) (u : LinkUnit) (s : State) : (setLink l u s).concurrence = s.concurrence := by cases l <;> rfl
@[simp] theorem setLink_shipStop (l : Link) (u : LinkUnit) (s : State) : (setLink l u s).shipStop = s.shipStop := by cases l <;> rfl
@[simp] theorem setLink_terminalStop (l : Link) (u : LinkUnit) (s : State) : (setLink l u s).terminalStop = s.terminalStop := by cases l <;> rfl
@[simp] theorem setLink_intervalTimer (l : Link) (u : LinkUnit) (s : State) : (setLink l u s).intervalTimer = s.intervalTimer := by cases l <;> rfl
@[simp] theorem setLink_alarm (l : Link) (u : LinkUnit) (s : State) : (setLink l u s).alarm = s.alarm := by cases l <;> rfl
@[simp] theorem setLink_trail (l : Link) (u : LinkUnit) (s : State) : (setLink l u s).trail = s.trail := by cases l <;> rfl
@[simp] theorem setLink_newest (l : Link) (u : LinkUnit) (s : State) : (setLink l u s).newest = s.newest := by cases l <;> rfl
@[simp] theorem setLink_store (l : Link) (u : LinkUnit) (s : State) : (setLink l u s).store = s.store := by cases l <;> rfl
@[simp] theorem setLink_writeQueue (l : Link) (u : LinkUnit) (s : State) : (setLink l u s).writeQueue = s.writeQueue := by cases l <;> rfl
@[simp] theorem setLink_inFlight (l : Link) (u : LinkUnit) (s : State) : (setLink l u s).inFlight = s.inFlight := by cases l <;> rfl
@[simp] theorem setLink_pending (l : Link) (u : LinkUnit) (s : State) : (setLink l u s).pending = s.pending := by cases l <;> rfl
@[simp] theorem setLink_slot (l : Link) (u : LinkUnit) (x : RecordSlot) (s : State) : (setLink l u s).slot x = s.slot x := by cases l <;> rfl
@[simp] theorem setLink_tank (l : Link) (u : LinkUnit) (x : TankId) (s : State) : (setLink l u s).tank x = s.tank x := by cases l <;> rfl
@[simp] theorem setLink_channel (l : Link) (u : LinkUnit) (x : Fin 4) (s : State) : (setLink l u s).channel x = s.channel x := by cases l <;> rfl
@[simp] theorem setLink_parcel (l : Link) (u : LinkUnit) (x : Fin 6) (s : State) : (setLink l u s).parcel x = s.parcel x := by cases l <;> rfl
@[simp] theorem setLink_restoredItems (l : Link) (u : LinkUnit) (x : Fin 6) (s : State) : (setLink l u s).restoredItems x = s.restoredItems x := by cases l <;> rfl
@[simp] theorem setLink_places (l : Link) (u : LinkUnit) (x : StoreObject) (s : State) : (setLink l u s).places x = s.places x := by cases l <;> rfl
@[simp] theorem setLink_stopLine (l : Link) (u : LinkUnit) (x : Link) (s : State) : (setLink l u s).stopLine x = s.stopLine x := by cases l <;> cases x <;> rfl

/-! ### setSlot -/

@[simp] theorem setSlot_unit (k : RecordSlot) (v : Slot) (s : State) : (setSlot k v s).unit = s.unit := rfl
@[simp] theorem setSlot_resetCause (k : RecordSlot) (v : Slot) (s : State) : (setSlot k v s).resetCause = s.resetCause := rfl
@[simp] theorem setSlot_powered (k : RecordSlot) (v : Slot) (s : State) : (setSlot k v s).powered = s.powered := rfl
@[simp] theorem setSlot_load (k : RecordSlot) (v : Slot) (s : State) : (setSlot k v s).load = s.load := rfl
@[simp] theorem setSlot_clock (k : RecordSlot) (v : Slot) (s : State) : (setSlot k v s).clock = s.clock := rfl
@[simp] theorem setSlot_shipLink (k : RecordSlot) (v : Slot) (s : State) : (setSlot k v s).shipLink = s.shipLink := rfl
@[simp] theorem setSlot_terminalLink (k : RecordSlot) (v : Slot) (s : State) : (setSlot k v s).terminalLink = s.terminalLink := rfl
@[simp] theorem setSlot_lastServed (k : RecordSlot) (v : Slot) (s : State) : (setSlot k v s).lastServed = s.lastServed := rfl
@[simp] theorem setSlot_slots (k : RecordSlot) (v : Slot) (s : State) : (setSlot k v s).slots = s.slots.set (slotIndex k) v := rfl
@[simp] theorem setSlot_poolFree (k : RecordSlot) (v : Slot) (s : State) : (setSlot k v s).poolFree = s.poolFree := rfl
@[simp] theorem setSlot_auditTimer (k : RecordSlot) (v : Slot) (s : State) : (setSlot k v s).auditTimer = s.auditTimer := rfl
@[simp] theorem setSlot_walk (k : RecordSlot) (v : Slot) (s : State) : (setSlot k v s).walk = s.walk := rfl
@[simp] theorem setSlot_tanks (k : RecordSlot) (v : Slot) (s : State) : (setSlot k v s).tanks = s.tanks := rfl
@[simp] theorem setSlot_shipCondition (k : RecordSlot) (v : Slot) (s : State) : (setSlot k v s).shipCondition = s.shipCondition := rfl
@[simp] theorem setSlot_channels (k : RecordSlot) (v : Slot) (s : State) : (setSlot k v s).channels = s.channels := rfl
@[simp] theorem setSlot_parcels (k : RecordSlot) (v : Slot) (s : State) : (setSlot k v s).parcels = s.parcels := rfl
@[simp] theorem setSlot_restored (k : RecordSlot) (v : Slot) (s : State) : (setSlot k v s).restored = s.restored := rfl
@[simp] theorem setSlot_concurrence (k : RecordSlot) (v : Slot) (s : State) : (setSlot k v s).concurrence = s.concurrence := rfl
@[simp] theorem setSlot_shipStop (k : RecordSlot) (v : Slot) (s : State) : (setSlot k v s).shipStop = s.shipStop := rfl
@[simp] theorem setSlot_terminalStop (k : RecordSlot) (v : Slot) (s : State) : (setSlot k v s).terminalStop = s.terminalStop := rfl
@[simp] theorem setSlot_intervalTimer (k : RecordSlot) (v : Slot) (s : State) : (setSlot k v s).intervalTimer = s.intervalTimer := rfl
@[simp] theorem setSlot_alarm (k : RecordSlot) (v : Slot) (s : State) : (setSlot k v s).alarm = s.alarm := rfl
@[simp] theorem setSlot_trail (k : RecordSlot) (v : Slot) (s : State) : (setSlot k v s).trail = s.trail := rfl
@[simp] theorem setSlot_newest (k : RecordSlot) (v : Slot) (s : State) : (setSlot k v s).newest = s.newest := rfl
@[simp] theorem setSlot_store (k : RecordSlot) (v : Slot) (s : State) : (setSlot k v s).store = s.store := rfl
@[simp] theorem setSlot_writeQueue (k : RecordSlot) (v : Slot) (s : State) : (setSlot k v s).writeQueue = s.writeQueue := rfl
@[simp] theorem setSlot_inFlight (k : RecordSlot) (v : Slot) (s : State) : (setSlot k v s).inFlight = s.inFlight := rfl
@[simp] theorem setSlot_pending (k : RecordSlot) (v : Slot) (s : State) : (setSlot k v s).pending = s.pending := rfl
@[simp] theorem setSlot_link (k : RecordSlot) (v : Slot) (x : Link) (s : State) : (setSlot k v s).link x = s.link x := by cases x <;> rfl
@[simp] theorem setSlot_tank (k : RecordSlot) (v : Slot) (x : TankId) (s : State) : (setSlot k v s).tank x = s.tank x := rfl
@[simp] theorem setSlot_channel (k : RecordSlot) (v : Slot) (x : Fin 4) (s : State) : (setSlot k v s).channel x = s.channel x := rfl
@[simp] theorem setSlot_parcel (k : RecordSlot) (v : Slot) (x : Fin 6) (s : State) : (setSlot k v s).parcel x = s.parcel x := rfl
@[simp] theorem setSlot_restoredItems (k : RecordSlot) (v : Slot) (x : Fin 6) (s : State) : (setSlot k v s).restoredItems x = s.restoredItems x := rfl
@[simp] theorem setSlot_places (k : RecordSlot) (v : Slot) (x : StoreObject) (s : State) : (setSlot k v s).places x = s.places x := rfl
@[simp] theorem setSlot_stopLine (k : RecordSlot) (v : Slot) (x : Link) (s : State) : (setSlot k v s).stopLine x = s.stopLine x := by cases x <;> rfl

/-! ### setTank -/

@[simp] theorem setTank_unit (t : TankId) (v : Tank) (s : State) : (setTank t v s).unit = s.unit := rfl
@[simp] theorem setTank_resetCause (t : TankId) (v : Tank) (s : State) : (setTank t v s).resetCause = s.resetCause := rfl
@[simp] theorem setTank_powered (t : TankId) (v : Tank) (s : State) : (setTank t v s).powered = s.powered := rfl
@[simp] theorem setTank_load (t : TankId) (v : Tank) (s : State) : (setTank t v s).load = s.load := rfl
@[simp] theorem setTank_clock (t : TankId) (v : Tank) (s : State) : (setTank t v s).clock = s.clock := rfl
@[simp] theorem setTank_shipLink (t : TankId) (v : Tank) (s : State) : (setTank t v s).shipLink = s.shipLink := rfl
@[simp] theorem setTank_terminalLink (t : TankId) (v : Tank) (s : State) : (setTank t v s).terminalLink = s.terminalLink := rfl
@[simp] theorem setTank_lastServed (t : TankId) (v : Tank) (s : State) : (setTank t v s).lastServed = s.lastServed := rfl
@[simp] theorem setTank_slots (t : TankId) (v : Tank) (s : State) : (setTank t v s).slots = s.slots := rfl
@[simp] theorem setTank_poolFree (t : TankId) (v : Tank) (s : State) : (setTank t v s).poolFree = s.poolFree := rfl
@[simp] theorem setTank_auditTimer (t : TankId) (v : Tank) (s : State) : (setTank t v s).auditTimer = s.auditTimer := rfl
@[simp] theorem setTank_walk (t : TankId) (v : Tank) (s : State) : (setTank t v s).walk = s.walk := rfl
@[simp] theorem setTank_tanks (t : TankId) (v : Tank) (s : State) : (setTank t v s).tanks = s.tanks.set (tankIndex t) v := rfl
@[simp] theorem setTank_shipCondition (t : TankId) (v : Tank) (s : State) : (setTank t v s).shipCondition = s.shipCondition := rfl
@[simp] theorem setTank_channels (t : TankId) (v : Tank) (s : State) : (setTank t v s).channels = s.channels := rfl
@[simp] theorem setTank_parcels (t : TankId) (v : Tank) (s : State) : (setTank t v s).parcels = s.parcels := rfl
@[simp] theorem setTank_restored (t : TankId) (v : Tank) (s : State) : (setTank t v s).restored = s.restored := rfl
@[simp] theorem setTank_concurrence (t : TankId) (v : Tank) (s : State) : (setTank t v s).concurrence = s.concurrence := rfl
@[simp] theorem setTank_shipStop (t : TankId) (v : Tank) (s : State) : (setTank t v s).shipStop = s.shipStop := rfl
@[simp] theorem setTank_terminalStop (t : TankId) (v : Tank) (s : State) : (setTank t v s).terminalStop = s.terminalStop := rfl
@[simp] theorem setTank_intervalTimer (t : TankId) (v : Tank) (s : State) : (setTank t v s).intervalTimer = s.intervalTimer := rfl
@[simp] theorem setTank_alarm (t : TankId) (v : Tank) (s : State) : (setTank t v s).alarm = s.alarm := rfl
@[simp] theorem setTank_trail (t : TankId) (v : Tank) (s : State) : (setTank t v s).trail = s.trail := rfl
@[simp] theorem setTank_newest (t : TankId) (v : Tank) (s : State) : (setTank t v s).newest = s.newest := rfl
@[simp] theorem setTank_store (t : TankId) (v : Tank) (s : State) : (setTank t v s).store = s.store := rfl
@[simp] theorem setTank_writeQueue (t : TankId) (v : Tank) (s : State) : (setTank t v s).writeQueue = s.writeQueue := rfl
@[simp] theorem setTank_inFlight (t : TankId) (v : Tank) (s : State) : (setTank t v s).inFlight = s.inFlight := rfl
@[simp] theorem setTank_pending (t : TankId) (v : Tank) (s : State) : (setTank t v s).pending = s.pending := rfl
@[simp] theorem setTank_link (t : TankId) (v : Tank) (x : Link) (s : State) : (setTank t v s).link x = s.link x := by cases x <;> rfl
@[simp] theorem setTank_slot (t : TankId) (v : Tank) (x : RecordSlot) (s : State) : (setTank t v s).slot x = s.slot x := rfl
@[simp] theorem setTank_channel (t : TankId) (v : Tank) (x : Fin 4) (s : State) : (setTank t v s).channel x = s.channel x := rfl
@[simp] theorem setTank_parcel (t : TankId) (v : Tank) (x : Fin 6) (s : State) : (setTank t v s).parcel x = s.parcel x := rfl
@[simp] theorem setTank_restoredItems (t : TankId) (v : Tank) (x : Fin 6) (s : State) : (setTank t v s).restoredItems x = s.restoredItems x := rfl
@[simp] theorem setTank_places (t : TankId) (v : Tank) (x : StoreObject) (s : State) : (setTank t v s).places x = s.places x := rfl
@[simp] theorem setTank_stopLine (t : TankId) (v : Tank) (x : Link) (s : State) : (setTank t v s).stopLine x = s.stopLine x := by cases x <;> rfl

/-! ### setChannel -/

@[simp] theorem setChannel_unit (m : Fin 4) (v : Channel) (s : State) : (setChannel m v s).unit = s.unit := rfl
@[simp] theorem setChannel_resetCause (m : Fin 4) (v : Channel) (s : State) : (setChannel m v s).resetCause = s.resetCause := rfl
@[simp] theorem setChannel_powered (m : Fin 4) (v : Channel) (s : State) : (setChannel m v s).powered = s.powered := rfl
@[simp] theorem setChannel_load (m : Fin 4) (v : Channel) (s : State) : (setChannel m v s).load = s.load := rfl
@[simp] theorem setChannel_clock (m : Fin 4) (v : Channel) (s : State) : (setChannel m v s).clock = s.clock := rfl
@[simp] theorem setChannel_shipLink (m : Fin 4) (v : Channel) (s : State) : (setChannel m v s).shipLink = s.shipLink := rfl
@[simp] theorem setChannel_terminalLink (m : Fin 4) (v : Channel) (s : State) : (setChannel m v s).terminalLink = s.terminalLink := rfl
@[simp] theorem setChannel_lastServed (m : Fin 4) (v : Channel) (s : State) : (setChannel m v s).lastServed = s.lastServed := rfl
@[simp] theorem setChannel_slots (m : Fin 4) (v : Channel) (s : State) : (setChannel m v s).slots = s.slots := rfl
@[simp] theorem setChannel_poolFree (m : Fin 4) (v : Channel) (s : State) : (setChannel m v s).poolFree = s.poolFree := rfl
@[simp] theorem setChannel_auditTimer (m : Fin 4) (v : Channel) (s : State) : (setChannel m v s).auditTimer = s.auditTimer := rfl
@[simp] theorem setChannel_walk (m : Fin 4) (v : Channel) (s : State) : (setChannel m v s).walk = s.walk := rfl
@[simp] theorem setChannel_tanks (m : Fin 4) (v : Channel) (s : State) : (setChannel m v s).tanks = s.tanks := rfl
@[simp] theorem setChannel_shipCondition (m : Fin 4) (v : Channel) (s : State) : (setChannel m v s).shipCondition = s.shipCondition := rfl
@[simp] theorem setChannel_channels (m : Fin 4) (v : Channel) (s : State) : (setChannel m v s).channels = s.channels.set m v := rfl
@[simp] theorem setChannel_parcels (m : Fin 4) (v : Channel) (s : State) : (setChannel m v s).parcels = s.parcels := rfl
@[simp] theorem setChannel_restored (m : Fin 4) (v : Channel) (s : State) : (setChannel m v s).restored = s.restored := rfl
@[simp] theorem setChannel_concurrence (m : Fin 4) (v : Channel) (s : State) : (setChannel m v s).concurrence = s.concurrence := rfl
@[simp] theorem setChannel_shipStop (m : Fin 4) (v : Channel) (s : State) : (setChannel m v s).shipStop = s.shipStop := rfl
@[simp] theorem setChannel_terminalStop (m : Fin 4) (v : Channel) (s : State) : (setChannel m v s).terminalStop = s.terminalStop := rfl
@[simp] theorem setChannel_intervalTimer (m : Fin 4) (v : Channel) (s : State) : (setChannel m v s).intervalTimer = s.intervalTimer := rfl
@[simp] theorem setChannel_alarm (m : Fin 4) (v : Channel) (s : State) : (setChannel m v s).alarm = s.alarm := rfl
@[simp] theorem setChannel_trail (m : Fin 4) (v : Channel) (s : State) : (setChannel m v s).trail = s.trail := rfl
@[simp] theorem setChannel_newest (m : Fin 4) (v : Channel) (s : State) : (setChannel m v s).newest = s.newest := rfl
@[simp] theorem setChannel_store (m : Fin 4) (v : Channel) (s : State) : (setChannel m v s).store = s.store := rfl
@[simp] theorem setChannel_writeQueue (m : Fin 4) (v : Channel) (s : State) : (setChannel m v s).writeQueue = s.writeQueue := rfl
@[simp] theorem setChannel_inFlight (m : Fin 4) (v : Channel) (s : State) : (setChannel m v s).inFlight = s.inFlight := rfl
@[simp] theorem setChannel_pending (m : Fin 4) (v : Channel) (s : State) : (setChannel m v s).pending = s.pending := rfl
@[simp] theorem setChannel_link (m : Fin 4) (v : Channel) (x : Link) (s : State) : (setChannel m v s).link x = s.link x := by cases x <;> rfl
@[simp] theorem setChannel_slot (m : Fin 4) (v : Channel) (x : RecordSlot) (s : State) : (setChannel m v s).slot x = s.slot x := rfl
@[simp] theorem setChannel_tank (m : Fin 4) (v : Channel) (x : TankId) (s : State) : (setChannel m v s).tank x = s.tank x := rfl
@[simp] theorem setChannel_parcel (m : Fin 4) (v : Channel) (x : Fin 6) (s : State) : (setChannel m v s).parcel x = s.parcel x := rfl
@[simp] theorem setChannel_restoredItems (m : Fin 4) (v : Channel) (x : Fin 6) (s : State) : (setChannel m v s).restoredItems x = s.restoredItems x := rfl
@[simp] theorem setChannel_places (m : Fin 4) (v : Channel) (x : StoreObject) (s : State) : (setChannel m v s).places x = s.places x := rfl
@[simp] theorem setChannel_stopLine (m : Fin 4) (v : Channel) (x : Link) (s : State) : (setChannel m v s).stopLine x = s.stopLine x := by cases x <;> rfl

/-! ### setParcel -/

@[simp] theorem setParcel_unit (p : Fin 6) (v : Parcel) (s : State) : (setParcel p v s).unit = s.unit := rfl
@[simp] theorem setParcel_resetCause (p : Fin 6) (v : Parcel) (s : State) : (setParcel p v s).resetCause = s.resetCause := rfl
@[simp] theorem setParcel_powered (p : Fin 6) (v : Parcel) (s : State) : (setParcel p v s).powered = s.powered := rfl
@[simp] theorem setParcel_load (p : Fin 6) (v : Parcel) (s : State) : (setParcel p v s).load = s.load := rfl
@[simp] theorem setParcel_clock (p : Fin 6) (v : Parcel) (s : State) : (setParcel p v s).clock = s.clock := rfl
@[simp] theorem setParcel_shipLink (p : Fin 6) (v : Parcel) (s : State) : (setParcel p v s).shipLink = s.shipLink := rfl
@[simp] theorem setParcel_terminalLink (p : Fin 6) (v : Parcel) (s : State) : (setParcel p v s).terminalLink = s.terminalLink := rfl
@[simp] theorem setParcel_lastServed (p : Fin 6) (v : Parcel) (s : State) : (setParcel p v s).lastServed = s.lastServed := rfl
@[simp] theorem setParcel_slots (p : Fin 6) (v : Parcel) (s : State) : (setParcel p v s).slots = s.slots := rfl
@[simp] theorem setParcel_poolFree (p : Fin 6) (v : Parcel) (s : State) : (setParcel p v s).poolFree = s.poolFree := rfl
@[simp] theorem setParcel_auditTimer (p : Fin 6) (v : Parcel) (s : State) : (setParcel p v s).auditTimer = s.auditTimer := rfl
@[simp] theorem setParcel_walk (p : Fin 6) (v : Parcel) (s : State) : (setParcel p v s).walk = s.walk := rfl
@[simp] theorem setParcel_tanks (p : Fin 6) (v : Parcel) (s : State) : (setParcel p v s).tanks = s.tanks := rfl
@[simp] theorem setParcel_shipCondition (p : Fin 6) (v : Parcel) (s : State) : (setParcel p v s).shipCondition = s.shipCondition := rfl
@[simp] theorem setParcel_channels (p : Fin 6) (v : Parcel) (s : State) : (setParcel p v s).channels = s.channels := rfl
@[simp] theorem setParcel_parcels (p : Fin 6) (v : Parcel) (s : State) : (setParcel p v s).parcels = s.parcels.set p v := rfl
@[simp] theorem setParcel_restored (p : Fin 6) (v : Parcel) (s : State) : (setParcel p v s).restored = s.restored := rfl
@[simp] theorem setParcel_concurrence (p : Fin 6) (v : Parcel) (s : State) : (setParcel p v s).concurrence = s.concurrence := rfl
@[simp] theorem setParcel_shipStop (p : Fin 6) (v : Parcel) (s : State) : (setParcel p v s).shipStop = s.shipStop := rfl
@[simp] theorem setParcel_terminalStop (p : Fin 6) (v : Parcel) (s : State) : (setParcel p v s).terminalStop = s.terminalStop := rfl
@[simp] theorem setParcel_intervalTimer (p : Fin 6) (v : Parcel) (s : State) : (setParcel p v s).intervalTimer = s.intervalTimer := rfl
@[simp] theorem setParcel_alarm (p : Fin 6) (v : Parcel) (s : State) : (setParcel p v s).alarm = s.alarm := rfl
@[simp] theorem setParcel_trail (p : Fin 6) (v : Parcel) (s : State) : (setParcel p v s).trail = s.trail := rfl
@[simp] theorem setParcel_newest (p : Fin 6) (v : Parcel) (s : State) : (setParcel p v s).newest = s.newest := rfl
@[simp] theorem setParcel_store (p : Fin 6) (v : Parcel) (s : State) : (setParcel p v s).store = s.store := rfl
@[simp] theorem setParcel_writeQueue (p : Fin 6) (v : Parcel) (s : State) : (setParcel p v s).writeQueue = s.writeQueue := rfl
@[simp] theorem setParcel_inFlight (p : Fin 6) (v : Parcel) (s : State) : (setParcel p v s).inFlight = s.inFlight := rfl
@[simp] theorem setParcel_pending (p : Fin 6) (v : Parcel) (s : State) : (setParcel p v s).pending = s.pending := rfl
@[simp] theorem setParcel_link (p : Fin 6) (v : Parcel) (x : Link) (s : State) : (setParcel p v s).link x = s.link x := by cases x <;> rfl
@[simp] theorem setParcel_slot (p : Fin 6) (v : Parcel) (x : RecordSlot) (s : State) : (setParcel p v s).slot x = s.slot x := rfl
@[simp] theorem setParcel_tank (p : Fin 6) (v : Parcel) (x : TankId) (s : State) : (setParcel p v s).tank x = s.tank x := rfl
@[simp] theorem setParcel_channel (p : Fin 6) (v : Parcel) (x : Fin 4) (s : State) : (setParcel p v s).channel x = s.channel x := rfl
@[simp] theorem setParcel_restoredItems (p : Fin 6) (v : Parcel) (x : Fin 6) (s : State) : (setParcel p v s).restoredItems x = s.restoredItems x := rfl
@[simp] theorem setParcel_places (p : Fin 6) (v : Parcel) (x : StoreObject) (s : State) : (setParcel p v s).places x = s.places x := rfl
@[simp] theorem setParcel_stopLine (p : Fin 6) (v : Parcel) (x : Link) (s : State) : (setParcel p v s).stopLine x = s.stopLine x := by cases x <;> rfl

/-! ### setRestored -/

@[simp] theorem setRestored_unit (p : Fin 6) (v : RestoredItems) (s : State) : (setRestored p v s).unit = s.unit := rfl
@[simp] theorem setRestored_resetCause (p : Fin 6) (v : RestoredItems) (s : State) : (setRestored p v s).resetCause = s.resetCause := rfl
@[simp] theorem setRestored_powered (p : Fin 6) (v : RestoredItems) (s : State) : (setRestored p v s).powered = s.powered := rfl
@[simp] theorem setRestored_load (p : Fin 6) (v : RestoredItems) (s : State) : (setRestored p v s).load = s.load := rfl
@[simp] theorem setRestored_clock (p : Fin 6) (v : RestoredItems) (s : State) : (setRestored p v s).clock = s.clock := rfl
@[simp] theorem setRestored_shipLink (p : Fin 6) (v : RestoredItems) (s : State) : (setRestored p v s).shipLink = s.shipLink := rfl
@[simp] theorem setRestored_terminalLink (p : Fin 6) (v : RestoredItems) (s : State) : (setRestored p v s).terminalLink = s.terminalLink := rfl
@[simp] theorem setRestored_lastServed (p : Fin 6) (v : RestoredItems) (s : State) : (setRestored p v s).lastServed = s.lastServed := rfl
@[simp] theorem setRestored_slots (p : Fin 6) (v : RestoredItems) (s : State) : (setRestored p v s).slots = s.slots := rfl
@[simp] theorem setRestored_poolFree (p : Fin 6) (v : RestoredItems) (s : State) : (setRestored p v s).poolFree = s.poolFree := rfl
@[simp] theorem setRestored_auditTimer (p : Fin 6) (v : RestoredItems) (s : State) : (setRestored p v s).auditTimer = s.auditTimer := rfl
@[simp] theorem setRestored_walk (p : Fin 6) (v : RestoredItems) (s : State) : (setRestored p v s).walk = s.walk := rfl
@[simp] theorem setRestored_tanks (p : Fin 6) (v : RestoredItems) (s : State) : (setRestored p v s).tanks = s.tanks := rfl
@[simp] theorem setRestored_shipCondition (p : Fin 6) (v : RestoredItems) (s : State) : (setRestored p v s).shipCondition = s.shipCondition := rfl
@[simp] theorem setRestored_channels (p : Fin 6) (v : RestoredItems) (s : State) : (setRestored p v s).channels = s.channels := rfl
@[simp] theorem setRestored_parcels (p : Fin 6) (v : RestoredItems) (s : State) : (setRestored p v s).parcels = s.parcels := rfl
@[simp] theorem setRestored_restored (p : Fin 6) (v : RestoredItems) (s : State) : (setRestored p v s).restored = s.restored.set p v := rfl
@[simp] theorem setRestored_concurrence (p : Fin 6) (v : RestoredItems) (s : State) : (setRestored p v s).concurrence = s.concurrence := rfl
@[simp] theorem setRestored_shipStop (p : Fin 6) (v : RestoredItems) (s : State) : (setRestored p v s).shipStop = s.shipStop := rfl
@[simp] theorem setRestored_terminalStop (p : Fin 6) (v : RestoredItems) (s : State) : (setRestored p v s).terminalStop = s.terminalStop := rfl
@[simp] theorem setRestored_intervalTimer (p : Fin 6) (v : RestoredItems) (s : State) : (setRestored p v s).intervalTimer = s.intervalTimer := rfl
@[simp] theorem setRestored_alarm (p : Fin 6) (v : RestoredItems) (s : State) : (setRestored p v s).alarm = s.alarm := rfl
@[simp] theorem setRestored_trail (p : Fin 6) (v : RestoredItems) (s : State) : (setRestored p v s).trail = s.trail := rfl
@[simp] theorem setRestored_newest (p : Fin 6) (v : RestoredItems) (s : State) : (setRestored p v s).newest = s.newest := rfl
@[simp] theorem setRestored_store (p : Fin 6) (v : RestoredItems) (s : State) : (setRestored p v s).store = s.store := rfl
@[simp] theorem setRestored_writeQueue (p : Fin 6) (v : RestoredItems) (s : State) : (setRestored p v s).writeQueue = s.writeQueue := rfl
@[simp] theorem setRestored_inFlight (p : Fin 6) (v : RestoredItems) (s : State) : (setRestored p v s).inFlight = s.inFlight := rfl
@[simp] theorem setRestored_pending (p : Fin 6) (v : RestoredItems) (s : State) : (setRestored p v s).pending = s.pending := rfl
@[simp] theorem setRestored_link (p : Fin 6) (v : RestoredItems) (x : Link) (s : State) : (setRestored p v s).link x = s.link x := by cases x <;> rfl
@[simp] theorem setRestored_slot (p : Fin 6) (v : RestoredItems) (x : RecordSlot) (s : State) : (setRestored p v s).slot x = s.slot x := rfl
@[simp] theorem setRestored_tank (p : Fin 6) (v : RestoredItems) (x : TankId) (s : State) : (setRestored p v s).tank x = s.tank x := rfl
@[simp] theorem setRestored_channel (p : Fin 6) (v : RestoredItems) (x : Fin 4) (s : State) : (setRestored p v s).channel x = s.channel x := rfl
@[simp] theorem setRestored_parcel (p : Fin 6) (v : RestoredItems) (x : Fin 6) (s : State) : (setRestored p v s).parcel x = s.parcel x := rfl
@[simp] theorem setRestored_places (p : Fin 6) (v : RestoredItems) (x : StoreObject) (s : State) : (setRestored p v s).places x = s.places x := rfl
@[simp] theorem setRestored_stopLine (p : Fin 6) (v : RestoredItems) (x : Link) (s : State) : (setRestored p v s).stopLine x = s.stopLine x := by cases x <;> rfl

/-! ### setPlaces -/

@[simp] theorem setPlaces_unit (o : StoreObject) (v : ObjectPlaces) (s : State) : (setPlaces o v s).unit = s.unit := rfl
@[simp] theorem setPlaces_resetCause (o : StoreObject) (v : ObjectPlaces) (s : State) : (setPlaces o v s).resetCause = s.resetCause := rfl
@[simp] theorem setPlaces_powered (o : StoreObject) (v : ObjectPlaces) (s : State) : (setPlaces o v s).powered = s.powered := rfl
@[simp] theorem setPlaces_load (o : StoreObject) (v : ObjectPlaces) (s : State) : (setPlaces o v s).load = s.load := rfl
@[simp] theorem setPlaces_clock (o : StoreObject) (v : ObjectPlaces) (s : State) : (setPlaces o v s).clock = s.clock := rfl
@[simp] theorem setPlaces_shipLink (o : StoreObject) (v : ObjectPlaces) (s : State) : (setPlaces o v s).shipLink = s.shipLink := rfl
@[simp] theorem setPlaces_terminalLink (o : StoreObject) (v : ObjectPlaces) (s : State) : (setPlaces o v s).terminalLink = s.terminalLink := rfl
@[simp] theorem setPlaces_lastServed (o : StoreObject) (v : ObjectPlaces) (s : State) : (setPlaces o v s).lastServed = s.lastServed := rfl
@[simp] theorem setPlaces_slots (o : StoreObject) (v : ObjectPlaces) (s : State) : (setPlaces o v s).slots = s.slots := rfl
@[simp] theorem setPlaces_poolFree (o : StoreObject) (v : ObjectPlaces) (s : State) : (setPlaces o v s).poolFree = s.poolFree := rfl
@[simp] theorem setPlaces_auditTimer (o : StoreObject) (v : ObjectPlaces) (s : State) : (setPlaces o v s).auditTimer = s.auditTimer := rfl
@[simp] theorem setPlaces_walk (o : StoreObject) (v : ObjectPlaces) (s : State) : (setPlaces o v s).walk = s.walk := rfl
@[simp] theorem setPlaces_tanks (o : StoreObject) (v : ObjectPlaces) (s : State) : (setPlaces o v s).tanks = s.tanks := rfl
@[simp] theorem setPlaces_shipCondition (o : StoreObject) (v : ObjectPlaces) (s : State) : (setPlaces o v s).shipCondition = s.shipCondition := rfl
@[simp] theorem setPlaces_channels (o : StoreObject) (v : ObjectPlaces) (s : State) : (setPlaces o v s).channels = s.channels := rfl
@[simp] theorem setPlaces_parcels (o : StoreObject) (v : ObjectPlaces) (s : State) : (setPlaces o v s).parcels = s.parcels := rfl
@[simp] theorem setPlaces_restored (o : StoreObject) (v : ObjectPlaces) (s : State) : (setPlaces o v s).restored = s.restored := rfl
@[simp] theorem setPlaces_concurrence (o : StoreObject) (v : ObjectPlaces) (s : State) : (setPlaces o v s).concurrence = s.concurrence := rfl
@[simp] theorem setPlaces_shipStop (o : StoreObject) (v : ObjectPlaces) (s : State) : (setPlaces o v s).shipStop = s.shipStop := rfl
@[simp] theorem setPlaces_terminalStop (o : StoreObject) (v : ObjectPlaces) (s : State) : (setPlaces o v s).terminalStop = s.terminalStop := rfl
@[simp] theorem setPlaces_intervalTimer (o : StoreObject) (v : ObjectPlaces) (s : State) : (setPlaces o v s).intervalTimer = s.intervalTimer := rfl
@[simp] theorem setPlaces_alarm (o : StoreObject) (v : ObjectPlaces) (s : State) : (setPlaces o v s).alarm = s.alarm := rfl
@[simp] theorem setPlaces_trail (o : StoreObject) (v : ObjectPlaces) (s : State) : (setPlaces o v s).trail = s.trail := rfl
@[simp] theorem setPlaces_newest (o : StoreObject) (v : ObjectPlaces) (s : State) : (setPlaces o v s).newest = s.newest := rfl
@[simp] theorem setPlaces_store (o : StoreObject) (v : ObjectPlaces) (s : State) : (setPlaces o v s).store = s.store.set (objectIndex o) v := rfl
@[simp] theorem setPlaces_writeQueue (o : StoreObject) (v : ObjectPlaces) (s : State) : (setPlaces o v s).writeQueue = s.writeQueue := rfl
@[simp] theorem setPlaces_inFlight (o : StoreObject) (v : ObjectPlaces) (s : State) : (setPlaces o v s).inFlight = s.inFlight := rfl
@[simp] theorem setPlaces_pending (o : StoreObject) (v : ObjectPlaces) (s : State) : (setPlaces o v s).pending = s.pending := rfl
@[simp] theorem setPlaces_link (o : StoreObject) (v : ObjectPlaces) (x : Link) (s : State) : (setPlaces o v s).link x = s.link x := by cases x <;> rfl
@[simp] theorem setPlaces_slot (o : StoreObject) (v : ObjectPlaces) (x : RecordSlot) (s : State) : (setPlaces o v s).slot x = s.slot x := rfl
@[simp] theorem setPlaces_tank (o : StoreObject) (v : ObjectPlaces) (x : TankId) (s : State) : (setPlaces o v s).tank x = s.tank x := rfl
@[simp] theorem setPlaces_channel (o : StoreObject) (v : ObjectPlaces) (x : Fin 4) (s : State) : (setPlaces o v s).channel x = s.channel x := rfl
@[simp] theorem setPlaces_parcel (o : StoreObject) (v : ObjectPlaces) (x : Fin 6) (s : State) : (setPlaces o v s).parcel x = s.parcel x := rfl
@[simp] theorem setPlaces_restoredItems (o : StoreObject) (v : ObjectPlaces) (x : Fin 6) (s : State) : (setPlaces o v s).restoredItems x = s.restoredItems x := rfl
@[simp] theorem setPlaces_stopLine (o : StoreObject) (v : ObjectPlaces) (x : Link) (s : State) : (setPlaces o v s).stopLine x = s.stopLine x := by cases x <;> rfl

/-! ### setStopLine -/

@[simp] theorem setStopLine_unit (l : Link) (b : Bool) (s : State) : (setStopLine l b s).unit = s.unit := by cases l <;> rfl
@[simp] theorem setStopLine_resetCause (l : Link) (b : Bool) (s : State) : (setStopLine l b s).resetCause = s.resetCause := by cases l <;> rfl
@[simp] theorem setStopLine_powered (l : Link) (b : Bool) (s : State) : (setStopLine l b s).powered = s.powered := by cases l <;> rfl
@[simp] theorem setStopLine_load (l : Link) (b : Bool) (s : State) : (setStopLine l b s).load = s.load := by cases l <;> rfl
@[simp] theorem setStopLine_clock (l : Link) (b : Bool) (s : State) : (setStopLine l b s).clock = s.clock := by cases l <;> rfl
@[simp] theorem setStopLine_shipLink (l : Link) (b : Bool) (s : State) : (setStopLine l b s).shipLink = s.shipLink := by cases l <;> rfl
@[simp] theorem setStopLine_terminalLink (l : Link) (b : Bool) (s : State) : (setStopLine l b s).terminalLink = s.terminalLink := by cases l <;> rfl
@[simp] theorem setStopLine_lastServed (l : Link) (b : Bool) (s : State) : (setStopLine l b s).lastServed = s.lastServed := by cases l <;> rfl
@[simp] theorem setStopLine_slots (l : Link) (b : Bool) (s : State) : (setStopLine l b s).slots = s.slots := by cases l <;> rfl
@[simp] theorem setStopLine_poolFree (l : Link) (b : Bool) (s : State) : (setStopLine l b s).poolFree = s.poolFree := by cases l <;> rfl
@[simp] theorem setStopLine_auditTimer (l : Link) (b : Bool) (s : State) : (setStopLine l b s).auditTimer = s.auditTimer := by cases l <;> rfl
@[simp] theorem setStopLine_walk (l : Link) (b : Bool) (s : State) : (setStopLine l b s).walk = s.walk := by cases l <;> rfl
@[simp] theorem setStopLine_tanks (l : Link) (b : Bool) (s : State) : (setStopLine l b s).tanks = s.tanks := by cases l <;> rfl
@[simp] theorem setStopLine_shipCondition (l : Link) (b : Bool) (s : State) : (setStopLine l b s).shipCondition = s.shipCondition := by cases l <;> rfl
@[simp] theorem setStopLine_channels (l : Link) (b : Bool) (s : State) : (setStopLine l b s).channels = s.channels := by cases l <;> rfl
@[simp] theorem setStopLine_parcels (l : Link) (b : Bool) (s : State) : (setStopLine l b s).parcels = s.parcels := by cases l <;> rfl
@[simp] theorem setStopLine_restored (l : Link) (b : Bool) (s : State) : (setStopLine l b s).restored = s.restored := by cases l <;> rfl
@[simp] theorem setStopLine_concurrence (l : Link) (b : Bool) (s : State) : (setStopLine l b s).concurrence = s.concurrence := by cases l <;> rfl
@[simp] theorem setStopLine_intervalTimer (l : Link) (b : Bool) (s : State) : (setStopLine l b s).intervalTimer = s.intervalTimer := by cases l <;> rfl
@[simp] theorem setStopLine_alarm (l : Link) (b : Bool) (s : State) : (setStopLine l b s).alarm = s.alarm := by cases l <;> rfl
@[simp] theorem setStopLine_trail (l : Link) (b : Bool) (s : State) : (setStopLine l b s).trail = s.trail := by cases l <;> rfl
@[simp] theorem setStopLine_newest (l : Link) (b : Bool) (s : State) : (setStopLine l b s).newest = s.newest := by cases l <;> rfl
@[simp] theorem setStopLine_store (l : Link) (b : Bool) (s : State) : (setStopLine l b s).store = s.store := by cases l <;> rfl
@[simp] theorem setStopLine_writeQueue (l : Link) (b : Bool) (s : State) : (setStopLine l b s).writeQueue = s.writeQueue := by cases l <;> rfl
@[simp] theorem setStopLine_inFlight (l : Link) (b : Bool) (s : State) : (setStopLine l b s).inFlight = s.inFlight := by cases l <;> rfl
@[simp] theorem setStopLine_pending (l : Link) (b : Bool) (s : State) : (setStopLine l b s).pending = s.pending := by cases l <;> rfl
@[simp] theorem setStopLine_link (l : Link) (b : Bool) (x : Link) (s : State) : (setStopLine l b s).link x = s.link x := by cases l <;> cases x <;> rfl
@[simp] theorem setStopLine_slot (l : Link) (b : Bool) (x : RecordSlot) (s : State) : (setStopLine l b s).slot x = s.slot x := by cases l <;> rfl
@[simp] theorem setStopLine_tank (l : Link) (b : Bool) (x : TankId) (s : State) : (setStopLine l b s).tank x = s.tank x := by cases l <;> rfl
@[simp] theorem setStopLine_channel (l : Link) (b : Bool) (x : Fin 4) (s : State) : (setStopLine l b s).channel x = s.channel x := by cases l <;> rfl
@[simp] theorem setStopLine_parcel (l : Link) (b : Bool) (x : Fin 6) (s : State) : (setStopLine l b s).parcel x = s.parcel x := by cases l <;> rfl
@[simp] theorem setStopLine_restoredItems (l : Link) (b : Bool) (x : Fin 6) (s : State) : (setStopLine l b s).restoredItems x = s.restoredItems x := by cases l <;> rfl
@[simp] theorem setStopLine_places (l : Link) (b : Bool) (x : StoreObject) (s : State) : (setStopLine l b s).places x = s.places x := by cases l <;> rfl

/-! ### setPoolFree -/

@[simp] theorem setPoolFree_unit (n : Nat) (s : State) : (setPoolFree n s).unit = s.unit := rfl
@[simp] theorem setPoolFree_resetCause (n : Nat) (s : State) : (setPoolFree n s).resetCause = s.resetCause := rfl
@[simp] theorem setPoolFree_powered (n : Nat) (s : State) : (setPoolFree n s).powered = s.powered := rfl
@[simp] theorem setPoolFree_load (n : Nat) (s : State) : (setPoolFree n s).load = s.load := rfl
@[simp] theorem setPoolFree_clock (n : Nat) (s : State) : (setPoolFree n s).clock = s.clock := rfl
@[simp] theorem setPoolFree_shipLink (n : Nat) (s : State) : (setPoolFree n s).shipLink = s.shipLink := rfl
@[simp] theorem setPoolFree_terminalLink (n : Nat) (s : State) : (setPoolFree n s).terminalLink = s.terminalLink := rfl
@[simp] theorem setPoolFree_lastServed (n : Nat) (s : State) : (setPoolFree n s).lastServed = s.lastServed := rfl
@[simp] theorem setPoolFree_slots (n : Nat) (s : State) : (setPoolFree n s).slots = s.slots := rfl
@[simp] theorem setPoolFree_poolFree (n : Nat) (s : State) : (setPoolFree n s).poolFree = n := rfl
@[simp] theorem setPoolFree_auditTimer (n : Nat) (s : State) : (setPoolFree n s).auditTimer = s.auditTimer := rfl
@[simp] theorem setPoolFree_walk (n : Nat) (s : State) : (setPoolFree n s).walk = s.walk := rfl
@[simp] theorem setPoolFree_tanks (n : Nat) (s : State) : (setPoolFree n s).tanks = s.tanks := rfl
@[simp] theorem setPoolFree_shipCondition (n : Nat) (s : State) : (setPoolFree n s).shipCondition = s.shipCondition := rfl
@[simp] theorem setPoolFree_channels (n : Nat) (s : State) : (setPoolFree n s).channels = s.channels := rfl
@[simp] theorem setPoolFree_parcels (n : Nat) (s : State) : (setPoolFree n s).parcels = s.parcels := rfl
@[simp] theorem setPoolFree_restored (n : Nat) (s : State) : (setPoolFree n s).restored = s.restored := rfl
@[simp] theorem setPoolFree_concurrence (n : Nat) (s : State) : (setPoolFree n s).concurrence = s.concurrence := rfl
@[simp] theorem setPoolFree_shipStop (n : Nat) (s : State) : (setPoolFree n s).shipStop = s.shipStop := rfl
@[simp] theorem setPoolFree_terminalStop (n : Nat) (s : State) : (setPoolFree n s).terminalStop = s.terminalStop := rfl
@[simp] theorem setPoolFree_intervalTimer (n : Nat) (s : State) : (setPoolFree n s).intervalTimer = s.intervalTimer := rfl
@[simp] theorem setPoolFree_alarm (n : Nat) (s : State) : (setPoolFree n s).alarm = s.alarm := rfl
@[simp] theorem setPoolFree_trail (n : Nat) (s : State) : (setPoolFree n s).trail = s.trail := rfl
@[simp] theorem setPoolFree_newest (n : Nat) (s : State) : (setPoolFree n s).newest = s.newest := rfl
@[simp] theorem setPoolFree_store (n : Nat) (s : State) : (setPoolFree n s).store = s.store := rfl
@[simp] theorem setPoolFree_writeQueue (n : Nat) (s : State) : (setPoolFree n s).writeQueue = s.writeQueue := rfl
@[simp] theorem setPoolFree_inFlight (n : Nat) (s : State) : (setPoolFree n s).inFlight = s.inFlight := rfl
@[simp] theorem setPoolFree_pending (n : Nat) (s : State) : (setPoolFree n s).pending = s.pending := rfl
@[simp] theorem setPoolFree_link (n : Nat) (x : Link) (s : State) : (setPoolFree n s).link x = s.link x := by cases x <;> rfl
@[simp] theorem setPoolFree_slot (n : Nat) (x : RecordSlot) (s : State) : (setPoolFree n s).slot x = s.slot x := rfl
@[simp] theorem setPoolFree_tank (n : Nat) (x : TankId) (s : State) : (setPoolFree n s).tank x = s.tank x := rfl
@[simp] theorem setPoolFree_channel (n : Nat) (x : Fin 4) (s : State) : (setPoolFree n s).channel x = s.channel x := rfl
@[simp] theorem setPoolFree_parcel (n : Nat) (x : Fin 6) (s : State) : (setPoolFree n s).parcel x = s.parcel x := rfl
@[simp] theorem setPoolFree_restoredItems (n : Nat) (x : Fin 6) (s : State) : (setPoolFree n s).restoredItems x = s.restoredItems x := rfl
@[simp] theorem setPoolFree_places (n : Nat) (x : StoreObject) (s : State) : (setPoolFree n s).places x = s.places x := rfl
@[simp] theorem setPoolFree_stopLine (n : Nat) (x : Link) (s : State) : (setPoolFree n s).stopLine x = s.stopLine x := by cases x <;> rfl

/-! ### setConcurrence -/

@[simp] theorem setConcurrence_unit (es : List Concurrence) (s : State) : (setConcurrence es s).unit = s.unit := rfl
@[simp] theorem setConcurrence_resetCause (es : List Concurrence) (s : State) : (setConcurrence es s).resetCause = s.resetCause := rfl
@[simp] theorem setConcurrence_powered (es : List Concurrence) (s : State) : (setConcurrence es s).powered = s.powered := rfl
@[simp] theorem setConcurrence_load (es : List Concurrence) (s : State) : (setConcurrence es s).load = s.load := rfl
@[simp] theorem setConcurrence_clock (es : List Concurrence) (s : State) : (setConcurrence es s).clock = s.clock := rfl
@[simp] theorem setConcurrence_shipLink (es : List Concurrence) (s : State) : (setConcurrence es s).shipLink = s.shipLink := rfl
@[simp] theorem setConcurrence_terminalLink (es : List Concurrence) (s : State) : (setConcurrence es s).terminalLink = s.terminalLink := rfl
@[simp] theorem setConcurrence_lastServed (es : List Concurrence) (s : State) : (setConcurrence es s).lastServed = s.lastServed := rfl
@[simp] theorem setConcurrence_slots (es : List Concurrence) (s : State) : (setConcurrence es s).slots = s.slots := rfl
@[simp] theorem setConcurrence_poolFree (es : List Concurrence) (s : State) : (setConcurrence es s).poolFree = s.poolFree := rfl
@[simp] theorem setConcurrence_auditTimer (es : List Concurrence) (s : State) : (setConcurrence es s).auditTimer = s.auditTimer := rfl
@[simp] theorem setConcurrence_walk (es : List Concurrence) (s : State) : (setConcurrence es s).walk = s.walk := rfl
@[simp] theorem setConcurrence_tanks (es : List Concurrence) (s : State) : (setConcurrence es s).tanks = s.tanks := rfl
@[simp] theorem setConcurrence_shipCondition (es : List Concurrence) (s : State) : (setConcurrence es s).shipCondition = s.shipCondition := rfl
@[simp] theorem setConcurrence_channels (es : List Concurrence) (s : State) : (setConcurrence es s).channels = s.channels := rfl
@[simp] theorem setConcurrence_parcels (es : List Concurrence) (s : State) : (setConcurrence es s).parcels = s.parcels := rfl
@[simp] theorem setConcurrence_restored (es : List Concurrence) (s : State) : (setConcurrence es s).restored = s.restored := rfl
@[simp] theorem setConcurrence_concurrence (es : List Concurrence) (s : State) : (setConcurrence es s).concurrence = es := rfl
@[simp] theorem setConcurrence_shipStop (es : List Concurrence) (s : State) : (setConcurrence es s).shipStop = s.shipStop := rfl
@[simp] theorem setConcurrence_terminalStop (es : List Concurrence) (s : State) : (setConcurrence es s).terminalStop = s.terminalStop := rfl
@[simp] theorem setConcurrence_intervalTimer (es : List Concurrence) (s : State) : (setConcurrence es s).intervalTimer = s.intervalTimer := rfl
@[simp] theorem setConcurrence_alarm (es : List Concurrence) (s : State) : (setConcurrence es s).alarm = s.alarm := rfl
@[simp] theorem setConcurrence_trail (es : List Concurrence) (s : State) : (setConcurrence es s).trail = s.trail := rfl
@[simp] theorem setConcurrence_newest (es : List Concurrence) (s : State) : (setConcurrence es s).newest = s.newest := rfl
@[simp] theorem setConcurrence_store (es : List Concurrence) (s : State) : (setConcurrence es s).store = s.store := rfl
@[simp] theorem setConcurrence_writeQueue (es : List Concurrence) (s : State) : (setConcurrence es s).writeQueue = s.writeQueue := rfl
@[simp] theorem setConcurrence_inFlight (es : List Concurrence) (s : State) : (setConcurrence es s).inFlight = s.inFlight := rfl
@[simp] theorem setConcurrence_pending (es : List Concurrence) (s : State) : (setConcurrence es s).pending = s.pending := rfl
@[simp] theorem setConcurrence_link (es : List Concurrence) (x : Link) (s : State) : (setConcurrence es s).link x = s.link x := by cases x <;> rfl
@[simp] theorem setConcurrence_slot (es : List Concurrence) (x : RecordSlot) (s : State) : (setConcurrence es s).slot x = s.slot x := rfl
@[simp] theorem setConcurrence_tank (es : List Concurrence) (x : TankId) (s : State) : (setConcurrence es s).tank x = s.tank x := rfl
@[simp] theorem setConcurrence_channel (es : List Concurrence) (x : Fin 4) (s : State) : (setConcurrence es s).channel x = s.channel x := rfl
@[simp] theorem setConcurrence_parcel (es : List Concurrence) (x : Fin 6) (s : State) : (setConcurrence es s).parcel x = s.parcel x := rfl
@[simp] theorem setConcurrence_restoredItems (es : List Concurrence) (x : Fin 6) (s : State) : (setConcurrence es s).restoredItems x = s.restoredItems x := rfl
@[simp] theorem setConcurrence_places (es : List Concurrence) (x : StoreObject) (s : State) : (setConcurrence es s).places x = s.places x := rfl
@[simp] theorem setConcurrence_stopLine (es : List Concurrence) (x : Link) (s : State) : (setConcurrence es s).stopLine x = s.stopLine x := by cases x <;> rfl

/-! ### setAlarmLine -/

@[simp] theorem setAlarmLine_unit (b : Bool) (s : State) : (setAlarmLine b s).unit = s.unit := rfl
@[simp] theorem setAlarmLine_resetCause (b : Bool) (s : State) : (setAlarmLine b s).resetCause = s.resetCause := rfl
@[simp] theorem setAlarmLine_powered (b : Bool) (s : State) : (setAlarmLine b s).powered = s.powered := rfl
@[simp] theorem setAlarmLine_load (b : Bool) (s : State) : (setAlarmLine b s).load = s.load := rfl
@[simp] theorem setAlarmLine_clock (b : Bool) (s : State) : (setAlarmLine b s).clock = s.clock := rfl
@[simp] theorem setAlarmLine_shipLink (b : Bool) (s : State) : (setAlarmLine b s).shipLink = s.shipLink := rfl
@[simp] theorem setAlarmLine_terminalLink (b : Bool) (s : State) : (setAlarmLine b s).terminalLink = s.terminalLink := rfl
@[simp] theorem setAlarmLine_lastServed (b : Bool) (s : State) : (setAlarmLine b s).lastServed = s.lastServed := rfl
@[simp] theorem setAlarmLine_slots (b : Bool) (s : State) : (setAlarmLine b s).slots = s.slots := rfl
@[simp] theorem setAlarmLine_poolFree (b : Bool) (s : State) : (setAlarmLine b s).poolFree = s.poolFree := rfl
@[simp] theorem setAlarmLine_auditTimer (b : Bool) (s : State) : (setAlarmLine b s).auditTimer = s.auditTimer := rfl
@[simp] theorem setAlarmLine_walk (b : Bool) (s : State) : (setAlarmLine b s).walk = s.walk := rfl
@[simp] theorem setAlarmLine_tanks (b : Bool) (s : State) : (setAlarmLine b s).tanks = s.tanks := rfl
@[simp] theorem setAlarmLine_shipCondition (b : Bool) (s : State) : (setAlarmLine b s).shipCondition = s.shipCondition := rfl
@[simp] theorem setAlarmLine_channels (b : Bool) (s : State) : (setAlarmLine b s).channels = s.channels := rfl
@[simp] theorem setAlarmLine_parcels (b : Bool) (s : State) : (setAlarmLine b s).parcels = s.parcels := rfl
@[simp] theorem setAlarmLine_restored (b : Bool) (s : State) : (setAlarmLine b s).restored = s.restored := rfl
@[simp] theorem setAlarmLine_concurrence (b : Bool) (s : State) : (setAlarmLine b s).concurrence = s.concurrence := rfl
@[simp] theorem setAlarmLine_shipStop (b : Bool) (s : State) : (setAlarmLine b s).shipStop = s.shipStop := rfl
@[simp] theorem setAlarmLine_terminalStop (b : Bool) (s : State) : (setAlarmLine b s).terminalStop = s.terminalStop := rfl
@[simp] theorem setAlarmLine_intervalTimer (b : Bool) (s : State) : (setAlarmLine b s).intervalTimer = s.intervalTimer := rfl
@[simp] theorem setAlarmLine_alarm (b : Bool) (s : State) : (setAlarmLine b s).alarm = b := rfl
@[simp] theorem setAlarmLine_trail (b : Bool) (s : State) : (setAlarmLine b s).trail = s.trail := rfl
@[simp] theorem setAlarmLine_newest (b : Bool) (s : State) : (setAlarmLine b s).newest = s.newest := rfl
@[simp] theorem setAlarmLine_store (b : Bool) (s : State) : (setAlarmLine b s).store = s.store := rfl
@[simp] theorem setAlarmLine_writeQueue (b : Bool) (s : State) : (setAlarmLine b s).writeQueue = s.writeQueue := rfl
@[simp] theorem setAlarmLine_inFlight (b : Bool) (s : State) : (setAlarmLine b s).inFlight = s.inFlight := rfl
@[simp] theorem setAlarmLine_pending (b : Bool) (s : State) : (setAlarmLine b s).pending = s.pending := rfl
@[simp] theorem setAlarmLine_link (b : Bool) (x : Link) (s : State) : (setAlarmLine b s).link x = s.link x := by cases x <;> rfl
@[simp] theorem setAlarmLine_slot (b : Bool) (x : RecordSlot) (s : State) : (setAlarmLine b s).slot x = s.slot x := rfl
@[simp] theorem setAlarmLine_tank (b : Bool) (x : TankId) (s : State) : (setAlarmLine b s).tank x = s.tank x := rfl
@[simp] theorem setAlarmLine_channel (b : Bool) (x : Fin 4) (s : State) : (setAlarmLine b s).channel x = s.channel x := rfl
@[simp] theorem setAlarmLine_parcel (b : Bool) (x : Fin 6) (s : State) : (setAlarmLine b s).parcel x = s.parcel x := rfl
@[simp] theorem setAlarmLine_restoredItems (b : Bool) (x : Fin 6) (s : State) : (setAlarmLine b s).restoredItems x = s.restoredItems x := rfl
@[simp] theorem setAlarmLine_places (b : Bool) (x : StoreObject) (s : State) : (setAlarmLine b s).places x = s.places x := rfl
@[simp] theorem setAlarmLine_stopLine (b : Bool) (x : Link) (s : State) : (setAlarmLine b s).stopLine x = s.stopLine x := by cases x <;> rfl

/-! ### setPowered -/

@[simp] theorem setPowered_unit (b : Bool) (s : State) : (setPowered b s).unit = s.unit := rfl
@[simp] theorem setPowered_resetCause (b : Bool) (s : State) : (setPowered b s).resetCause = s.resetCause := rfl
@[simp] theorem setPowered_powered (b : Bool) (s : State) : (setPowered b s).powered = b := rfl
@[simp] theorem setPowered_load (b : Bool) (s : State) : (setPowered b s).load = s.load := rfl
@[simp] theorem setPowered_clock (b : Bool) (s : State) : (setPowered b s).clock = s.clock := rfl
@[simp] theorem setPowered_shipLink (b : Bool) (s : State) : (setPowered b s).shipLink = s.shipLink := rfl
@[simp] theorem setPowered_terminalLink (b : Bool) (s : State) : (setPowered b s).terminalLink = s.terminalLink := rfl
@[simp] theorem setPowered_lastServed (b : Bool) (s : State) : (setPowered b s).lastServed = s.lastServed := rfl
@[simp] theorem setPowered_slots (b : Bool) (s : State) : (setPowered b s).slots = s.slots := rfl
@[simp] theorem setPowered_poolFree (b : Bool) (s : State) : (setPowered b s).poolFree = s.poolFree := rfl
@[simp] theorem setPowered_auditTimer (b : Bool) (s : State) : (setPowered b s).auditTimer = s.auditTimer := rfl
@[simp] theorem setPowered_walk (b : Bool) (s : State) : (setPowered b s).walk = s.walk := rfl
@[simp] theorem setPowered_tanks (b : Bool) (s : State) : (setPowered b s).tanks = s.tanks := rfl
@[simp] theorem setPowered_shipCondition (b : Bool) (s : State) : (setPowered b s).shipCondition = s.shipCondition := rfl
@[simp] theorem setPowered_channels (b : Bool) (s : State) : (setPowered b s).channels = s.channels := rfl
@[simp] theorem setPowered_parcels (b : Bool) (s : State) : (setPowered b s).parcels = s.parcels := rfl
@[simp] theorem setPowered_restored (b : Bool) (s : State) : (setPowered b s).restored = s.restored := rfl
@[simp] theorem setPowered_concurrence (b : Bool) (s : State) : (setPowered b s).concurrence = s.concurrence := rfl
@[simp] theorem setPowered_shipStop (b : Bool) (s : State) : (setPowered b s).shipStop = s.shipStop := rfl
@[simp] theorem setPowered_terminalStop (b : Bool) (s : State) : (setPowered b s).terminalStop = s.terminalStop := rfl
@[simp] theorem setPowered_intervalTimer (b : Bool) (s : State) : (setPowered b s).intervalTimer = s.intervalTimer := rfl
@[simp] theorem setPowered_alarm (b : Bool) (s : State) : (setPowered b s).alarm = s.alarm := rfl
@[simp] theorem setPowered_trail (b : Bool) (s : State) : (setPowered b s).trail = s.trail := rfl
@[simp] theorem setPowered_newest (b : Bool) (s : State) : (setPowered b s).newest = s.newest := rfl
@[simp] theorem setPowered_store (b : Bool) (s : State) : (setPowered b s).store = s.store := rfl
@[simp] theorem setPowered_writeQueue (b : Bool) (s : State) : (setPowered b s).writeQueue = s.writeQueue := rfl
@[simp] theorem setPowered_inFlight (b : Bool) (s : State) : (setPowered b s).inFlight = s.inFlight := rfl
@[simp] theorem setPowered_pending (b : Bool) (s : State) : (setPowered b s).pending = s.pending := rfl
@[simp] theorem setPowered_link (b : Bool) (x : Link) (s : State) : (setPowered b s).link x = s.link x := by cases x <;> rfl
@[simp] theorem setPowered_slot (b : Bool) (x : RecordSlot) (s : State) : (setPowered b s).slot x = s.slot x := rfl
@[simp] theorem setPowered_tank (b : Bool) (x : TankId) (s : State) : (setPowered b s).tank x = s.tank x := rfl
@[simp] theorem setPowered_channel (b : Bool) (x : Fin 4) (s : State) : (setPowered b s).channel x = s.channel x := rfl
@[simp] theorem setPowered_parcel (b : Bool) (x : Fin 6) (s : State) : (setPowered b s).parcel x = s.parcel x := rfl
@[simp] theorem setPowered_restoredItems (b : Bool) (x : Fin 6) (s : State) : (setPowered b s).restoredItems x = s.restoredItems x := rfl
@[simp] theorem setPowered_places (b : Bool) (x : StoreObject) (s : State) : (setPowered b s).places x = s.places x := rfl
@[simp] theorem setPowered_stopLine (b : Bool) (x : Link) (s : State) : (setPowered b s).stopLine x = s.stopLine x := by cases x <;> rfl

/-! ### setShipCondition -/

@[simp] theorem setShipCondition_unit (c : Option ShipCondition) (s : State) : (setShipCondition c s).unit = s.unit := rfl
@[simp] theorem setShipCondition_resetCause (c : Option ShipCondition) (s : State) : (setShipCondition c s).resetCause = s.resetCause := rfl
@[simp] theorem setShipCondition_powered (c : Option ShipCondition) (s : State) : (setShipCondition c s).powered = s.powered := rfl
@[simp] theorem setShipCondition_load (c : Option ShipCondition) (s : State) : (setShipCondition c s).load = s.load := rfl
@[simp] theorem setShipCondition_clock (c : Option ShipCondition) (s : State) : (setShipCondition c s).clock = s.clock := rfl
@[simp] theorem setShipCondition_shipLink (c : Option ShipCondition) (s : State) : (setShipCondition c s).shipLink = s.shipLink := rfl
@[simp] theorem setShipCondition_terminalLink (c : Option ShipCondition) (s : State) : (setShipCondition c s).terminalLink = s.terminalLink := rfl
@[simp] theorem setShipCondition_lastServed (c : Option ShipCondition) (s : State) : (setShipCondition c s).lastServed = s.lastServed := rfl
@[simp] theorem setShipCondition_slots (c : Option ShipCondition) (s : State) : (setShipCondition c s).slots = s.slots := rfl
@[simp] theorem setShipCondition_poolFree (c : Option ShipCondition) (s : State) : (setShipCondition c s).poolFree = s.poolFree := rfl
@[simp] theorem setShipCondition_auditTimer (c : Option ShipCondition) (s : State) : (setShipCondition c s).auditTimer = s.auditTimer := rfl
@[simp] theorem setShipCondition_walk (c : Option ShipCondition) (s : State) : (setShipCondition c s).walk = s.walk := rfl
@[simp] theorem setShipCondition_tanks (c : Option ShipCondition) (s : State) : (setShipCondition c s).tanks = s.tanks := rfl
@[simp] theorem setShipCondition_shipCondition (c : Option ShipCondition) (s : State) : (setShipCondition c s).shipCondition = c := rfl
@[simp] theorem setShipCondition_channels (c : Option ShipCondition) (s : State) : (setShipCondition c s).channels = s.channels := rfl
@[simp] theorem setShipCondition_parcels (c : Option ShipCondition) (s : State) : (setShipCondition c s).parcels = s.parcels := rfl
@[simp] theorem setShipCondition_restored (c : Option ShipCondition) (s : State) : (setShipCondition c s).restored = s.restored := rfl
@[simp] theorem setShipCondition_concurrence (c : Option ShipCondition) (s : State) : (setShipCondition c s).concurrence = s.concurrence := rfl
@[simp] theorem setShipCondition_shipStop (c : Option ShipCondition) (s : State) : (setShipCondition c s).shipStop = s.shipStop := rfl
@[simp] theorem setShipCondition_terminalStop (c : Option ShipCondition) (s : State) : (setShipCondition c s).terminalStop = s.terminalStop := rfl
@[simp] theorem setShipCondition_intervalTimer (c : Option ShipCondition) (s : State) : (setShipCondition c s).intervalTimer = s.intervalTimer := rfl
@[simp] theorem setShipCondition_alarm (c : Option ShipCondition) (s : State) : (setShipCondition c s).alarm = s.alarm := rfl
@[simp] theorem setShipCondition_trail (c : Option ShipCondition) (s : State) : (setShipCondition c s).trail = s.trail := rfl
@[simp] theorem setShipCondition_newest (c : Option ShipCondition) (s : State) : (setShipCondition c s).newest = s.newest := rfl
@[simp] theorem setShipCondition_store (c : Option ShipCondition) (s : State) : (setShipCondition c s).store = s.store := rfl
@[simp] theorem setShipCondition_writeQueue (c : Option ShipCondition) (s : State) : (setShipCondition c s).writeQueue = s.writeQueue := rfl
@[simp] theorem setShipCondition_inFlight (c : Option ShipCondition) (s : State) : (setShipCondition c s).inFlight = s.inFlight := rfl
@[simp] theorem setShipCondition_pending (c : Option ShipCondition) (s : State) : (setShipCondition c s).pending = s.pending := rfl
@[simp] theorem setShipCondition_link (c : Option ShipCondition) (x : Link) (s : State) : (setShipCondition c s).link x = s.link x := by cases x <;> rfl
@[simp] theorem setShipCondition_slot (c : Option ShipCondition) (x : RecordSlot) (s : State) : (setShipCondition c s).slot x = s.slot x := rfl
@[simp] theorem setShipCondition_tank (c : Option ShipCondition) (x : TankId) (s : State) : (setShipCondition c s).tank x = s.tank x := rfl
@[simp] theorem setShipCondition_channel (c : Option ShipCondition) (x : Fin 4) (s : State) : (setShipCondition c s).channel x = s.channel x := rfl
@[simp] theorem setShipCondition_parcel (c : Option ShipCondition) (x : Fin 6) (s : State) : (setShipCondition c s).parcel x = s.parcel x := rfl
@[simp] theorem setShipCondition_restoredItems (c : Option ShipCondition) (x : Fin 6) (s : State) : (setShipCondition c s).restoredItems x = s.restoredItems x := rfl
@[simp] theorem setShipCondition_places (c : Option ShipCondition) (x : StoreObject) (s : State) : (setShipCondition c s).places x = s.places x := rfl
@[simp] theorem setShipCondition_stopLine (c : Option ShipCondition) (x : Link) (s : State) : (setShipCondition c s).stopLine x = s.stopLine x := by cases x <;> rfl

/-! ### setPendingCommands -/

@[simp] theorem setPendingCommands_unit (cs : List Instr) (s : State) : (setPendingCommands cs s).unit = s.unit := rfl
@[simp] theorem setPendingCommands_resetCause (cs : List Instr) (s : State) : (setPendingCommands cs s).resetCause = s.resetCause := rfl
@[simp] theorem setPendingCommands_powered (cs : List Instr) (s : State) : (setPendingCommands cs s).powered = s.powered := rfl
@[simp] theorem setPendingCommands_load (cs : List Instr) (s : State) : (setPendingCommands cs s).load = s.load := rfl
@[simp] theorem setPendingCommands_clock (cs : List Instr) (s : State) : (setPendingCommands cs s).clock = s.clock := rfl
@[simp] theorem setPendingCommands_shipLink (cs : List Instr) (s : State) : (setPendingCommands cs s).shipLink = s.shipLink := rfl
@[simp] theorem setPendingCommands_terminalLink (cs : List Instr) (s : State) : (setPendingCommands cs s).terminalLink = s.terminalLink := rfl
@[simp] theorem setPendingCommands_lastServed (cs : List Instr) (s : State) : (setPendingCommands cs s).lastServed = s.lastServed := rfl
@[simp] theorem setPendingCommands_slots (cs : List Instr) (s : State) : (setPendingCommands cs s).slots = s.slots := rfl
@[simp] theorem setPendingCommands_poolFree (cs : List Instr) (s : State) : (setPendingCommands cs s).poolFree = s.poolFree := rfl
@[simp] theorem setPendingCommands_auditTimer (cs : List Instr) (s : State) : (setPendingCommands cs s).auditTimer = s.auditTimer := rfl
@[simp] theorem setPendingCommands_walk (cs : List Instr) (s : State) : (setPendingCommands cs s).walk = s.walk := rfl
@[simp] theorem setPendingCommands_tanks (cs : List Instr) (s : State) : (setPendingCommands cs s).tanks = s.tanks := rfl
@[simp] theorem setPendingCommands_shipCondition (cs : List Instr) (s : State) : (setPendingCommands cs s).shipCondition = s.shipCondition := rfl
@[simp] theorem setPendingCommands_channels (cs : List Instr) (s : State) : (setPendingCommands cs s).channels = s.channels := rfl
@[simp] theorem setPendingCommands_parcels (cs : List Instr) (s : State) : (setPendingCommands cs s).parcels = s.parcels := rfl
@[simp] theorem setPendingCommands_restored (cs : List Instr) (s : State) : (setPendingCommands cs s).restored = s.restored := rfl
@[simp] theorem setPendingCommands_concurrence (cs : List Instr) (s : State) : (setPendingCommands cs s).concurrence = s.concurrence := rfl
@[simp] theorem setPendingCommands_shipStop (cs : List Instr) (s : State) : (setPendingCommands cs s).shipStop = s.shipStop := rfl
@[simp] theorem setPendingCommands_terminalStop (cs : List Instr) (s : State) : (setPendingCommands cs s).terminalStop = s.terminalStop := rfl
@[simp] theorem setPendingCommands_intervalTimer (cs : List Instr) (s : State) : (setPendingCommands cs s).intervalTimer = s.intervalTimer := rfl
@[simp] theorem setPendingCommands_alarm (cs : List Instr) (s : State) : (setPendingCommands cs s).alarm = s.alarm := rfl
@[simp] theorem setPendingCommands_trail (cs : List Instr) (s : State) : (setPendingCommands cs s).trail = s.trail := rfl
@[simp] theorem setPendingCommands_newest (cs : List Instr) (s : State) : (setPendingCommands cs s).newest = s.newest := rfl
@[simp] theorem setPendingCommands_store (cs : List Instr) (s : State) : (setPendingCommands cs s).store = s.store := rfl
@[simp] theorem setPendingCommands_writeQueue (cs : List Instr) (s : State) : (setPendingCommands cs s).writeQueue = s.writeQueue := rfl
@[simp] theorem setPendingCommands_inFlight (cs : List Instr) (s : State) : (setPendingCommands cs s).inFlight = s.inFlight := rfl
@[simp] theorem setPendingCommands_pending (cs : List Instr) (s : State) : (setPendingCommands cs s).pending = cs := rfl
@[simp] theorem setPendingCommands_link (cs : List Instr) (x : Link) (s : State) : (setPendingCommands cs s).link x = s.link x := by cases x <;> rfl
@[simp] theorem setPendingCommands_slot (cs : List Instr) (x : RecordSlot) (s : State) : (setPendingCommands cs s).slot x = s.slot x := rfl
@[simp] theorem setPendingCommands_tank (cs : List Instr) (x : TankId) (s : State) : (setPendingCommands cs s).tank x = s.tank x := rfl
@[simp] theorem setPendingCommands_channel (cs : List Instr) (x : Fin 4) (s : State) : (setPendingCommands cs s).channel x = s.channel x := rfl
@[simp] theorem setPendingCommands_parcel (cs : List Instr) (x : Fin 6) (s : State) : (setPendingCommands cs s).parcel x = s.parcel x := rfl
@[simp] theorem setPendingCommands_restoredItems (cs : List Instr) (x : Fin 6) (s : State) : (setPendingCommands cs s).restoredItems x = s.restoredItems x := rfl
@[simp] theorem setPendingCommands_places (cs : List Instr) (x : StoreObject) (s : State) : (setPendingCommands cs s).places x = s.places x := rfl
@[simp] theorem setPendingCommands_stopLine (cs : List Instr) (x : Link) (s : State) : (setPendingCommands cs s).stopLine x = s.stopLine x := by cases x <;> rfl

/-! ### setWalk -/

@[simp] theorem setWalk_unit (w : Option (Fin 60)) (s : State) : (setWalk w s).unit = s.unit := rfl
@[simp] theorem setWalk_resetCause (w : Option (Fin 60)) (s : State) : (setWalk w s).resetCause = s.resetCause := rfl
@[simp] theorem setWalk_powered (w : Option (Fin 60)) (s : State) : (setWalk w s).powered = s.powered := rfl
@[simp] theorem setWalk_load (w : Option (Fin 60)) (s : State) : (setWalk w s).load = s.load := rfl
@[simp] theorem setWalk_clock (w : Option (Fin 60)) (s : State) : (setWalk w s).clock = s.clock := rfl
@[simp] theorem setWalk_shipLink (w : Option (Fin 60)) (s : State) : (setWalk w s).shipLink = s.shipLink := rfl
@[simp] theorem setWalk_terminalLink (w : Option (Fin 60)) (s : State) : (setWalk w s).terminalLink = s.terminalLink := rfl
@[simp] theorem setWalk_lastServed (w : Option (Fin 60)) (s : State) : (setWalk w s).lastServed = s.lastServed := rfl
@[simp] theorem setWalk_slots (w : Option (Fin 60)) (s : State) : (setWalk w s).slots = s.slots := rfl
@[simp] theorem setWalk_poolFree (w : Option (Fin 60)) (s : State) : (setWalk w s).poolFree = s.poolFree := rfl
@[simp] theorem setWalk_auditTimer (w : Option (Fin 60)) (s : State) : (setWalk w s).auditTimer = s.auditTimer := rfl
@[simp] theorem setWalk_walk (w : Option (Fin 60)) (s : State) : (setWalk w s).walk = w := rfl
@[simp] theorem setWalk_tanks (w : Option (Fin 60)) (s : State) : (setWalk w s).tanks = s.tanks := rfl
@[simp] theorem setWalk_shipCondition (w : Option (Fin 60)) (s : State) : (setWalk w s).shipCondition = s.shipCondition := rfl
@[simp] theorem setWalk_channels (w : Option (Fin 60)) (s : State) : (setWalk w s).channels = s.channels := rfl
@[simp] theorem setWalk_parcels (w : Option (Fin 60)) (s : State) : (setWalk w s).parcels = s.parcels := rfl
@[simp] theorem setWalk_restored (w : Option (Fin 60)) (s : State) : (setWalk w s).restored = s.restored := rfl
@[simp] theorem setWalk_concurrence (w : Option (Fin 60)) (s : State) : (setWalk w s).concurrence = s.concurrence := rfl
@[simp] theorem setWalk_shipStop (w : Option (Fin 60)) (s : State) : (setWalk w s).shipStop = s.shipStop := rfl
@[simp] theorem setWalk_terminalStop (w : Option (Fin 60)) (s : State) : (setWalk w s).terminalStop = s.terminalStop := rfl
@[simp] theorem setWalk_intervalTimer (w : Option (Fin 60)) (s : State) : (setWalk w s).intervalTimer = s.intervalTimer := rfl
@[simp] theorem setWalk_alarm (w : Option (Fin 60)) (s : State) : (setWalk w s).alarm = s.alarm := rfl
@[simp] theorem setWalk_trail (w : Option (Fin 60)) (s : State) : (setWalk w s).trail = s.trail := rfl
@[simp] theorem setWalk_newest (w : Option (Fin 60)) (s : State) : (setWalk w s).newest = s.newest := rfl
@[simp] theorem setWalk_store (w : Option (Fin 60)) (s : State) : (setWalk w s).store = s.store := rfl
@[simp] theorem setWalk_writeQueue (w : Option (Fin 60)) (s : State) : (setWalk w s).writeQueue = s.writeQueue := rfl
@[simp] theorem setWalk_inFlight (w : Option (Fin 60)) (s : State) : (setWalk w s).inFlight = s.inFlight := rfl
@[simp] theorem setWalk_pending (w : Option (Fin 60)) (s : State) : (setWalk w s).pending = s.pending := rfl
@[simp] theorem setWalk_link (w : Option (Fin 60)) (x : Link) (s : State) : (setWalk w s).link x = s.link x := by cases x <;> rfl
@[simp] theorem setWalk_slot (w : Option (Fin 60)) (x : RecordSlot) (s : State) : (setWalk w s).slot x = s.slot x := rfl
@[simp] theorem setWalk_tank (w : Option (Fin 60)) (x : TankId) (s : State) : (setWalk w s).tank x = s.tank x := rfl
@[simp] theorem setWalk_channel (w : Option (Fin 60)) (x : Fin 4) (s : State) : (setWalk w s).channel x = s.channel x := rfl
@[simp] theorem setWalk_parcel (w : Option (Fin 60)) (x : Fin 6) (s : State) : (setWalk w s).parcel x = s.parcel x := rfl
@[simp] theorem setWalk_restoredItems (w : Option (Fin 60)) (x : Fin 6) (s : State) : (setWalk w s).restoredItems x = s.restoredItems x := rfl
@[simp] theorem setWalk_places (w : Option (Fin 60)) (x : StoreObject) (s : State) : (setWalk w s).places x = s.places x := rfl
@[simp] theorem setWalk_stopLine (w : Option (Fin 60)) (x : Link) (s : State) : (setWalk w s).stopLine x = s.stopLine x := by cases x <;> rfl

/-! ### setAuditTimer -/

@[simp] theorem setAuditTimer_unit (t : Option Timer) (s : State) : (setAuditTimer t s).unit = s.unit := rfl
@[simp] theorem setAuditTimer_resetCause (t : Option Timer) (s : State) : (setAuditTimer t s).resetCause = s.resetCause := rfl
@[simp] theorem setAuditTimer_powered (t : Option Timer) (s : State) : (setAuditTimer t s).powered = s.powered := rfl
@[simp] theorem setAuditTimer_load (t : Option Timer) (s : State) : (setAuditTimer t s).load = s.load := rfl
@[simp] theorem setAuditTimer_clock (t : Option Timer) (s : State) : (setAuditTimer t s).clock = s.clock := rfl
@[simp] theorem setAuditTimer_shipLink (t : Option Timer) (s : State) : (setAuditTimer t s).shipLink = s.shipLink := rfl
@[simp] theorem setAuditTimer_terminalLink (t : Option Timer) (s : State) : (setAuditTimer t s).terminalLink = s.terminalLink := rfl
@[simp] theorem setAuditTimer_lastServed (t : Option Timer) (s : State) : (setAuditTimer t s).lastServed = s.lastServed := rfl
@[simp] theorem setAuditTimer_slots (t : Option Timer) (s : State) : (setAuditTimer t s).slots = s.slots := rfl
@[simp] theorem setAuditTimer_poolFree (t : Option Timer) (s : State) : (setAuditTimer t s).poolFree = s.poolFree := rfl
@[simp] theorem setAuditTimer_auditTimer (t : Option Timer) (s : State) : (setAuditTimer t s).auditTimer = t := rfl
@[simp] theorem setAuditTimer_walk (t : Option Timer) (s : State) : (setAuditTimer t s).walk = s.walk := rfl
@[simp] theorem setAuditTimer_tanks (t : Option Timer) (s : State) : (setAuditTimer t s).tanks = s.tanks := rfl
@[simp] theorem setAuditTimer_shipCondition (t : Option Timer) (s : State) : (setAuditTimer t s).shipCondition = s.shipCondition := rfl
@[simp] theorem setAuditTimer_channels (t : Option Timer) (s : State) : (setAuditTimer t s).channels = s.channels := rfl
@[simp] theorem setAuditTimer_parcels (t : Option Timer) (s : State) : (setAuditTimer t s).parcels = s.parcels := rfl
@[simp] theorem setAuditTimer_restored (t : Option Timer) (s : State) : (setAuditTimer t s).restored = s.restored := rfl
@[simp] theorem setAuditTimer_concurrence (t : Option Timer) (s : State) : (setAuditTimer t s).concurrence = s.concurrence := rfl
@[simp] theorem setAuditTimer_shipStop (t : Option Timer) (s : State) : (setAuditTimer t s).shipStop = s.shipStop := rfl
@[simp] theorem setAuditTimer_terminalStop (t : Option Timer) (s : State) : (setAuditTimer t s).terminalStop = s.terminalStop := rfl
@[simp] theorem setAuditTimer_intervalTimer (t : Option Timer) (s : State) : (setAuditTimer t s).intervalTimer = s.intervalTimer := rfl
@[simp] theorem setAuditTimer_alarm (t : Option Timer) (s : State) : (setAuditTimer t s).alarm = s.alarm := rfl
@[simp] theorem setAuditTimer_trail (t : Option Timer) (s : State) : (setAuditTimer t s).trail = s.trail := rfl
@[simp] theorem setAuditTimer_newest (t : Option Timer) (s : State) : (setAuditTimer t s).newest = s.newest := rfl
@[simp] theorem setAuditTimer_store (t : Option Timer) (s : State) : (setAuditTimer t s).store = s.store := rfl
@[simp] theorem setAuditTimer_writeQueue (t : Option Timer) (s : State) : (setAuditTimer t s).writeQueue = s.writeQueue := rfl
@[simp] theorem setAuditTimer_inFlight (t : Option Timer) (s : State) : (setAuditTimer t s).inFlight = s.inFlight := rfl
@[simp] theorem setAuditTimer_pending (t : Option Timer) (s : State) : (setAuditTimer t s).pending = s.pending := rfl
@[simp] theorem setAuditTimer_link (t : Option Timer) (x : Link) (s : State) : (setAuditTimer t s).link x = s.link x := by cases x <;> rfl
@[simp] theorem setAuditTimer_slot (t : Option Timer) (x : RecordSlot) (s : State) : (setAuditTimer t s).slot x = s.slot x := rfl
@[simp] theorem setAuditTimer_tank (t : Option Timer) (x : TankId) (s : State) : (setAuditTimer t s).tank x = s.tank x := rfl
@[simp] theorem setAuditTimer_channel (t : Option Timer) (x : Fin 4) (s : State) : (setAuditTimer t s).channel x = s.channel x := rfl
@[simp] theorem setAuditTimer_parcel (t : Option Timer) (x : Fin 6) (s : State) : (setAuditTimer t s).parcel x = s.parcel x := rfl
@[simp] theorem setAuditTimer_restoredItems (t : Option Timer) (x : Fin 6) (s : State) : (setAuditTimer t s).restoredItems x = s.restoredItems x := rfl
@[simp] theorem setAuditTimer_places (t : Option Timer) (x : StoreObject) (s : State) : (setAuditTimer t s).places x = s.places x := rfl
@[simp] theorem setAuditTimer_stopLine (t : Option Timer) (x : Link) (s : State) : (setAuditTimer t s).stopLine x = s.stopLine x := by cases x <;> rfl

/-! ### setLoad -/

@[simp] theorem setLoad_unit (p : LoadPhase) (s : State) : (setLoad p s).unit = s.unit := rfl
@[simp] theorem setLoad_resetCause (p : LoadPhase) (s : State) : (setLoad p s).resetCause = s.resetCause := rfl
@[simp] theorem setLoad_powered (p : LoadPhase) (s : State) : (setLoad p s).powered = s.powered := rfl
@[simp] theorem setLoad_load (p : LoadPhase) (s : State) : (setLoad p s).load = p := rfl
@[simp] theorem setLoad_clock (p : LoadPhase) (s : State) : (setLoad p s).clock = s.clock := rfl
@[simp] theorem setLoad_shipLink (p : LoadPhase) (s : State) : (setLoad p s).shipLink = s.shipLink := rfl
@[simp] theorem setLoad_terminalLink (p : LoadPhase) (s : State) : (setLoad p s).terminalLink = s.terminalLink := rfl
@[simp] theorem setLoad_lastServed (p : LoadPhase) (s : State) : (setLoad p s).lastServed = s.lastServed := rfl
@[simp] theorem setLoad_slots (p : LoadPhase) (s : State) : (setLoad p s).slots = s.slots := rfl
@[simp] theorem setLoad_poolFree (p : LoadPhase) (s : State) : (setLoad p s).poolFree = s.poolFree := rfl
@[simp] theorem setLoad_auditTimer (p : LoadPhase) (s : State) : (setLoad p s).auditTimer = s.auditTimer := rfl
@[simp] theorem setLoad_walk (p : LoadPhase) (s : State) : (setLoad p s).walk = s.walk := rfl
@[simp] theorem setLoad_tanks (p : LoadPhase) (s : State) : (setLoad p s).tanks = s.tanks := rfl
@[simp] theorem setLoad_shipCondition (p : LoadPhase) (s : State) : (setLoad p s).shipCondition = s.shipCondition := rfl
@[simp] theorem setLoad_channels (p : LoadPhase) (s : State) : (setLoad p s).channels = s.channels := rfl
@[simp] theorem setLoad_parcels (p : LoadPhase) (s : State) : (setLoad p s).parcels = s.parcels := rfl
@[simp] theorem setLoad_restored (p : LoadPhase) (s : State) : (setLoad p s).restored = s.restored := rfl
@[simp] theorem setLoad_concurrence (p : LoadPhase) (s : State) : (setLoad p s).concurrence = s.concurrence := rfl
@[simp] theorem setLoad_shipStop (p : LoadPhase) (s : State) : (setLoad p s).shipStop = s.shipStop := rfl
@[simp] theorem setLoad_terminalStop (p : LoadPhase) (s : State) : (setLoad p s).terminalStop = s.terminalStop := rfl
@[simp] theorem setLoad_intervalTimer (p : LoadPhase) (s : State) : (setLoad p s).intervalTimer = s.intervalTimer := rfl
@[simp] theorem setLoad_alarm (p : LoadPhase) (s : State) : (setLoad p s).alarm = s.alarm := rfl
@[simp] theorem setLoad_trail (p : LoadPhase) (s : State) : (setLoad p s).trail = s.trail := rfl
@[simp] theorem setLoad_newest (p : LoadPhase) (s : State) : (setLoad p s).newest = s.newest := rfl
@[simp] theorem setLoad_store (p : LoadPhase) (s : State) : (setLoad p s).store = s.store := rfl
@[simp] theorem setLoad_writeQueue (p : LoadPhase) (s : State) : (setLoad p s).writeQueue = s.writeQueue := rfl
@[simp] theorem setLoad_inFlight (p : LoadPhase) (s : State) : (setLoad p s).inFlight = s.inFlight := rfl
@[simp] theorem setLoad_pending (p : LoadPhase) (s : State) : (setLoad p s).pending = s.pending := rfl
@[simp] theorem setLoad_link (p : LoadPhase) (x : Link) (s : State) : (setLoad p s).link x = s.link x := by cases x <;> rfl
@[simp] theorem setLoad_slot (p : LoadPhase) (x : RecordSlot) (s : State) : (setLoad p s).slot x = s.slot x := rfl
@[simp] theorem setLoad_tank (p : LoadPhase) (x : TankId) (s : State) : (setLoad p s).tank x = s.tank x := rfl
@[simp] theorem setLoad_channel (p : LoadPhase) (x : Fin 4) (s : State) : (setLoad p s).channel x = s.channel x := rfl
@[simp] theorem setLoad_parcel (p : LoadPhase) (x : Fin 6) (s : State) : (setLoad p s).parcel x = s.parcel x := rfl
@[simp] theorem setLoad_restoredItems (p : LoadPhase) (x : Fin 6) (s : State) : (setLoad p s).restoredItems x = s.restoredItems x := rfl
@[simp] theorem setLoad_places (p : LoadPhase) (x : StoreObject) (s : State) : (setLoad p s).places x = s.places x := rfl
@[simp] theorem setLoad_stopLine (p : LoadPhase) (x : Link) (s : State) : (setLoad p s).stopLine x = s.stopLine x := by cases x <;> rfl

/-! ### Reading a part after writing it -/

theorem vector_get_set {α : Type} {n : Nat} (xs : Vector α n) (i j : Fin n) (v : α) :
    (xs.set i v).get j = if j = i then v else xs.get j := by
  have h : (xs.set i.val v i.isLt).get j = (xs.set i.val v i.isLt)[j.val] := rfl
  have h' : xs.get j = xs[j.val] := rfl
  rw [h, h', Vector.getElem_set]
  by_cases e : j = i
  · simp [e]
  · simp [e, Fin.val_ne_of_ne (Ne.symm e)]

theorem slotIndex_inj {j k : RecordSlot} (h : slotIndex j = slotIndex k) : j = k := by
  cases j <;> cases k <;> simp only [slotIndex, Fin.ext_iff, Fin.val_zero, RecordSlot.ship.injEq,
    RecordSlot.shore.injEq, RecordSlot.meter.injEq, RecordSlot.parcel.injEq, reduceCtorEq] at h ⊢ <;> omega

theorem tankIndex_inj {j k : TankId} (h : tankIndex j = tankIndex k) : j = k := by
  cases j <;> cases k <;> simp [tankIndex, Fin.ext_iff] at h ⊢ <;> omega

theorem objectIndex_inj {j k : StoreObject} (h : objectIndex j = objectIndex k) : j = k := by
  cases j with
  | record a =>
    cases k with
    | record b =>
      have : slotIndex a = slotIndex b := by simpa [objectIndex, Fin.ext_iff] using h
      rw [slotIndex_inj this]
    | checkpoint q =>
      have := (slotIndex a).isLt
      simp [objectIndex, Fin.ext_iff] at h; omega
    | linkParameters l =>
      have := (slotIndex a).isLt
      cases l <;> simp [objectIndex, Fin.ext_iff] at h <;> omega
  | checkpoint p =>
    cases k with
    | record b =>
      have := (slotIndex b).isLt
      simp [objectIndex, Fin.ext_iff] at h; omega
    | checkpoint q =>
      simp [objectIndex, Fin.ext_iff] at h ⊢; omega
    | linkParameters l => cases l <;> simp [objectIndex, Fin.ext_iff] at h <;> omega
  | linkParameters l =>
    cases k with
    | record b =>
      have := (slotIndex b).isLt
      cases l <;> simp [objectIndex, Fin.ext_iff] at h <;> omega
    | checkpoint q => cases l <;> simp [objectIndex, Fin.ext_iff] at h <;> omega
    | linkParameters m => revert h; cases l <;> cases m <;> decide

@[simp] theorem otherLink_ne (l : Link) : otherLink l ≠ l := by cases l <;> decide

@[simp] theorem otherLink_otherLink (l : Link) : otherLink (otherLink l) = l := by cases l <;> rfl

@[simp] theorem setLink_link_same (l : Link) (u : LinkUnit) (s : State) : (setLink l u s).link l = u := by
  cases l <;> rfl

theorem setLink_link_ne {l x : Link} (h : x ≠ l) (u : LinkUnit) (s : State) : (setLink l u s).link x = s.link x := by
  cases l <;> cases x <;> simp_all [setLink, State.link]

@[simp] theorem setLink_link_other (l : Link) (u : LinkUnit) (s : State) :
    (setLink l u s).link (otherLink l) = s.link (otherLink l) := by cases l <;> rfl

@[simp] theorem setLink_setLink (l : Link) (u v : LinkUnit) (s : State) :
    setLink l u (setLink l v s) = setLink l u s := by cases l <;> rfl

/-- Writing to a link what it holds changes nothing. -/
theorem setLink_self (l : Link) (s : State) : setLink l (s.link l) s = s := by cases l <;> rfl

@[simp] theorem setStopLine_stopLine_same (l : Link) (b : Bool) (s : State) : (setStopLine l b s).stopLine l = b := by
  cases l <;> rfl

@[simp] theorem setStopLine_stopLine_other (l : Link) (b : Bool) (s : State) :
    (setStopLine l b s).stopLine (otherLink l) = s.stopLine (otherLink l) := by cases l <;> rfl

@[simp] theorem setSlot_slot_same (k : RecordSlot) (v : Slot) (s : State) : (setSlot k v s).slot k = v := by
  simp [setSlot, State.slot, vector_get_set]

theorem setSlot_slot_ne {k x : RecordSlot} (h : x ≠ k) (v : Slot) (s : State) : (setSlot k v s).slot x = s.slot x := by
  have e : slotIndex x ≠ slotIndex k := fun e => h (slotIndex_inj e)
  simp [setSlot, State.slot, vector_get_set, e]

theorem setSlot_slot (k x : RecordSlot) (v : Slot) (s : State) :
    (setSlot k v s).slot x = if x = k then v else s.slot x := by
  by_cases h : x = k
  · subst h; simp
  · simp [h, setSlot_slot_ne h]

@[simp] theorem setTank_tank_same (k : TankId) (v : Tank) (s : State) : (setTank k v s).tank k = v := by
  simp [setTank, State.tank, vector_get_set]

theorem setTank_tank_ne {k x : TankId} (h : x ≠ k) (v : Tank) (s : State) : (setTank k v s).tank x = s.tank x := by
  have e : tankIndex x ≠ tankIndex k := fun e => h (tankIndex_inj e)
  simp [setTank, State.tank, vector_get_set, e]

theorem setTank_tank (k x : TankId) (v : Tank) (s : State) :
    (setTank k v s).tank x = if x = k then v else s.tank x := by
  by_cases h : x = k
  · subst h; simp
  · simp [h, setTank_tank_ne h]

@[simp] theorem setChannel_channel_same (k : Fin 4) (v : Channel) (s : State) : (setChannel k v s).channel k = v := by
  simp [setChannel, State.channel, vector_get_set]

theorem setChannel_channel_ne {k x : Fin 4} (h : x ≠ k) (v : Channel) (s : State) : (setChannel k v s).channel x = s.channel x := by
  have e : x ≠ k := h
  simp [setChannel, State.channel, vector_get_set, e]

theorem setChannel_channel (k x : Fin 4) (v : Channel) (s : State) :
    (setChannel k v s).channel x = if x = k then v else s.channel x := by
  by_cases h : x = k
  · subst h; simp
  · simp [h, setChannel_channel_ne h]

@[simp] theorem setParcel_parcel_same (k : Fin 6) (v : Parcel) (s : State) : (setParcel k v s).parcel k = v := by
  simp [setParcel, State.parcel, vector_get_set]

theorem setParcel_parcel_ne {k x : Fin 6} (h : x ≠ k) (v : Parcel) (s : State) : (setParcel k v s).parcel x = s.parcel x := by
  have e : x ≠ k := h
  simp [setParcel, State.parcel, vector_get_set, e]

theorem setParcel_parcel (k x : Fin 6) (v : Parcel) (s : State) :
    (setParcel k v s).parcel x = if x = k then v else s.parcel x := by
  by_cases h : x = k
  · subst h; simp
  · simp [h, setParcel_parcel_ne h]

@[simp] theorem setRestored_restoredItems_same (k : Fin 6) (v : RestoredItems) (s : State) : (setRestored k v s).restoredItems k = v := by
  simp [setRestored, State.restoredItems, vector_get_set]

theorem setRestored_restoredItems_ne {k x : Fin 6} (h : x ≠ k) (v : RestoredItems) (s : State) : (setRestored k v s).restoredItems x = s.restoredItems x := by
  have e : x ≠ k := h
  simp [setRestored, State.restoredItems, vector_get_set, e]

theorem setRestored_restoredItems (k x : Fin 6) (v : RestoredItems) (s : State) :
    (setRestored k v s).restoredItems x = if x = k then v else s.restoredItems x := by
  by_cases h : x = k
  · subst h; simp
  · simp [h, setRestored_restoredItems_ne h]

@[simp] theorem setPlaces_places_same (k : StoreObject) (v : ObjectPlaces) (s : State) : (setPlaces k v s).places k = v := by
  simp [setPlaces, State.places, vector_get_set]

theorem setPlaces_places_ne {k x : StoreObject} (h : x ≠ k) (v : ObjectPlaces) (s : State) : (setPlaces k v s).places x = s.places x := by
  have e : objectIndex x ≠ objectIndex k := fun e => h (objectIndex_inj e)
  simp [setPlaces, State.places, vector_get_set, e]

theorem setPlaces_places (k x : StoreObject) (v : ObjectPlaces) (s : State) :
    (setPlaces k v s).places x = if x = k then v else s.places x := by
  by_cases h : x = k
  · subst h; simp
  · simp [h, setPlaces_places_ne h]

end Sys2Proof.Machine
end

