-- ==== Sys2Proof/Laws/Values.lean ====
section
/-! SUPPORT. What the comparisons of clock values, the byte forms, the vectors and the numberings of slots come to. -/

namespace Sys2Proof.Machine

open Sys2Proof

/-! ### Clock values -/

theorem exceeds_iff (now start : Clock) (limit : Nat) :
    exceeds now start limit = true ↔ 10 * limit < (now - start).toNat := decide_eq_true_iff

theorem reaches_iff (now start : Clock) (tenths : Nat) :
    reaches now start tenths = true ↔ tenths ≤ (now - start).toNat := decide_eq_true_iff

/-! ### Bytes -/

@[simp] theorem leBytes_length (n v : Nat) : (leBytes n v).length = n := by
  induction n generalizing v with
  | zero => rfl
  | succ n ih => simp [leBytes, ih]

/-! ### Vectors -/

theorem vector_get_replicate {α : Type} {n : Nat} (v : α) (i : Fin n) : (Vector.replicate n v).get i = v := by
  unfold Vector.get; simp

theorem vector_get_ofFn {α : Type} {n : Nat} (f : Fin n → α) (i : Fin n) : (Vector.ofFn f).get i = f i := by
  unfold Vector.get; simp; rfl

/-- Vectors that agree at every place are equal. -/
theorem vector_ext_get {α : Type} {n : Nat} {xs ys : Vector α n} (h : ∀ i : Fin n, xs.get i = ys.get i) : xs = ys := by
  apply Vector.ext
  intro i hi
  exact h ⟨i, hi⟩

/-! ### The numberings of slots and tanks -/

@[simp] theorem slotAt_slotIndex (k : RecordSlot) : slotAt (slotIndex k) = k := by
  cases k with
  | vessel => rfl
  | settings => rfl
  | ship n => revert n; decide
  | shore n => revert n; decide
  | meter n => revert n; decide
  | parcel n => revert n; decide

@[simp] theorem slotIndex_slotAt (i : Fin 60) : slotIndex (slotAt i) = i := by revert i; decide

@[simp] theorem tankAt_tankIndex (t : TankId) : tankAt (tankIndex t) = t := by
  cases t with
  | ship n => revert n; decide
  | shore n => revert n; decide

/-- The place of the walk and of the load at which slot `k` stands. -/
theorem slotAt_eq_iff (i : Fin 60) (k : RecordSlot) : slotAt i = k ↔ i = slotIndex k :=
  ⟨fun h => by rw [← h, slotIndex_slotAt], fun h => by rw [h, slotAt_slotIndex]⟩

@[simp] theorem mem_allSlots (k : RecordSlot) : k ∈ allSlots :=
  List.mem_map.2 ⟨slotIndex k, List.mem_finRange _, slotAt_slotIndex k⟩

end Sys2Proof.Machine
end

