-- ==== Sys2Proof/Laws/Answers.lean ====
section
/-! SUPPORT. What a READ PARCEL body carries beyond the fields of its layout. -/

namespace Sys2Proof.Machine

open Sys2Proof

/-- A slot that is not CLOSED is answered with the fields of R193 alone. -/
theorem readParcelBody_not_closed {s : State} {p : Fin 6} (h : (s.parcel p).state ≠ .closed) (l : Link) (part : Fin 7) :
    s.readParcelBody l p part = s.parcelFields l p part := by
  simp [State.readParcelBody, State.closingReported, h, bytesOr, zeroBytes]

/-- Every item of the closing figures stands whole in the share of its part. -/
theorem closingShare_carries {c : ClosingFigures} {v : ClosingItem × List Byte} (h : v ∈ closingItems c) :
    v.2 <:+: closingShare (closingSplit v.1) c := by
  obtain ⟨before, after, e⟩ := List.append_of_mem h
  simp only [closingShare, e, List.flatMap_append, List.flatMap_cons, if_true]
  exact ⟨_, _, List.append_assoc ..⟩

/-- Whatever the free value, every item has room in the part that carries it. -/
theorem closingSplit_fits : ClosingFits closingSplit := by
  unfold closingSplit
  split
  · assumption
  · decide +kernel

theorem closingItems_size {c : ClosingFigures} {v : ClosingItem × List Byte} (h : v ∈ closingItems c) :
    v.2.length = closingSize v.1 := by
  simp only [closingItems, List.mem_append, List.mem_map, List.mem_cons, List.not_mem_nil,
    or_false] at h
  rcases h with ((rfl | ⟨_, _, rfl⟩) | ⟨_, _, rfl⟩) | rfl | rfl | rfl <;>
    simp [closingSize, clockBytes, leInt, optionInt]

theorem zipIdx_range_sublist (vs : List Int) {n : Nat} (h : vs.length ≤ n) :
    (vs.zipIdx.map Prod.snd).Sublist (List.range n) := by
  rw [List.zipIdx_map_snd, List.range_eq_range']
  exact List.range'_sublist_right.mpr h

/-- The items of closing figures are among those of the longest. -/
theorem closingItems_sublist {c : ClosingFigures} (h1 : c.shipVolumes.length ≤ 32) (h2 : c.shoreVolumes.length ≤ 16) :
    ((closingItems c).map Prod.fst).Sublist longestClosing := by
  have s1 := (zipIdx_range_sublist c.shipVolumes h1).map ClosingItem.shipTank
  have s2 := (zipIdx_range_sublist c.shoreVolumes h2).map ClosingItem.shoreTank
  simp only [List.map_map] at s1 s2
  simp only [closingItems, longestClosing, List.map_append, List.map_map, List.map_cons, List.map_nil]
  exact (((List.Sublist.refl _).append s1).append s2).append (List.Sublist.refl _)

theorem sublist_sum_le {xs ys : List Nat} (h : xs.Sublist ys) : xs.sum ≤ ys.sum := by
  induction h with
  | slnil => exact Nat.le_refl _
  | cons _ _ ih => simp only [List.sum_cons]; omega
  | cons_cons _ _ ih => simp only [List.sum_cons]; omega

/-- The share of a part fits what the longest fields of R193 leave of a response. -/
theorem closingShare_fits {c : ClosingFigures} (h1 : c.shipVolumes.length ≤ 32) (h2 : c.shoreVolumes.length ≤ 16)
    (part : Fin 7) : (closingShare part c).length ≤ closingRoom part := by
  have e : ∀ vs : List (ClosingItem × List Byte), (∀ v ∈ vs, v.2.length = closingSize v.1) →
      (vs.flatMap fun v => if closingSplit v.1 = part then v.2 else []).length =
        (((vs.map Prod.fst).filter fun i => closingSplit i = part).map closingSize).sum := by
    intro vs hv
    induction vs with
    | nil => rfl
    | cons v vs ih =>
      have hs := hv v (List.mem_cons_self ..)
      have hi := ih fun w hw => hv w (List.mem_cons_of_mem _ hw)
      by_cases hp : closingSplit v.1 = part <;> simp [hp, hs, hi]
  rw [closingShare, e _ fun _ => closingItems_size]
  exact Nat.le_trans (sublist_sum_le (((closingItems_sublist h1 h2).filter _).map _)) (closingSplit_fits part)

end Sys2Proof.Machine
end

