-- ==== Sys2Proof/Laws/Frames.lean ====
section
/-! SUPPORT. What each shared operation leaves as it stands: the operation as an update of the fields it writes, and one lemma
per other field. -/

namespace Sys2Proof.Machine

open Sys2Proof

/-! ### appendTrail -/

theorem appendTrail_frame (b : TrailBody) (s : State) :
    appendTrail b s =
      { s with trail := (appendTrail b s).trail, newest := (appendTrail b s).newest } := by
  unfold appendTrail; split <;> rfl

@[simp] theorem appendTrail_unit (b : TrailBody) (s : State) : (appendTrail b s).unit = s.unit := by rw [appendTrail_frame]
@[simp] theorem appendTrail_resetCause (b : TrailBody) (s : State) : (appendTrail b s).resetCause = s.resetCause := by rw [appendTrail_frame]
@[simp] theorem appendTrail_powered (b : TrailBody) (s : State) : (appendTrail b s).powered = s.powered := by rw [appendTrail_frame]
@[simp] theorem appendTrail_load (b : TrailBody) (s : State) : (appendTrail b s).load = s.load := by rw [appendTrail_frame]
@[simp] theorem appendTrail_clock (b : TrailBody) (s : State) : (appendTrail b s).clock = s.clock := by rw [appendTrail_frame]
@[simp] theorem appendTrail_shipLink (b : TrailBody) (s : State) : (appendTrail b s).shipLink = s.shipLink := by rw [appendTrail_frame]
@[simp] theorem appendTrail_terminalLink (b : TrailBody) (s : State) : (appendTrail b s).terminalLink = s.terminalLink := by rw [appendTrail_frame]
@[simp] theorem appendTrail_lastServed (b : TrailBody) (s : State) : (appendTrail b s).lastServed = s.lastServed := by rw [appendTrail_frame]
@[simp] theorem appendTrail_slots (b : TrailBody) (s : State) : (appendTrail b s).slots = s.slots := by rw [appendTrail_frame]
@[simp] theorem appendTrail_poolFree (b : TrailBody) (s : State) : (appendTrail b s).poolFree = s.poolFree := by rw [appendTrail_frame]
@[simp] theorem appendTrail_auditTimer (b : TrailBody) (s : State) : (appendTrail b s).auditTimer = s.auditTimer := by rw [appendTrail_frame]
@[simp] theorem appendTrail_walk (b : TrailBody) (s : State) : (appendTrail b s).walk = s.walk := by rw [appendTrail_frame]
@[simp] theorem appendTrail_tanks (b : TrailBody) (s : State) : (appendTrail b s).tanks = s.tanks := by rw [appendTrail_frame]
@[simp] theorem appendTrail_shipCondition (b : TrailBody) (s : State) : (appendTrail b s).shipCondition = s.shipCondition := by rw [appendTrail_frame]
@[simp] theorem appendTrail_channels (b : TrailBody) (s : State) : (appendTrail b s).channels = s.channels := by rw [appendTrail_frame]
@[simp] theorem appendTrail_parcels (b : TrailBody) (s : State) : (appendTrail b s).parcels = s.parcels := by rw [appendTrail_frame]
@[simp] theorem appendTrail_restored (b : TrailBody) (s : State) : (appendTrail b s).restored = s.restored := by rw [appendTrail_frame]
@[simp] theorem appendTrail_concurrence (b : TrailBody) (s : State) : (appendTrail b s).concurrence = s.concurrence := by rw [appendTrail_frame]
@[simp] theorem appendTrail_shipStop (b : TrailBody) (s : State) : (appendTrail b s).shipStop = s.shipStop := by rw [appendTrail_frame]
@[simp] theorem appendTrail_terminalStop (b : TrailBody) (s : State) : (appendTrail b s).terminalStop = s.terminalStop := by rw [appendTrail_frame]
@[simp] theorem appendTrail_intervalTimer (b : TrailBody) (s : State) : (appendTrail b s).intervalTimer = s.intervalTimer := by rw [appendTrail_frame]
@[simp] theorem appendTrail_alarm (b : TrailBody) (s : State) : (appendTrail b s).alarm = s.alarm := by rw [appendTrail_frame]
@[simp] theorem appendTrail_store (b : TrailBody) (s : State) : (appendTrail b s).store = s.store := by rw [appendTrail_frame]
@[simp] theorem appendTrail_writeQueue (b : TrailBody) (s : State) : (appendTrail b s).writeQueue = s.writeQueue := by rw [appendTrail_frame]
@[simp] theorem appendTrail_inFlight (b : TrailBody) (s : State) : (appendTrail b s).inFlight = s.inFlight := by rw [appendTrail_frame]
@[simp] theorem appendTrail_pending (b : TrailBody) (s : State) : (appendTrail b s).pending = s.pending := by rw [appendTrail_frame]
@[simp] theorem appendTrail_link (b : TrailBody) (x : Link) (s : State) : (appendTrail b s).link x = s.link x := by
  rw [appendTrail_frame]; cases x <;> rfl
@[simp] theorem appendTrail_slot (b : TrailBody) (x : RecordSlot) (s : State) : (appendTrail b s).slot x = s.slot x := by
  rw [appendTrail_frame]; rfl
@[simp] theorem appendTrail_tank (b : TrailBody) (x : TankId) (s : State) : (appendTrail b s).tank x = s.tank x := by
  rw [appendTrail_frame]; rfl
@[simp] theorem appendTrail_channel (b : TrailBody) (x : Fin 4) (s : State) : (appendTrail b s).channel x = s.channel x := by
  rw [appendTrail_frame]; rfl
@[simp] theorem appendTrail_parcel (b : TrailBody) (x : Fin 6) (s : State) : (appendTrail b s).parcel x = s.parcel x := by
  rw [appendTrail_frame]; rfl
@[simp] theorem appendTrail_restoredItems (b : TrailBody) (x : Fin 6) (s : State) : (appendTrail b s).restoredItems x = s.restoredItems x := by
  rw [appendTrail_frame]; rfl
@[simp] theorem appendTrail_places (b : TrailBody) (x : StoreObject) (s : State) : (appendTrail b s).places x = s.places x := by
  rw [appendTrail_frame]; rfl
@[simp] theorem appendTrail_stopLine (b : TrailBody) (x : Link) (s : State) : (appendTrail b s).stopLine x = s.stopLine x := by
  rw [appendTrail_frame]; cases x <;> rfl

/-! ### startWrite -/

theorem startWrite_frame (s : State) :
    startWrite s =
      { s with writeQueue := (startWrite s).writeQueue, inFlight := (startWrite s).inFlight } := by
  unfold startWrite; split <;> rfl

@[simp] theorem startWrite_unit (s : State) : (startWrite s).unit = s.unit := by rw [startWrite_frame]
@[simp] theorem startWrite_resetCause (s : State) : (startWrite s).resetCause = s.resetCause := by rw [startWrite_frame]
@[simp] theorem startWrite_powered (s : State) : (startWrite s).powered = s.powered := by rw [startWrite_frame]
@[simp] theorem startWrite_load (s : State) : (startWrite s).load = s.load := by rw [startWrite_frame]
@[simp] theorem startWrite_clock (s : State) : (startWrite s).clock = s.clock := by rw [startWrite_frame]
@[simp] theorem startWrite_shipLink (s : State) : (startWrite s).shipLink = s.shipLink := by rw [startWrite_frame]
@[simp] theorem startWrite_terminalLink (s : State) : (startWrite s).terminalLink = s.terminalLink := by rw [startWrite_frame]
@[simp] theorem startWrite_lastServed (s : State) : (startWrite s).lastServed = s.lastServed := by rw [startWrite_frame]
@[simp] theorem startWrite_slots (s : State) : (startWrite s).slots = s.slots := by rw [startWrite_frame]
@[simp] theorem startWrite_poolFree (s : State) : (startWrite s).poolFree = s.poolFree := by rw [startWrite_frame]
@[simp] theorem startWrite_auditTimer (s : State) : (startWrite s).auditTimer = s.auditTimer := by rw [startWrite_frame]
@[simp] theorem startWrite_walk (s : State) : (startWrite s).walk = s.walk := by rw [startWrite_frame]
@[simp] theorem startWrite_tanks (s : State) : (startWrite s).tanks = s.tanks := by rw [startWrite_frame]
@[simp] theorem startWrite_shipCondition (s : State) : (startWrite s).shipCondition = s.shipCondition := by rw [startWrite_frame]
@[simp] theorem startWrite_channels (s : State) : (startWrite s).channels = s.channels := by rw [startWrite_frame]
@[simp] theorem startWrite_parcels (s : State) : (startWrite s).parcels = s.parcels := by rw [startWrite_frame]
@[simp] theorem startWrite_restored (s : State) : (startWrite s).restored = s.restored := by rw [startWrite_frame]
@[simp] theorem startWrite_concurrence (s : State) : (startWrite s).concurrence = s.concurrence := by rw [startWrite_frame]
@[simp] theorem startWrite_shipStop (s : State) : (startWrite s).shipStop = s.shipStop := by rw [startWrite_frame]
@[simp] theorem startWrite_terminalStop (s : State) : (startWrite s).terminalStop = s.terminalStop := by rw [startWrite_frame]
@[simp] theorem startWrite_intervalTimer (s : State) : (startWrite s).intervalTimer = s.intervalTimer := by rw [startWrite_frame]
@[simp] theorem startWrite_alarm (s : State) : (startWrite s).alarm = s.alarm := by rw [startWrite_frame]
@[simp] theorem startWrite_trail (s : State) : (startWrite s).trail = s.trail := by rw [startWrite_frame]
@[simp] theorem startWrite_newest (s : State) : (startWrite s).newest = s.newest := by rw [startWrite_frame]
@[simp] theorem startWrite_store (s : State) : (startWrite s).store = s.store := by rw [startWrite_frame]
@[simp] theorem startWrite_pending (s : State) : (startWrite s).pending = s.pending := by rw [startWrite_frame]
@[simp] theorem startWrite_link (x : Link) (s : State) : (startWrite s).link x = s.link x := by
  rw [startWrite_frame]; cases x <;> rfl
@[simp] theorem startWrite_slot (x : RecordSlot) (s : State) : (startWrite s).slot x = s.slot x := by
  rw [startWrite_frame]; rfl
@[simp] theorem startWrite_tank (x : TankId) (s : State) : (startWrite s).tank x = s.tank x := by
  rw [startWrite_frame]; rfl
@[simp] theorem startWrite_channel (x : Fin 4) (s : State) : (startWrite s).channel x = s.channel x := by
  rw [startWrite_frame]; rfl
@[simp] theorem startWrite_parcel (x : Fin 6) (s : State) : (startWrite s).parcel x = s.parcel x := by
  rw [startWrite_frame]; rfl
@[simp] theorem startWrite_restoredItems (x : Fin 6) (s : State) : (startWrite s).restoredItems x = s.restoredItems x := by
  rw [startWrite_frame]; rfl
@[simp] theorem startWrite_places (x : StoreObject) (s : State) : (startWrite s).places x = s.places x := by
  rw [startWrite_frame]; rfl
@[simp] theorem startWrite_stopLine (x : Link) (s : State) : (startWrite s).stopLine x = s.stopLine x := by
  rw [startWrite_frame]; cases x <;> rfl

/-! ### giveWrite -/

theorem giveWrite_frame (o : StoreObject) (c : StoredContent) (s : State) :
    giveWrite o c s =
      { s with writeQueue := (giveWrite o c s).writeQueue, inFlight := (giveWrite o c s).inFlight } := by
  unfold giveWrite; rw [startWrite_frame]

@[simp] theorem giveWrite_unit (o : StoreObject) (c : StoredContent) (s : State) : (giveWrite o c s).unit = s.unit := by rw [giveWrite_frame]
@[simp] theorem giveWrite_resetCause (o : StoreObject) (c : StoredContent) (s : State) : (giveWrite o c s).resetCause = s.resetCause := by rw [giveWrite_frame]
@[simp] theorem giveWrite_powered (o : StoreObject) (c : StoredContent) (s : State) : (giveWrite o c s).powered = s.powered := by rw [giveWrite_frame]
@[simp] theorem giveWrite_load (o : StoreObject) (c : StoredContent) (s : State) : (giveWrite o c s).load = s.load := by rw [giveWrite_frame]
@[simp] theorem giveWrite_clock (o : StoreObject) (c : StoredContent) (s : State) : (giveWrite o c s).clock = s.clock := by rw [giveWrite_frame]
@[simp] theorem giveWrite_shipLink (o : StoreObject) (c : StoredContent) (s : State) : (giveWrite o c s).shipLink = s.shipLink := by rw [giveWrite_frame]
@[simp] theorem giveWrite_terminalLink (o : StoreObject) (c : StoredContent) (s : State) : (giveWrite o c s).terminalLink = s.terminalLink := by rw [giveWrite_frame]
@[simp] theorem giveWrite_lastServed (o : StoreObject) (c : StoredContent) (s : State) : (giveWrite o c s).lastServed = s.lastServed := by rw [giveWrite_frame]
@[simp] theorem giveWrite_slots (o : StoreObject) (c : StoredContent) (s : State) : (giveWrite o c s).slots = s.slots := by rw [giveWrite_frame]
@[simp] theorem giveWrite_poolFree (o : StoreObject) (c : StoredContent) (s : State) : (giveWrite o c s).poolFree = s.poolFree := by rw [giveWrite_frame]
@[simp] theorem giveWrite_auditTimer (o : StoreObject) (c : StoredContent) (s : State) : (giveWrite o c s).auditTimer = s.auditTimer := by rw [giveWrite_frame]
@[simp] theorem giveWrite_walk (o : StoreObject) (c : StoredContent) (s : State) : (giveWrite o c s).walk = s.walk := by rw [giveWrite_frame]
@[simp] theorem giveWrite_tanks (o : StoreObject) (c : StoredContent) (s : State) : (giveWrite o c s).tanks = s.tanks := by rw [giveWrite_frame]
@[simp] theorem giveWrite_shipCondition (o : StoreObject) (c : StoredContent) (s : State) : (giveWrite o c s).shipCondition = s.shipCondition := by rw [giveWrite_frame]
@[simp] theorem giveWrite_channels (o : StoreObject) (c : StoredContent) (s : State) : (giveWrite o c s).channels = s.channels := by rw [giveWrite_frame]
@[simp] theorem giveWrite_parcels (o : StoreObject) (c : StoredContent) (s : State) : (giveWrite o c s).parcels = s.parcels := by rw [giveWrite_frame]
@[simp] theorem giveWrite_restored (o : StoreObject) (c : StoredContent) (s : State) : (giveWrite o c s).restored = s.restored := by rw [giveWrite_frame]
@[simp] theorem giveWrite_concurrence (o : StoreObject) (c : StoredContent) (s : State) : (giveWrite o c s).concurrence = s.concurrence := by rw [giveWrite_frame]
@[simp] theorem giveWrite_shipStop (o : StoreObject) (c : StoredContent) (s : State) : (giveWrite o c s).shipStop = s.shipStop := by rw [giveWrite_frame]
@[simp] theorem giveWrite_terminalStop (o : StoreObject) (c : StoredContent) (s : State) : (giveWrite o c s).terminalStop = s.terminalStop := by rw [giveWrite_frame]
@[simp] theorem giveWrite_intervalTimer (o : StoreObject) (c : StoredContent) (s : State) : (giveWrite o c s).intervalTimer = s.intervalTimer := by rw [giveWrite_frame]
@[simp] theorem giveWrite_alarm (o : StoreObject) (c : StoredContent) (s : State) : (giveWrite o c s).alarm = s.alarm := by rw [giveWrite_frame]
@[simp] theorem giveWrite_trail (o : StoreObject) (c : StoredContent) (s : State) : (giveWrite o c s).trail = s.trail := by rw [giveWrite_frame]
@[simp] theorem giveWrite_newest (o : StoreObject) (c : StoredContent) (s : State) : (giveWrite o c s).newest = s.newest := by rw [giveWrite_frame]
@[simp] theorem giveWrite_store (o : StoreObject) (c : StoredContent) (s : State) : (giveWrite o c s).store = s.store := by rw [giveWrite_frame]
@[simp] theorem giveWrite_pending (o : StoreObject) (c : StoredContent) (s : State) : (giveWrite o c s).pending = s.pending := by rw [giveWrite_frame]
@[simp] theorem giveWrite_link (o : StoreObject) (c : StoredContent) (x : Link) (s : State) : (giveWrite o c s).link x = s.link x := by
  rw [giveWrite_frame]; cases x <;> rfl
@[simp] theorem giveWrite_slot (o : StoreObject) (c : StoredContent) (x : RecordSlot) (s : State) : (giveWrite o c s).slot x = s.slot x := by
  rw [giveWrite_frame]; rfl
@[simp] theorem giveWrite_tank (o : StoreObject) (c : StoredContent) (x : TankId) (s : State) : (giveWrite o c s).tank x = s.tank x := by
  rw [giveWrite_frame]; rfl
@[simp] theorem giveWrite_channel (o : StoreObject) (c : StoredContent) (x : Fin 4) (s : State) : (giveWrite o c s).channel x = s.channel x := by
  rw [giveWrite_frame]; rfl
@[simp] theorem giveWrite_parcel (o : StoreObject) (c : StoredContent) (x : Fin 6) (s : State) : (giveWrite o c s).parcel x = s.parcel x := by
  rw [giveWrite_frame]; rfl
@[simp] theorem giveWrite_restoredItems (o : StoreObject) (c : StoredContent) (x : Fin 6) (s : State) : (giveWrite o c s).restoredItems x = s.restoredItems x := by
  rw [giveWrite_frame]; rfl
@[simp] theorem giveWrite_places (o : StoreObject) (c : StoredContent) (x : StoreObject) (s : State) : (giveWrite o c s).places x = s.places x := by
  rw [giveWrite_frame]; rfl
@[simp] theorem giveWrite_stopLine (o : StoreObject) (c : StoredContent) (x : Link) (s : State) : (giveWrite o c s).stopLine x = s.stopLine x := by
  rw [giveWrite_frame]; cases x <;> rfl

/-! ### silenceTest -/

theorem silenceTest_frame (l : Link) (s : State) :
    silenceTest l s =
      { s with shipLink := (silenceTest l s).shipLink, terminalLink := (silenceTest l s).terminalLink, trail := (silenceTest l s).trail, newest := (silenceTest l s).newest } := by
  simp only [silenceTest]; repeat' split
  all_goals (try rw [appendTrail_frame]) <;> cases l <;> rfl

@[simp] theorem silenceTest_unit (l : Link) (s : State) : (silenceTest l s).unit = s.unit := by rw [silenceTest_frame]
@[simp] theorem silenceTest_resetCause (l : Link) (s : State) : (silenceTest l s).resetCause = s.resetCause := by rw [silenceTest_frame]
@[simp] theorem silenceTest_powered (l : Link) (s : State) : (silenceTest l s).powered = s.powered := by rw [silenceTest_frame]
@[simp] theorem silenceTest_load (l : Link) (s : State) : (silenceTest l s).load = s.load := by rw [silenceTest_frame]
@[simp] theorem silenceTest_clock (l : Link) (s : State) : (silenceTest l s).clock = s.clock := by rw [silenceTest_frame]
@[simp] theorem silenceTest_lastServed (l : Link) (s : State) : (silenceTest l s).lastServed = s.lastServed := by rw [silenceTest_frame]
@[simp] theorem silenceTest_slots (l : Link) (s : State) : (silenceTest l s).slots = s.slots := by rw [silenceTest_frame]
@[simp] theorem silenceTest_poolFree (l : Link) (s : State) : (silenceTest l s).poolFree = s.poolFree := by rw [silenceTest_frame]
@[simp] theorem silenceTest_auditTimer (l : Link) (s : State) : (silenceTest l s).auditTimer = s.auditTimer := by rw [silenceTest_frame]
@[simp] theorem silenceTest_walk (l : Link) (s : State) : (silenceTest l s).walk = s.walk := by rw [silenceTest_frame]
@[simp] theorem silenceTest_tanks (l : Link) (s : State) : (silenceTest l s).tanks = s.tanks := by rw [silenceTest_frame]
@[simp] theorem silenceTest_shipCondition (l : Link) (s : State) : (silenceTest l s).shipCondition = s.shipCondition := by rw [silenceTest_frame]
@[simp] theorem silenceTest_channels (l : Link) (s : State) : (silenceTest l s).channels = s.channels := by rw [silenceTest_frame]
@[simp] theorem silenceTest_parcels (l : Link) (s : State) : (silenceTest l s).parcels = s.parcels := by rw [silenceTest_frame]
@[simp] theorem silenceTest_restored (l : Link) (s : State) : (silenceTest l s).restored = s.restored := by rw [silenceTest_frame]
@[simp] theorem silenceTest_concurrence (l : Link) (s : State) : (silenceTest l s).concurrence = s.concurrence := by rw [silenceTest_frame]
@[simp] theorem silenceTest_shipStop (l : Link) (s : State) : (silenceTest l s).shipStop = s.shipStop := by rw [silenceTest_frame]
@[simp] theorem silenceTest_terminalStop (l : Link) (s : State) : (silenceTest l s).terminalStop = s.terminalStop := by rw [silenceTest_frame]
@[simp] theorem silenceTest_intervalTimer (l : Link) (s : State) : (silenceTest l s).intervalTimer = s.intervalTimer := by rw [silenceTest_frame]
@[simp] theorem silenceTest_alarm (l : Link) (s : State) : (silenceTest l s).alarm = s.alarm := by rw [silenceTest_frame]
@[simp] theorem silenceTest_store (l : Link) (s : State) : (silenceTest l s).store = s.store := by rw [silenceTest_frame]
@[simp] theorem silenceTest_writeQueue (l : Link) (s : State) : (silenceTest l s).writeQueue = s.writeQueue := by rw [silenceTest_frame]
@[simp] theorem silenceTest_inFlight (l : Link) (s : State) : (silenceTest l s).inFlight = s.inFlight := by rw [silenceTest_frame]
@[simp] theorem silenceTest_pending (l : Link) (s : State) : (silenceTest l s).pending = s.pending := by rw [silenceTest_frame]
@[simp] theorem silenceTest_slot (l : Link) (x : RecordSlot) (s : State) : (silenceTest l s).slot x = s.slot x := by
  rw [silenceTest_frame]; rfl
@[simp] theorem silenceTest_tank (l : Link) (x : TankId) (s : State) : (silenceTest l s).tank x = s.tank x := by
  rw [silenceTest_frame]; rfl
@[simp] theorem silenceTest_channel (l : Link) (x : Fin 4) (s : State) : (silenceTest l s).channel x = s.channel x := by
  rw [silenceTest_frame]; rfl
@[simp] theorem silenceTest_parcel (l : Link) (x : Fin 6) (s : State) : (silenceTest l s).parcel x = s.parcel x := by
  rw [silenceTest_frame]; rfl
@[simp] theorem silenceTest_restoredItems (l : Link) (x : Fin 6) (s : State) : (silenceTest l s).restoredItems x = s.restoredItems x := by
  rw [silenceTest_frame]; rfl
@[simp] theorem silenceTest_places (l : Link) (x : StoreObject) (s : State) : (silenceTest l s).places x = s.places x := by
  rw [silenceTest_frame]; rfl
@[simp] theorem silenceTest_stopLine (l : Link) (x : Link) (s : State) : (silenceTest l s).stopLine x = s.stopLine x := by
  rw [silenceTest_frame]; cases x <;> rfl

/-! ### settingsChanged -/

theorem settingsChanged_frame (s : State) :
    settingsChanged s =
      { s with shipLink := (settingsChanged s).shipLink, terminalLink := (settingsChanged s).terminalLink, trail := (settingsChanged s).trail, newest := (settingsChanged s).newest } := by
  unfold settingsChanged; rw [silenceTest_frame .terminal, silenceTest_frame .ship]

@[simp] theorem settingsChanged_unit (s : State) : (settingsChanged s).unit = s.unit := by rw [settingsChanged_frame]
@[simp] theorem settingsChanged_resetCause (s : State) : (settingsChanged s).resetCause = s.resetCause := by rw [settingsChanged_frame]
@[simp] theorem settingsChanged_powered (s : State) : (settingsChanged s).powered = s.powered := by rw [settingsChanged_frame]
@[simp] theorem settingsChanged_load (s : State) : (settingsChanged s).load = s.load := by rw [settingsChanged_frame]
@[simp] theorem settingsChanged_clock (s : State) : (settingsChanged s).clock = s.clock := by rw [settingsChanged_frame]
@[simp] theorem settingsChanged_lastServed (s : State) : (settingsChanged s).lastServed = s.lastServed := by rw [settingsChanged_frame]
@[simp] theorem settingsChanged_slots (s : State) : (settingsChanged s).slots = s.slots := by rw [settingsChanged_frame]
@[simp] theorem settingsChanged_poolFree (s : State) : (settingsChanged s).poolFree = s.poolFree := by rw [settingsChanged_frame]
@[simp] theorem settingsChanged_auditTimer (s : State) : (settingsChanged s).auditTimer = s.auditTimer := by rw [settingsChanged_frame]
@[simp] theorem settingsChanged_walk (s : State) : (settingsChanged s).walk = s.walk := by rw [settingsChanged_frame]
@[simp] theorem settingsChanged_tanks (s : State) : (settingsChanged s).tanks = s.tanks := by rw [settingsChanged_frame]
@[simp] theorem settingsChanged_shipCondition (s : State) : (settingsChanged s).shipCondition = s.shipCondition := by rw [settingsChanged_frame]
@[simp] theorem settingsChanged_channels (s : State) : (settingsChanged s).channels = s.channels := by rw [settingsChanged_frame]
@[simp] theorem settingsChanged_parcels (s : State) : (settingsChanged s).parcels = s.parcels := by rw [settingsChanged_frame]
@[simp] theorem settingsChanged_restored (s : State) : (settingsChanged s).restored = s.restored := by rw [settingsChanged_frame]
@[simp] theorem settingsChanged_concurrence (s : State) : (settingsChanged s).concurrence = s.concurrence := by rw [settingsChanged_frame]
@[simp] theorem settingsChanged_shipStop (s : State) : (settingsChanged s).shipStop = s.shipStop := by rw [settingsChanged_frame]
@[simp] theorem settingsChanged_terminalStop (s : State) : (settingsChanged s).terminalStop = s.terminalStop := by rw [settingsChanged_frame]
@[simp] theorem settingsChanged_intervalTimer (s : State) : (settingsChanged s).intervalTimer = s.intervalTimer := by rw [settingsChanged_frame]
@[simp] theorem settingsChanged_alarm (s : State) : (settingsChanged s).alarm = s.alarm := by rw [settingsChanged_frame]
@[simp] theorem settingsChanged_store (s : State) : (settingsChanged s).store = s.store := by rw [settingsChanged_frame]
@[simp] theorem settingsChanged_writeQueue (s : State) : (settingsChanged s).writeQueue = s.writeQueue := by rw [settingsChanged_frame]
@[simp] theorem settingsChanged_inFlight (s : State) : (settingsChanged s).inFlight = s.inFlight := by rw [settingsChanged_frame]
@[simp] theorem settingsChanged_pending (s : State) : (settingsChanged s).pending = s.pending := by rw [settingsChanged_frame]
@[simp] theorem settingsChanged_slot (x : RecordSlot) (s : State) : (settingsChanged s).slot x = s.slot x := by
  rw [settingsChanged_frame]; rfl
@[simp] theorem settingsChanged_tank (x : TankId) (s : State) : (settingsChanged s).tank x = s.tank x := by
  rw [settingsChanged_frame]; rfl
@[simp] theorem settingsChanged_channel (x : Fin 4) (s : State) : (settingsChanged s).channel x = s.channel x := by
  rw [settingsChanged_frame]; rfl
@[simp] theorem settingsChanged_parcel (x : Fin 6) (s : State) : (settingsChanged s).parcel x = s.parcel x := by
  rw [settingsChanged_frame]; rfl
@[simp] theorem settingsChanged_restoredItems (x : Fin 6) (s : State) : (settingsChanged s).restoredItems x = s.restoredItems x := by
  rw [settingsChanged_frame]; rfl
@[simp] theorem settingsChanged_places (x : StoreObject) (s : State) : (settingsChanged s).places x = s.places x := by
  rw [settingsChanged_frame]; rfl
@[simp] theorem settingsChanged_stopLine (x : Link) (s : State) : (settingsChanged s).stopLine x = s.stopLine x := by
  rw [settingsChanged_frame]; cases x <;> rfl

/-! ### computeTank -/

theorem computeTank_frame (t : TankId) (s : State) :
    computeTank t s =
      { s with tanks := (computeTank t s).tanks } := by
  simp only [computeTank]; repeat' split
  all_goals rfl

@[simp] theorem computeTank_unit (t : TankId) (s : State) : (computeTank t s).unit = s.unit := by rw [computeTank_frame]
@[simp] theorem computeTank_resetCause (t : TankId) (s : State) : (computeTank t s).resetCause = s.resetCause := by rw [computeTank_frame]
@[simp] theorem computeTank_powered (t : TankId) (s : State) : (computeTank t s).powered = s.powered := by rw [computeTank_frame]
@[simp] theorem computeTank_load (t : TankId) (s : State) : (computeTank t s).load = s.load := by rw [computeTank_frame]
@[simp] theorem computeTank_clock (t : TankId) (s : State) : (computeTank t s).clock = s.clock := by rw [computeTank_frame]
@[simp] theorem computeTank_shipLink (t : TankId) (s : State) : (computeTank t s).shipLink = s.shipLink := by rw [computeTank_frame]
@[simp] theorem computeTank_terminalLink (t : TankId) (s : State) : (computeTank t s).terminalLink = s.terminalLink := by rw [computeTank_frame]
@[simp] theorem computeTank_lastServed (t : TankId) (s : State) : (computeTank t s).lastServed = s.lastServed := by rw [computeTank_frame]
@[simp] theorem computeTank_slots (t : TankId) (s : State) : (computeTank t s).slots = s.slots := by rw [computeTank_frame]
@[simp] theorem computeTank_poolFree (t : TankId) (s : State) : (computeTank t s).poolFree = s.poolFree := by rw [computeTank_frame]
@[simp] theorem computeTank_auditTimer (t : TankId) (s : State) : (computeTank t s).auditTimer = s.auditTimer := by rw [computeTank_frame]
@[simp] theorem computeTank_walk (t : TankId) (s : State) : (computeTank t s).walk = s.walk := by rw [computeTank_frame]
@[simp] theorem computeTank_shipCondition (t : TankId) (s : State) : (computeTank t s).shipCondition = s.shipCondition := by rw [computeTank_frame]
@[simp] theorem computeTank_channels (t : TankId) (s : State) : (computeTank t s).channels = s.channels := by rw [computeTank_frame]
@[simp] theorem computeTank_parcels (t : TankId) (s : State) : (computeTank t s).parcels = s.parcels := by rw [computeTank_frame]
@[simp] theorem computeTank_restored (t : TankId) (s : State) : (computeTank t s).restored = s.restored := by rw [computeTank_frame]
@[simp] theorem computeTank_concurrence (t : TankId) (s : State) : (computeTank t s).concurrence = s.concurrence := by rw [computeTank_frame]
@[simp] theorem computeTank_shipStop (t : TankId) (s : State) : (computeTank t s).shipStop = s.shipStop := by rw [computeTank_frame]
@[simp] theorem computeTank_terminalStop (t : TankId) (s : State) : (computeTank t s).terminalStop = s.terminalStop := by rw [computeTank_frame]
@[simp] theorem computeTank_intervalTimer (t : TankId) (s : State) : (computeTank t s).intervalTimer = s.intervalTimer := by rw [computeTank_frame]
@[simp] theorem computeTank_alarm (t : TankId) (s : State) : (computeTank t s).alarm = s.alarm := by rw [computeTank_frame]
@[simp] theorem computeTank_trail (t : TankId) (s : State) : (computeTank t s).trail = s.trail := by rw [computeTank_frame]
@[simp] theorem computeTank_newest (t : TankId) (s : State) : (computeTank t s).newest = s.newest := by rw [computeTank_frame]
@[simp] theorem computeTank_store (t : TankId) (s : State) : (computeTank t s).store = s.store := by rw [computeTank_frame]
@[simp] theorem computeTank_writeQueue (t : TankId) (s : State) : (computeTank t s).writeQueue = s.writeQueue := by rw [computeTank_frame]
@[simp] theorem computeTank_inFlight (t : TankId) (s : State) : (computeTank t s).inFlight = s.inFlight := by rw [computeTank_frame]
@[simp] theorem computeTank_pending (t : TankId) (s : State) : (computeTank t s).pending = s.pending := by rw [computeTank_frame]
@[simp] theorem computeTank_link (t : TankId) (x : Link) (s : State) : (computeTank t s).link x = s.link x := by
  rw [computeTank_frame]; cases x <;> rfl
@[simp] theorem computeTank_slot (t : TankId) (x : RecordSlot) (s : State) : (computeTank t s).slot x = s.slot x := by
  rw [computeTank_frame]; rfl
@[simp] theorem computeTank_channel (t : TankId) (x : Fin 4) (s : State) : (computeTank t s).channel x = s.channel x := by
  rw [computeTank_frame]; rfl
@[simp] theorem computeTank_parcel (t : TankId) (x : Fin 6) (s : State) : (computeTank t s).parcel x = s.parcel x := by
  rw [computeTank_frame]; rfl
@[simp] theorem computeTank_restoredItems (t : TankId) (x : Fin 6) (s : State) : (computeTank t s).restoredItems x = s.restoredItems x := by
  rw [computeTank_frame]; rfl
@[simp] theorem computeTank_places (t : TankId) (x : StoreObject) (s : State) : (computeTank t s).places x = s.places x := by
  rw [computeTank_frame]; rfl
@[simp] theorem computeTank_stopLine (t : TankId) (x : Link) (s : State) : (computeTank t s).stopLine x = s.stopLine x := by
  rw [computeTank_frame]; cases x <;> rfl

/-! ### computeTanks -/

theorem computeTanks_frame (ts : List TankId) (s : State) :
    computeTanks ts s =
      { s with tanks := (computeTanks ts s).tanks } := by
  induction ts generalizing s with
  | nil => rfl
  | cons t ts ih => rw [computeTanks, List.foldl_cons, ← computeTanks, ih, computeTank_frame]

@[simp] theorem computeTanks_unit (ts : List TankId) (s : State) : (computeTanks ts s).unit = s.unit := by rw [computeTanks_frame]
@[simp] theorem computeTanks_resetCause (ts : List TankId) (s : State) : (computeTanks ts s).resetCause = s.resetCause := by rw [computeTanks_frame]
@[simp] theorem computeTanks_powered (ts : List TankId) (s : State) : (computeTanks ts s).powered = s.powered := by rw [computeTanks_frame]
@[simp] theorem computeTanks_load (ts : List TankId) (s : State) : (computeTanks ts s).load = s.load := by rw [computeTanks_frame]
@[simp] theorem computeTanks_clock (ts : List TankId) (s : State) : (computeTanks ts s).clock = s.clock := by rw [computeTanks_frame]
@[simp] theorem computeTanks_shipLink (ts : List TankId) (s : State) : (computeTanks ts s).shipLink = s.shipLink := by rw [computeTanks_frame]
@[simp] theorem computeTanks_terminalLink (ts : List TankId) (s : State) : (computeTanks ts s).terminalLink = s.terminalLink := by rw [computeTanks_frame]
@[simp] theorem computeTanks_lastServed (ts : List TankId) (s : State) : (computeTanks ts s).lastServed = s.lastServed := by rw [computeTanks_frame]
@[simp] theorem computeTanks_slots (ts : List TankId) (s : State) : (computeTanks ts s).slots = s.slots := by rw [computeTanks_frame]
@[simp] theorem computeTanks_poolFree (ts : List TankId) (s : State) : (computeTanks ts s).poolFree = s.poolFree := by rw [computeTanks_frame]
@[simp] theorem computeTanks_auditTimer (ts : List TankId) (s : State) : (computeTanks ts s).auditTimer = s.auditTimer := by rw [computeTanks_frame]
@[simp] theorem computeTanks_walk (ts : List TankId) (s : State) : (computeTanks ts s).walk = s.walk := by rw [computeTanks_frame]
@[simp] theorem computeTanks_shipCondition (ts : List TankId) (s : State) : (computeTanks ts s).shipCondition = s.shipCondition := by rw [computeTanks_frame]
@[simp] theorem computeTanks_channels (ts : List TankId) (s : State) : (computeTanks ts s).channels = s.channels := by rw [computeTanks_frame]
@[simp] theorem computeTanks_parcels (ts : List TankId) (s : State) : (computeTanks ts s).parcels = s.parcels := by rw [computeTanks_frame]
@[simp] theorem computeTanks_restored (ts : List TankId) (s : State) : (computeTanks ts s).restored = s.restored := by rw [computeTanks_frame]
@[simp] theorem computeTanks_concurrence (ts : List TankId) (s : State) : (computeTanks ts s).concurrence = s.concurrence := by rw [computeTanks_frame]
@[simp] theorem computeTanks_shipStop (ts : List TankId) (s : State) : (computeTanks ts s).shipStop = s.shipStop := by rw [computeTanks_frame]
@[simp] theorem computeTanks_terminalStop (ts : List TankId) (s : State) : (computeTanks ts s).terminalStop = s.terminalStop := by rw [computeTanks_frame]
@[simp] theorem computeTanks_intervalTimer (ts : List TankId) (s : State) : (computeTanks ts s).intervalTimer = s.intervalTimer := by rw [computeTanks_frame]
@[simp] theorem computeTanks_alarm (ts : List TankId) (s : State) : (computeTanks ts s).alarm = s.alarm := by rw [computeTanks_frame]
@[simp] theorem computeTanks_trail (ts : List TankId) (s : State) : (computeTanks ts s).trail = s.trail := by rw [computeTanks_frame]
@[simp] theorem computeTanks_newest (ts : List TankId) (s : State) : (computeTanks ts s).newest = s.newest := by rw [computeTanks_frame]
@[simp] theorem computeTanks_store (ts : List TankId) (s : State) : (computeTanks ts s).store = s.store := by rw [computeTanks_frame]
@[simp] theorem computeTanks_writeQueue (ts : List TankId) (s : State) : (computeTanks ts s).writeQueue = s.writeQueue := by rw [computeTanks_frame]
@[simp] theorem computeTanks_inFlight (ts : List TankId) (s : State) : (computeTanks ts s).inFlight = s.inFlight := by rw [computeTanks_frame]
@[simp] theorem computeTanks_pending (ts : List TankId) (s : State) : (computeTanks ts s).pending = s.pending := by rw [computeTanks_frame]
@[simp] theorem computeTanks_link (ts : List TankId) (x : Link) (s : State) : (computeTanks ts s).link x = s.link x := by
  rw [computeTanks_frame]; cases x <;> rfl
@[simp] theorem computeTanks_slot (ts : List TankId) (x : RecordSlot) (s : State) : (computeTanks ts s).slot x = s.slot x := by
  rw [computeTanks_frame]; rfl
@[simp] theorem computeTanks_channel (ts : List TankId) (x : Fin 4) (s : State) : (computeTanks ts s).channel x = s.channel x := by
  rw [computeTanks_frame]; rfl
@[simp] theorem computeTanks_parcel (ts : List TankId) (x : Fin 6) (s : State) : (computeTanks ts s).parcel x = s.parcel x := by
  rw [computeTanks_frame]; rfl
@[simp] theorem computeTanks_restoredItems (ts : List TankId) (x : Fin 6) (s : State) : (computeTanks ts s).restoredItems x = s.restoredItems x := by
  rw [computeTanks_frame]; rfl
@[simp] theorem computeTanks_places (ts : List TankId) (x : StoreObject) (s : State) : (computeTanks ts s).places x = s.places x := by
  rw [computeTanks_frame]; rfl
@[simp] theorem computeTanks_stopLine (ts : List TankId) (x : Link) (s : State) : (computeTanks ts s).stopLine x = s.stopLine x := by
  rw [computeTanks_frame]; cases x <;> rfl

/-! ### holdTanks -/

theorem holdTanks_frame (ts : List TankId) (s : State) :
    holdTanks ts s =
      { s with tanks := (holdTanks ts s).tanks } := by
  induction ts generalizing s with
  | nil => rfl
  | cons t ts ih => rw [holdTanks, List.foldl_cons, ← holdTanks, ih]; rfl

@[simp] theorem holdTanks_unit (ts : List TankId) (s : State) : (holdTanks ts s).unit = s.unit := by rw [holdTanks_frame]
@[simp] theorem holdTanks_resetCause (ts : List TankId) (s : State) : (holdTanks ts s).resetCause = s.resetCause := by rw [holdTanks_frame]
@[simp] theorem holdTanks_powered (ts : List TankId) (s : State) : (holdTanks ts s).powered = s.powered := by rw [holdTanks_frame]
@[simp] theorem holdTanks_load (ts : List TankId) (s : State) : (holdTanks ts s).load = s.load := by rw [holdTanks_frame]
@[simp] theorem holdTanks_clock (ts : List TankId) (s : State) : (holdTanks ts s).clock = s.clock := by rw [holdTanks_frame]
@[simp] theorem holdTanks_shipLink (ts : List TankId) (s : State) : (holdTanks ts s).shipLink = s.shipLink := by rw [holdTanks_frame]
@[simp] theorem holdTanks_terminalLink (ts : List TankId) (s : State) : (holdTanks ts s).terminalLink = s.terminalLink := by rw [holdTanks_frame]
@[simp] theorem holdTanks_lastServed (ts : List TankId) (s : State) : (holdTanks ts s).lastServed = s.lastServed := by rw [holdTanks_frame]
@[simp] theorem holdTanks_slots (ts : List TankId) (s : State) : (holdTanks ts s).slots = s.slots := by rw [holdTanks_frame]
@[simp] theorem holdTanks_poolFree (ts : List TankId) (s : State) : (holdTanks ts s).poolFree = s.poolFree := by rw [holdTanks_frame]
@[simp] theorem holdTanks_auditTimer (ts : List TankId) (s : State) : (holdTanks ts s).auditTimer = s.auditTimer := by rw [holdTanks_frame]
@[simp] theorem holdTanks_walk (ts : List TankId) (s : State) : (holdTanks ts s).walk = s.walk := by rw [holdTanks_frame]
@[simp] theorem holdTanks_shipCondition (ts : List TankId) (s : State) : (holdTanks ts s).shipCondition = s.shipCondition := by rw [holdTanks_frame]
@[simp] theorem holdTanks_channels (ts : List TankId) (s : State) : (holdTanks ts s).channels = s.channels := by rw [holdTanks_frame]
@[simp] theorem holdTanks_parcels (ts : List TankId) (s : State) : (holdTanks ts s).parcels = s.parcels := by rw [holdTanks_frame]
@[simp] theorem holdTanks_restored (ts : List TankId) (s : State) : (holdTanks ts s).restored = s.restored := by rw [holdTanks_frame]
@[simp] theorem holdTanks_concurrence (ts : List TankId) (s : State) : (holdTanks ts s).concurrence = s.concurrence := by rw [holdTanks_frame]
@[simp] theorem holdTanks_shipStop (ts : List TankId) (s : State) : (holdTanks ts s).shipStop = s.shipStop := by rw [holdTanks_frame]
@[simp] theorem holdTanks_terminalStop (ts : List TankId) (s : State) : (holdTanks ts s).terminalStop = s.terminalStop := by rw [holdTanks_frame]
@[simp] theorem holdTanks_intervalTimer (ts : List TankId) (s : State) : (holdTanks ts s).intervalTimer = s.intervalTimer := by rw [holdTanks_frame]
@[simp] theorem holdTanks_alarm (ts : List TankId) (s : State) : (holdTanks ts s).alarm = s.alarm := by rw [holdTanks_frame]
@[simp] theorem holdTanks_trail (ts : List TankId) (s : State) : (holdTanks ts s).trail = s.trail := by rw [holdTanks_frame]
@[simp] theorem holdTanks_newest (ts : List TankId) (s : State) : (holdTanks ts s).newest = s.newest := by rw [holdTanks_frame]
@[simp] theorem holdTanks_store (ts : List TankId) (s : State) : (holdTanks ts s).store = s.store := by rw [holdTanks_frame]
@[simp] theorem holdTanks_writeQueue (ts : List TankId) (s : State) : (holdTanks ts s).writeQueue = s.writeQueue := by rw [holdTanks_frame]
@[simp] theorem holdTanks_inFlight (ts : List TankId) (s : State) : (holdTanks ts s).inFlight = s.inFlight := by rw [holdTanks_frame]
@[simp] theorem holdTanks_pending (ts : List TankId) (s : State) : (holdTanks ts s).pending = s.pending := by rw [holdTanks_frame]
@[simp] theorem holdTanks_link (ts : List TankId) (x : Link) (s : State) : (holdTanks ts s).link x = s.link x := by
  rw [holdTanks_frame]; cases x <;> rfl
@[simp] theorem holdTanks_slot (ts : List TankId) (x : RecordSlot) (s : State) : (holdTanks ts s).slot x = s.slot x := by
  rw [holdTanks_frame]; rfl
@[simp] theorem holdTanks_channel (ts : List TankId) (x : Fin 4) (s : State) : (holdTanks ts s).channel x = s.channel x := by
  rw [holdTanks_frame]; rfl
@[simp] theorem holdTanks_parcel (ts : List TankId) (x : Fin 6) (s : State) : (holdTanks ts s).parcel x = s.parcel x := by
  rw [holdTanks_frame]; rfl
@[simp] theorem holdTanks_restoredItems (ts : List TankId) (x : Fin 6) (s : State) : (holdTanks ts s).restoredItems x = s.restoredItems x := by
  rw [holdTanks_frame]; rfl
@[simp] theorem holdTanks_places (ts : List TankId) (x : StoreObject) (s : State) : (holdTanks ts s).places x = s.places x := by
  rw [holdTanks_frame]; rfl
@[simp] theorem holdTanks_stopLine (ts : List TankId) (x : Link) (s : State) : (holdTanks ts s).stopLine x = s.stopLine x := by
  rw [holdTanks_frame]; cases x <;> rfl

/-! ### clearTanks -/

theorem clearTanks_frame (ts : List TankId) (s : State) :
    clearTanks ts s =
      { s with tanks := (clearTanks ts s).tanks } := by
  induction ts generalizing s with
  | nil => rfl
  | cons t ts ih => rw [clearTanks, List.foldl_cons, ← clearTanks, ih]; rfl

@[simp] theorem clearTanks_unit (ts : List TankId) (s : State) : (clearTanks ts s).unit = s.unit := by rw [clearTanks_frame]
@[simp] theorem clearTanks_resetCause (ts : List TankId) (s : State) : (clearTanks ts s).resetCause = s.resetCause := by rw [clearTanks_frame]
@[simp] theorem clearTanks_powered (ts : List TankId) (s : State) : (clearTanks ts s).powered = s.powered := by rw [clearTanks_frame]
@[simp] theorem clearTanks_load (ts : List TankId) (s : State) : (clearTanks ts s).load = s.load := by rw [clearTanks_frame]
@[simp] theorem clearTanks_clock (ts : List TankId) (s : State) : (clearTanks ts s).clock = s.clock := by rw [clearTanks_frame]
@[simp] theorem clearTanks_shipLink (ts : List TankId) (s : State) : (clearTanks ts s).shipLink = s.shipLink := by rw [clearTanks_frame]
@[simp] theorem clearTanks_terminalLink (ts : List TankId) (s : State) : (clearTanks ts s).terminalLink = s.terminalLink := by rw [clearTanks_frame]
@[simp] theorem clearTanks_lastServed (ts : List TankId) (s : State) : (clearTanks ts s).lastServed = s.lastServed := by rw [clearTanks_frame]
@[simp] theorem clearTanks_slots (ts : List TankId) (s : State) : (clearTanks ts s).slots = s.slots := by rw [clearTanks_frame]
@[simp] theorem clearTanks_poolFree (ts : List TankId) (s : State) : (clearTanks ts s).poolFree = s.poolFree := by rw [clearTanks_frame]
@[simp] theorem clearTanks_auditTimer (ts : List TankId) (s : State) : (clearTanks ts s).auditTimer = s.auditTimer := by rw [clearTanks_frame]
@[simp] theorem clearTanks_walk (ts : List TankId) (s : State) : (clearTanks ts s).walk = s.walk := by rw [clearTanks_frame]
@[simp] theorem clearTanks_shipCondition (ts : List TankId) (s : State) : (clearTanks ts s).shipCondition = s.shipCondition := by rw [clearTanks_frame]
@[simp] theorem clearTanks_channels (ts : List TankId) (s : State) : (clearTanks ts s).channels = s.channels := by rw [clearTanks_frame]
@[simp] theorem clearTanks_parcels (ts : List TankId) (s : State) : (clearTanks ts s).parcels = s.parcels := by rw [clearTanks_frame]
@[simp] theorem clearTanks_restored (ts : List TankId) (s : State) : (clearTanks ts s).restored = s.restored := by rw [clearTanks_frame]
@[simp] theorem clearTanks_concurrence (ts : List TankId) (s : State) : (clearTanks ts s).concurrence = s.concurrence := by rw [clearTanks_frame]
@[simp] theorem clearTanks_shipStop (ts : List TankId) (s : State) : (clearTanks ts s).shipStop = s.shipStop := by rw [clearTanks_frame]
@[simp] theorem clearTanks_terminalStop (ts : List TankId) (s : State) : (clearTanks ts s).terminalStop = s.terminalStop := by rw [clearTanks_frame]
@[simp] theorem clearTanks_intervalTimer (ts : List TankId) (s : State) : (clearTanks ts s).intervalTimer = s.intervalTimer := by rw [clearTanks_frame]
@[simp] theorem clearTanks_alarm (ts : List TankId) (s : State) : (clearTanks ts s).alarm = s.alarm := by rw [clearTanks_frame]
@[simp] theorem clearTanks_trail (ts : List TankId) (s : State) : (clearTanks ts s).trail = s.trail := by rw [clearTanks_frame]
@[simp] theorem clearTanks_newest (ts : List TankId) (s : State) : (clearTanks ts s).newest = s.newest := by rw [clearTanks_frame]
@[simp] theorem clearTanks_store (ts : List TankId) (s : State) : (clearTanks ts s).store = s.store := by rw [clearTanks_frame]
@[simp] theorem clearTanks_writeQueue (ts : List TankId) (s : State) : (clearTanks ts s).writeQueue = s.writeQueue := by rw [clearTanks_frame]
@[simp] theorem clearTanks_inFlight (ts : List TankId) (s : State) : (clearTanks ts s).inFlight = s.inFlight := by rw [clearTanks_frame]
@[simp] theorem clearTanks_pending (ts : List TankId) (s : State) : (clearTanks ts s).pending = s.pending := by rw [clearTanks_frame]
@[simp] theorem clearTanks_link (ts : List TankId) (x : Link) (s : State) : (clearTanks ts s).link x = s.link x := by
  rw [clearTanks_frame]; cases x <;> rfl
@[simp] theorem clearTanks_slot (ts : List TankId) (x : RecordSlot) (s : State) : (clearTanks ts s).slot x = s.slot x := by
  rw [clearTanks_frame]; rfl
@[simp] theorem clearTanks_channel (ts : List TankId) (x : Fin 4) (s : State) : (clearTanks ts s).channel x = s.channel x := by
  rw [clearTanks_frame]; rfl
@[simp] theorem clearTanks_parcel (ts : List TankId) (x : Fin 6) (s : State) : (clearTanks ts s).parcel x = s.parcel x := by
  rw [clearTanks_frame]; rfl
@[simp] theorem clearTanks_restoredItems (ts : List TankId) (x : Fin 6) (s : State) : (clearTanks ts s).restoredItems x = s.restoredItems x := by
  rw [clearTanks_frame]; rfl
@[simp] theorem clearTanks_places (ts : List TankId) (x : StoreObject) (s : State) : (clearTanks ts s).places x = s.places x := by
  rw [clearTanks_frame]; rfl
@[simp] theorem clearTanks_stopLine (ts : List TankId) (x : Link) (s : State) : (clearTanks ts s).stopLine x = s.stopLine x := by
  rw [clearTanks_frame]; cases x <;> rfl

/-! ### intactFrame -/

theorem intactFrame_frame (l : Link) (s : State) :
    intactFrame l s =
      { s with shipLink := (intactFrame l s).shipLink, terminalLink := (intactFrame l s).terminalLink, trail := (intactFrame l s).trail, newest := (intactFrame l s).newest } := by
  simp only [intactFrame]; repeat' split
  all_goals (try rw [appendTrail_frame]) <;> cases l <;> rfl

@[simp] theorem intactFrame_unit (l : Link) (s : State) : (intactFrame l s).unit = s.unit := by rw [intactFrame_frame]
@[simp] theorem intactFrame_resetCause (l : Link) (s : State) : (intactFrame l s).resetCause = s.resetCause := by rw [intactFrame_frame]
@[simp] theorem intactFrame_powered (l : Link) (s : State) : (intactFrame l s).powered = s.powered := by rw [intactFrame_frame]
@[simp] theorem intactFrame_load (l : Link) (s : State) : (intactFrame l s).load = s.load := by rw [intactFrame_frame]
@[simp] theorem intactFrame_clock (l : Link) (s : State) : (intactFrame l s).clock = s.clock := by rw [intactFrame_frame]
@[simp] theorem intactFrame_lastServed (l : Link) (s : State) : (intactFrame l s).lastServed = s.lastServed := by rw [intactFrame_frame]
@[simp] theorem intactFrame_slots (l : Link) (s : State) : (intactFrame l s).slots = s.slots := by rw [intactFrame_frame]
@[simp] theorem intactFrame_poolFree (l : Link) (s : State) : (intactFrame l s).poolFree = s.poolFree := by rw [intactFrame_frame]
@[simp] theorem intactFrame_auditTimer (l : Link) (s : State) : (intactFrame l s).auditTimer = s.auditTimer := by rw [intactFrame_frame]
@[simp] theorem intactFrame_walk (l : Link) (s : State) : (intactFrame l s).walk = s.walk := by rw [intactFrame_frame]
@[simp] theorem intactFrame_tanks (l : Link) (s : State) : (intactFrame l s).tanks = s.tanks := by rw [intactFrame_frame]
@[simp] theorem intactFrame_shipCondition (l : Link) (s : State) : (intactFrame l s).shipCondition = s.shipCondition := by rw [intactFrame_frame]
@[simp] theorem intactFrame_channels (l : Link) (s : State) : (intactFrame l s).channels = s.channels := by rw [intactFrame_frame]
@[simp] theorem intactFrame_parcels (l : Link) (s : State) : (intactFrame l s).parcels = s.parcels := by rw [intactFrame_frame]
@[simp] theorem intactFrame_restored (l : Link) (s : State) : (intactFrame l s).restored = s.restored := by rw [intactFrame_frame]
@[simp] theorem intactFrame_concurrence (l : Link) (s : State) : (intactFrame l s).concurrence = s.concurrence := by rw [intactFrame_frame]
@[simp] theorem intactFrame_shipStop (l : Link) (s : State) : (intactFrame l s).shipStop = s.shipStop := by rw [intactFrame_frame]
@[simp] theorem intactFrame_terminalStop (l : Link) (s : State) : (intactFrame l s).terminalStop = s.terminalStop := by rw [intactFrame_frame]
@[simp] theorem intactFrame_intervalTimer (l : Link) (s : State) : (intactFrame l s).intervalTimer = s.intervalTimer := by rw [intactFrame_frame]
@[simp] theorem intactFrame_alarm (l : Link) (s : State) : (intactFrame l s).alarm = s.alarm := by rw [intactFrame_frame]
@[simp] theorem intactFrame_store (l : Link) (s : State) : (intactFrame l s).store = s.store := by rw [intactFrame_frame]
@[simp] theorem intactFrame_writeQueue (l : Link) (s : State) : (intactFrame l s).writeQueue = s.writeQueue := by rw [intactFrame_frame]
@[simp] theorem intactFrame_inFlight (l : Link) (s : State) : (intactFrame l s).inFlight = s.inFlight := by rw [intactFrame_frame]
@[simp] theorem intactFrame_pending (l : Link) (s : State) : (intactFrame l s).pending = s.pending := by rw [intactFrame_frame]
@[simp] theorem intactFrame_slot (l : Link) (x : RecordSlot) (s : State) : (intactFrame l s).slot x = s.slot x := by
  rw [intactFrame_frame]; rfl
@[simp] theorem intactFrame_tank (l : Link) (x : TankId) (s : State) : (intactFrame l s).tank x = s.tank x := by
  rw [intactFrame_frame]; rfl
@[simp] theorem intactFrame_channel (l : Link) (x : Fin 4) (s : State) : (intactFrame l s).channel x = s.channel x := by
  rw [intactFrame_frame]; rfl
@[simp] theorem intactFrame_parcel (l : Link) (x : Fin 6) (s : State) : (intactFrame l s).parcel x = s.parcel x := by
  rw [intactFrame_frame]; rfl
@[simp] theorem intactFrame_restoredItems (l : Link) (x : Fin 6) (s : State) : (intactFrame l s).restoredItems x = s.restoredItems x := by
  rw [intactFrame_frame]; rfl
@[simp] theorem intactFrame_places (l : Link) (x : StoreObject) (s : State) : (intactFrame l s).places x = s.places x := by
  rw [intactFrame_frame]; rfl
@[simp] theorem intactFrame_stopLine (l : Link) (x : Link) (s : State) : (intactFrame l s).stopLine x = s.stopLine x := by
  rw [intactFrame_frame]; cases x <;> rfl

/-! ### takeFrame -/

theorem takeFrame_frame (l : Link) (counted : Bool) (s : State) :
    takeFrame l counted s =
      { s with shipLink := (takeFrame l counted s).shipLink, terminalLink := (takeFrame l counted s).terminalLink, trail := (takeFrame l counted s).trail, newest := (takeFrame l counted s).newest } := by
  unfold takeFrame advanceCounter; split
  · rw [intactFrame_frame]; cases l <;> rfl
  · rw [intactFrame_frame]

@[simp] theorem takeFrame_unit (l : Link) (counted : Bool) (s : State) : (takeFrame l counted s).unit = s.unit := by rw [takeFrame_frame]
@[simp] theorem takeFrame_resetCause (l : Link) (counted : Bool) (s : State) : (takeFrame l counted s).resetCause = s.resetCause := by rw [takeFrame_frame]
@[simp] theorem takeFrame_powered (l : Link) (counted : Bool) (s : State) : (takeFrame l counted s).powered = s.powered := by rw [takeFrame_frame]
@[simp] theorem takeFrame_load (l : Link) (counted : Bool) (s : State) : (takeFrame l counted s).load = s.load := by rw [takeFrame_frame]
@[simp] theorem takeFrame_clock (l : Link) (counted : Bool) (s : State) : (takeFrame l counted s).clock = s.clock := by rw [takeFrame_frame]
@[simp] theorem takeFrame_lastServed (l : Link) (counted : Bool) (s : State) : (takeFrame l counted s).lastServed = s.lastServed := by rw [takeFrame_frame]
@[simp] theorem takeFrame_slots (l : Link) (counted : Bool) (s : State) : (takeFrame l counted s).slots = s.slots := by rw [takeFrame_frame]
@[simp] theorem takeFrame_poolFree (l : Link) (counted : Bool) (s : State) : (takeFrame l counted s).poolFree = s.poolFree := by rw [takeFrame_frame]
@[simp] theorem takeFrame_auditTimer (l : Link) (counted : Bool) (s : State) : (takeFrame l counted s).auditTimer = s.auditTimer := by rw [takeFrame_frame]
@[simp] theorem takeFrame_walk (l : Link) (counted : Bool) (s : State) : (takeFrame l counted s).walk = s.walk := by rw [takeFrame_frame]
@[simp] theorem takeFrame_tanks (l : Link) (counted : Bool) (s : State) : (takeFrame l counted s).tanks = s.tanks := by rw [takeFrame_frame]
@[simp] theorem takeFrame_shipCondition (l : Link) (counted : Bool) (s : State) : (takeFrame l counted s).shipCondition = s.shipCondition := by rw [takeFrame_frame]
@[simp] theorem takeFrame_channels (l : Link) (counted : Bool) (s : State) : (takeFrame l counted s).channels = s.channels := by rw [takeFrame_frame]
@[simp] theorem takeFrame_parcels (l : Link) (counted : Bool) (s : State) : (takeFrame l counted s).parcels = s.parcels := by rw [takeFrame_frame]
@[simp] theorem takeFrame_restored (l : Link) (counted : Bool) (s : State) : (takeFrame l counted s).restored = s.restored := by rw [takeFrame_frame]
@[simp] theorem takeFrame_concurrence (l : Link) (counted : Bool) (s : State) : (takeFrame l counted s).concurrence = s.concurrence := by rw [takeFrame_frame]
@[simp] theorem takeFrame_shipStop (l : Link) (counted : Bool) (s : State) : (takeFrame l counted s).shipStop = s.shipStop := by rw [takeFrame_frame]
@[simp] theorem takeFrame_terminalStop (l : Link) (counted : Bool) (s : State) : (takeFrame l counted s).terminalStop = s.terminalStop := by rw [takeFrame_frame]
@[simp] theorem takeFrame_intervalTimer (l : Link) (counted : Bool) (s : State) : (takeFrame l counted s).intervalTimer = s.intervalTimer := by rw [takeFrame_frame]
@[simp] theorem takeFrame_alarm (l : Link) (counted : Bool) (s : State) : (takeFrame l counted s).alarm = s.alarm := by rw [takeFrame_frame]
@[simp] theorem takeFrame_store (l : Link) (counted : Bool) (s : State) : (takeFrame l counted s).store = s.store := by rw [takeFrame_frame]
@[simp] theorem takeFrame_writeQueue (l : Link) (counted : Bool) (s : State) : (takeFrame l counted s).writeQueue = s.writeQueue := by rw [takeFrame_frame]
@[simp] theorem takeFrame_inFlight (l : Link) (counted : Bool) (s : State) : (takeFrame l counted s).inFlight = s.inFlight := by rw [takeFrame_frame]
@[simp] theorem takeFrame_pending (l : Link) (counted : Bool) (s : State) : (takeFrame l counted s).pending = s.pending := by rw [takeFrame_frame]
@[simp] theorem takeFrame_slot (l : Link) (counted : Bool) (x : RecordSlot) (s : State) : (takeFrame l counted s).slot x = s.slot x := by
  rw [takeFrame_frame]; rfl
@[simp] theorem takeFrame_tank (l : Link) (counted : Bool) (x : TankId) (s : State) : (takeFrame l counted s).tank x = s.tank x := by
  rw [takeFrame_frame]; rfl
@[simp] theorem takeFrame_channel (l : Link) (counted : Bool) (x : Fin 4) (s : State) : (takeFrame l counted s).channel x = s.channel x := by
  rw [takeFrame_frame]; rfl
@[simp] theorem takeFrame_parcel (l : Link) (counted : Bool) (x : Fin 6) (s : State) : (takeFrame l counted s).parcel x = s.parcel x := by
  rw [takeFrame_frame]; rfl
@[simp] theorem takeFrame_restoredItems (l : Link) (counted : Bool) (x : Fin 6) (s : State) : (takeFrame l counted s).restoredItems x = s.restoredItems x := by
  rw [takeFrame_frame]; rfl
@[simp] theorem takeFrame_places (l : Link) (counted : Bool) (x : StoreObject) (s : State) : (takeFrame l counted s).places x = s.places x := by
  rw [takeFrame_frame]; rfl
@[simp] theorem takeFrame_stopLine (l : Link) (counted : Bool) (x : Link) (s : State) : (takeFrame l counted s).stopLine x = s.stopLine x := by
  rw [takeFrame_frame]; cases x <;> rfl

/-! ### setOutcome -/

theorem setOutcome_frame (k : RecordSlot) (o : LastOutcome) (s : State) :
    setOutcome k o s =
      { s with slots := (setOutcome k o s).slots, trail := (setOutcome k o s).trail, newest := (setOutcome k o s).newest } := by
  simp only [setOutcome]; split
  · rfl
  all_goals rw [appendTrail_frame]; rfl

@[simp] theorem setOutcome_unit (k : RecordSlot) (o : LastOutcome) (s : State) : (setOutcome k o s).unit = s.unit := by rw [setOutcome_frame]
@[simp] theorem setOutcome_resetCause (k : RecordSlot) (o : LastOutcome) (s : State) : (setOutcome k o s).resetCause = s.resetCause := by rw [setOutcome_frame]
@[simp] theorem setOutcome_powered (k : RecordSlot) (o : LastOutcome) (s : State) : (setOutcome k o s).powered = s.powered := by rw [setOutcome_frame]
@[simp] theorem setOutcome_load (k : RecordSlot) (o : LastOutcome) (s : State) : (setOutcome k o s).load = s.load := by rw [setOutcome_frame]
@[simp] theorem setOutcome_clock (k : RecordSlot) (o : LastOutcome) (s : State) : (setOutcome k o s).clock = s.clock := by rw [setOutcome_frame]
@[simp] theorem setOutcome_shipLink (k : RecordSlot) (o : LastOutcome) (s : State) : (setOutcome k o s).shipLink = s.shipLink := by rw [setOutcome_frame]
@[simp] theorem setOutcome_terminalLink (k : RecordSlot) (o : LastOutcome) (s : State) : (setOutcome k o s).terminalLink = s.terminalLink := by rw [setOutcome_frame]
@[simp] theorem setOutcome_lastServed (k : RecordSlot) (o : LastOutcome) (s : State) : (setOutcome k o s).lastServed = s.lastServed := by rw [setOutcome_frame]
@[simp] theorem setOutcome_poolFree (k : RecordSlot) (o : LastOutcome) (s : State) : (setOutcome k o s).poolFree = s.poolFree := by rw [setOutcome_frame]
@[simp] theorem setOutcome_auditTimer (k : RecordSlot) (o : LastOutcome) (s : State) : (setOutcome k o s).auditTimer = s.auditTimer := by rw [setOutcome_frame]
@[simp] theorem setOutcome_walk (k : RecordSlot) (o : LastOutcome) (s : State) : (setOutcome k o s).walk = s.walk := by rw [setOutcome_frame]
@[simp] theorem setOutcome_tanks (k : RecordSlot) (o : LastOutcome) (s : State) : (setOutcome k o s).tanks = s.tanks := by rw [setOutcome_frame]
@[simp] theorem setOutcome_shipCondition (k : RecordSlot) (o : LastOutcome) (s : State) : (setOutcome k o s).shipCondition = s.shipCondition := by rw [setOutcome_frame]
@[simp] theorem setOutcome_channels (k : RecordSlot) (o : LastOutcome) (s : State) : (setOutcome k o s).channels = s.channels := by rw [setOutcome_frame]
@[simp] theorem setOutcome_parcels (k : RecordSlot) (o : LastOutcome) (s : State) : (setOutcome k o s).parcels = s.parcels := by rw [setOutcome_frame]
@[simp] theorem setOutcome_restored (k : RecordSlot) (o : LastOutcome) (s : State) : (setOutcome k o s).restored = s.restored := by rw [setOutcome_frame]
@[simp] theorem setOutcome_concurrence (k : RecordSlot) (o : LastOutcome) (s : State) : (setOutcome k o s).concurrence = s.concurrence := by rw [setOutcome_frame]
@[simp] theorem setOutcome_shipStop (k : RecordSlot) (o : LastOutcome) (s : State) : (setOutcome k o s).shipStop = s.shipStop := by rw [setOutcome_frame]
@[simp] theorem setOutcome_terminalStop (k : RecordSlot) (o : LastOutcome) (s : State) : (setOutcome k o s).terminalStop = s.terminalStop := by rw [setOutcome_frame]
@[simp] theorem setOutcome_intervalTimer (k : RecordSlot) (o : LastOutcome) (s : State) : (setOutcome k o s).intervalTimer = s.intervalTimer := by rw [setOutcome_frame]
@[simp] theorem setOutcome_alarm (k : RecordSlot) (o : LastOutcome) (s : State) : (setOutcome k o s).alarm = s.alarm := by rw [setOutcome_frame]
@[simp] theorem setOutcome_store (k : RecordSlot) (o : LastOutcome) (s : State) : (setOutcome k o s).store = s.store := by rw [setOutcome_frame]
@[simp] theorem setOutcome_writeQueue (k : RecordSlot) (o : LastOutcome) (s : State) : (setOutcome k o s).writeQueue = s.writeQueue := by rw [setOutcome_frame]
@[simp] theorem setOutcome_inFlight (k : RecordSlot) (o : LastOutcome) (s : State) : (setOutcome k o s).inFlight = s.inFlight := by rw [setOutcome_frame]
@[simp] theorem setOutcome_pending (k : RecordSlot) (o : LastOutcome) (s : State) : (setOutcome k o s).pending = s.pending := by rw [setOutcome_frame]
@[simp] theorem setOutcome_link (k : RecordSlot) (o : LastOutcome) (x : Link) (s : State) : (setOutcome k o s).link x = s.link x := by
  rw [setOutcome_frame]; cases x <;> rfl
@[simp] theorem setOutcome_tank (k : RecordSlot) (o : LastOutcome) (x : TankId) (s : State) : (setOutcome k o s).tank x = s.tank x := by
  rw [setOutcome_frame]; rfl
@[simp] theorem setOutcome_channel (k : RecordSlot) (o : LastOutcome) (x : Fin 4) (s : State) : (setOutcome k o s).channel x = s.channel x := by
  rw [setOutcome_frame]; rfl
@[simp] theorem setOutcome_parcel (k : RecordSlot) (o : LastOutcome) (x : Fin 6) (s : State) : (setOutcome k o s).parcel x = s.parcel x := by
  rw [setOutcome_frame]; rfl
@[simp] theorem setOutcome_restoredItems (k : RecordSlot) (o : LastOutcome) (x : Fin 6) (s : State) : (setOutcome k o s).restoredItems x = s.restoredItems x := by
  rw [setOutcome_frame]; rfl
@[simp] theorem setOutcome_places (k : RecordSlot) (o : LastOutcome) (x : StoreObject) (s : State) : (setOutcome k o s).places x = s.places x := by
  rw [setOutcome_frame]; rfl
@[simp] theorem setOutcome_stopLine (k : RecordSlot) (o : LastOutcome) (x : Link) (s : State) : (setOutcome k o s).stopLine x = s.stopLine x := by
  rw [setOutcome_frame]; cases x <;> rfl

/-! ### announce -/

theorem announce_frame (p : Fin 6) (d : StateDetail) (s : State) :
    announce p d s =
      { s with concurrence := (announce p d s).concurrence, trail := (announce p d s).trail, newest := (announce p d s).newest, writeQueue := (announce p d s).writeQueue, inFlight := (announce p d s).inFlight, alarm := (announce p d s).alarm } := by
  unfold announce setAlarm giveCheckpoint; rw [giveWrite_frame, appendTrail_frame]; rfl

@[simp] theorem announce_unit (p : Fin 6) (d : StateDetail) (s : State) : (announce p d s).unit = s.unit := by rw [announce_frame]
@[simp] theorem announce_resetCause (p : Fin 6) (d : StateDetail) (s : State) : (announce p d s).resetCause = s.resetCause := by rw [announce_frame]
@[simp] theorem announce_powered (p : Fin 6) (d : StateDetail) (s : State) : (announce p d s).powered = s.powered := by rw [announce_frame]
@[simp] theorem announce_load (p : Fin 6) (d : StateDetail) (s : State) : (announce p d s).load = s.load := by rw [announce_frame]
@[simp] theorem announce_clock (p : Fin 6) (d : StateDetail) (s : State) : (announce p d s).clock = s.clock := by rw [announce_frame]
@[simp] theorem announce_shipLink (p : Fin 6) (d : StateDetail) (s : State) : (announce p d s).shipLink = s.shipLink := by rw [announce_frame]
@[simp] theorem announce_terminalLink (p : Fin 6) (d : StateDetail) (s : State) : (announce p d s).terminalLink = s.terminalLink := by rw [announce_frame]
@[simp] theorem announce_lastServed (p : Fin 6) (d : StateDetail) (s : State) : (announce p d s).lastServed = s.lastServed := by rw [announce_frame]
@[simp] theorem announce_slots (p : Fin 6) (d : StateDetail) (s : State) : (announce p d s).slots = s.slots := by rw [announce_frame]
@[simp] theorem announce_poolFree (p : Fin 6) (d : StateDetail) (s : State) : (announce p d s).poolFree = s.poolFree := by rw [announce_frame]
@[simp] theorem announce_auditTimer (p : Fin 6) (d : StateDetail) (s : State) : (announce p d s).auditTimer = s.auditTimer := by rw [announce_frame]
@[simp] theorem announce_walk (p : Fin 6) (d : StateDetail) (s : State) : (announce p d s).walk = s.walk := by rw [announce_frame]
@[simp] theorem announce_tanks (p : Fin 6) (d : StateDetail) (s : State) : (announce p d s).tanks = s.tanks := by rw [announce_frame]
@[simp] theorem announce_shipCondition (p : Fin 6) (d : StateDetail) (s : State) : (announce p d s).shipCondition = s.shipCondition := by rw [announce_frame]
@[simp] theorem announce_channels (p : Fin 6) (d : StateDetail) (s : State) : (announce p d s).channels = s.channels := by rw [announce_frame]
@[simp] theorem announce_parcels (p : Fin 6) (d : StateDetail) (s : State) : (announce p d s).parcels = s.parcels := by rw [announce_frame]
@[simp] theorem announce_restored (p : Fin 6) (d : StateDetail) (s : State) : (announce p d s).restored = s.restored := by rw [announce_frame]
@[simp] theorem announce_shipStop (p : Fin 6) (d : StateDetail) (s : State) : (announce p d s).shipStop = s.shipStop := by rw [announce_frame]
@[simp] theorem announce_terminalStop (p : Fin 6) (d : StateDetail) (s : State) : (announce p d s).terminalStop = s.terminalStop := by rw [announce_frame]
@[simp] theorem announce_intervalTimer (p : Fin 6) (d : StateDetail) (s : State) : (announce p d s).intervalTimer = s.intervalTimer := by rw [announce_frame]
@[simp] theorem announce_store (p : Fin 6) (d : StateDetail) (s : State) : (announce p d s).store = s.store := by rw [announce_frame]
@[simp] theorem announce_pending (p : Fin 6) (d : StateDetail) (s : State) : (announce p d s).pending = s.pending := by rw [announce_frame]
@[simp] theorem announce_link (p : Fin 6) (d : StateDetail) (x : Link) (s : State) : (announce p d s).link x = s.link x := by
  rw [announce_frame]; cases x <;> rfl
@[simp] theorem announce_slot (p : Fin 6) (d : StateDetail) (x : RecordSlot) (s : State) : (announce p d s).slot x = s.slot x := by
  rw [announce_frame]; rfl
@[simp] theorem announce_tank (p : Fin 6) (d : StateDetail) (x : TankId) (s : State) : (announce p d s).tank x = s.tank x := by
  rw [announce_frame]; rfl
@[simp] theorem announce_channel (p : Fin 6) (d : StateDetail) (x : Fin 4) (s : State) : (announce p d s).channel x = s.channel x := by
  rw [announce_frame]; rfl
@[simp] theorem announce_parcel (p : Fin 6) (d : StateDetail) (x : Fin 6) (s : State) : (announce p d s).parcel x = s.parcel x := by
  rw [announce_frame]; rfl
@[simp] theorem announce_restoredItems (p : Fin 6) (d : StateDetail) (x : Fin 6) (s : State) : (announce p d s).restoredItems x = s.restoredItems x := by
  rw [announce_frame]; rfl
@[simp] theorem announce_places (p : Fin 6) (d : StateDetail) (x : StoreObject) (s : State) : (announce p d s).places x = s.places x := by
  rw [announce_frame]; rfl
@[simp] theorem announce_stopLine (p : Fin 6) (d : StateDetail) (x : Link) (s : State) : (announce p d s).stopLine x = s.stopLine x := by
  rw [announce_frame]; cases x <;> rfl

/-! ### announceFree -/

theorem announceFree_frame (p : Fin 6) (unilateral : Bool) (s : State) :
    announceFree p unilateral s =
      { s with concurrence := (announceFree p unilateral s).concurrence, trail := (announceFree p unilateral s).trail, newest := (announceFree p unilateral s).newest } := by
  unfold announceFree; rw [appendTrail_frame]; rfl

@[simp] theorem announceFree_unit (p : Fin 6) (unilateral : Bool) (s : State) : (announceFree p unilateral s).unit = s.unit := by rw [announceFree_frame]
@[simp] theorem announceFree_resetCause (p : Fin 6) (unilateral : Bool) (s : State) : (announceFree p unilateral s).resetCause = s.resetCause := by rw [announceFree_frame]
@[simp] theorem announceFree_powered (p : Fin 6) (unilateral : Bool) (s : State) : (announceFree p unilateral s).powered = s.powered := by rw [announceFree_frame]
@[simp] theorem announceFree_load (p : Fin 6) (unilateral : Bool) (s : State) : (announceFree p unilateral s).load = s.load := by rw [announceFree_frame]
@[simp] theorem announceFree_clock (p : Fin 6) (unilateral : Bool) (s : State) : (announceFree p unilateral s).clock = s.clock := by rw [announceFree_frame]
@[simp] theorem announceFree_shipLink (p : Fin 6) (unilateral : Bool) (s : State) : (announceFree p unilateral s).shipLink = s.shipLink := by rw [announceFree_frame]
@[simp] theorem announceFree_terminalLink (p : Fin 6) (unilateral : Bool) (s : State) : (announceFree p unilateral s).terminalLink = s.terminalLink := by rw [announceFree_frame]
@[simp] theorem announceFree_lastServed (p : Fin 6) (unilateral : Bool) (s : State) : (announceFree p unilateral s).lastServed = s.lastServed := by rw [announceFree_frame]
@[simp] theorem announceFree_slots (p : Fin 6) (unilateral : Bool) (s : State) : (announceFree p unilateral s).slots = s.slots := by rw [announceFree_frame]
@[simp] theorem announceFree_poolFree (p : Fin 6) (unilateral : Bool) (s : State) : (announceFree p unilateral s).poolFree = s.poolFree := by rw [announceFree_frame]
@[simp] theorem announceFree_auditTimer (p : Fin 6) (unilateral : Bool) (s : State) : (announceFree p unilateral s).auditTimer = s.auditTimer := by rw [announceFree_frame]
@[simp] theorem announceFree_walk (p : Fin 6) (unilateral : Bool) (s : State) : (announceFree p unilateral s).walk = s.walk := by rw [announceFree_frame]
@[simp] theorem announceFree_tanks (p : Fin 6) (unilateral : Bool) (s : State) : (announceFree p unilateral s).tanks = s.tanks := by rw [announceFree_frame]
@[simp] theorem announceFree_shipCondition (p : Fin 6) (unilateral : Bool) (s : State) : (announceFree p unilateral s).shipCondition = s.shipCondition := by rw [announceFree_frame]
@[simp] theorem announceFree_channels (p : Fin 6) (unilateral : Bool) (s : State) : (announceFree p unilateral s).channels = s.channels := by rw [announceFree_frame]
@[simp] theorem announceFree_parcels (p : Fin 6) (unilateral : Bool) (s : State) : (announceFree p unilateral s).parcels = s.parcels := by rw [announceFree_frame]
@[simp] theorem announceFree_restored (p : Fin 6) (unilateral : Bool) (s : State) : (announceFree p unilateral s).restored = s.restored := by rw [announceFree_frame]
@[simp] theorem announceFree_shipStop (p : Fin 6) (unilateral : Bool) (s : State) : (announceFree p unilateral s).shipStop = s.shipStop := by rw [announceFree_frame]
@[simp] theorem announceFree_terminalStop (p : Fin 6) (unilateral : Bool) (s : State) : (announceFree p unilateral s).terminalStop = s.terminalStop := by rw [announceFree_frame]
@[simp] theorem announceFree_intervalTimer (p : Fin 6) (unilateral : Bool) (s : State) : (announceFree p unilateral s).intervalTimer = s.intervalTimer := by rw [announceFree_frame]
@[simp] theorem announceFree_alarm (p : Fin 6) (unilateral : Bool) (s : State) : (announceFree p unilateral s).alarm = s.alarm := by rw [announceFree_frame]
@[simp] theorem announceFree_store (p : Fin 6) (unilateral : Bool) (s : State) : (announceFree p unilateral s).store = s.store := by rw [announceFree_frame]
@[simp] theorem announceFree_writeQueue (p : Fin 6) (unilateral : Bool) (s : State) : (announceFree p unilateral s).writeQueue = s.writeQueue := by rw [announceFree_frame]
@[simp] theorem announceFree_inFlight (p : Fin 6) (unilateral : Bool) (s : State) : (announceFree p unilateral s).inFlight = s.inFlight := by rw [announceFree_frame]
@[simp] theorem announceFree_pending (p : Fin 6) (unilateral : Bool) (s : State) : (announceFree p unilateral s).pending = s.pending := by rw [announceFree_frame]
@[simp] theorem announceFree_link (p : Fin 6) (unilateral : Bool) (x : Link) (s : State) : (announceFree p unilateral s).link x = s.link x := by
  rw [announceFree_frame]; cases x <;> rfl
@[simp] theorem announceFree_slot (p : Fin 6) (unilateral : Bool) (x : RecordSlot) (s : State) : (announceFree p unilateral s).slot x = s.slot x := by
  rw [announceFree_frame]; rfl
@[simp] theorem announceFree_tank (p : Fin 6) (unilateral : Bool) (x : TankId) (s : State) : (announceFree p unilateral s).tank x = s.tank x := by
  rw [announceFree_frame]; rfl
@[simp] theorem announceFree_channel (p : Fin 6) (unilateral : Bool) (x : Fin 4) (s : State) : (announceFree p unilateral s).channel x = s.channel x := by
  rw [announceFree_frame]; rfl
@[simp] theorem announceFree_parcel (p : Fin 6) (unilateral : Bool) (x : Fin 6) (s : State) : (announceFree p unilateral s).parcel x = s.parcel x := by
  rw [announceFree_frame]; rfl
@[simp] theorem announceFree_restoredItems (p : Fin 6) (unilateral : Bool) (x : Fin 6) (s : State) : (announceFree p unilateral s).restoredItems x = s.restoredItems x := by
  rw [announceFree_frame]; rfl
@[simp] theorem announceFree_places (p : Fin 6) (unilateral : Bool) (x : StoreObject) (s : State) : (announceFree p unilateral s).places x = s.places x := by
  rw [announceFree_frame]; rfl
@[simp] theorem announceFree_stopLine (p : Fin 6) (unilateral : Bool) (x : Link) (s : State) : (announceFree p unilateral s).stopLine x = s.stopLine x := by
  rw [announceFree_frame]; cases x <;> rfl

/-! ### emptyParcel -/

theorem emptyParcel_frame (p : Fin 6) (m : Option (Fin 4)) (s : State) :
    emptyParcel p m s =
      { s with parcels := (emptyParcel p m s).parcels, channels := (emptyParcel p m s).channels } := by
  unfold emptyParcel; cases m <;> rfl

@[simp] theorem emptyParcel_unit (p : Fin 6) (m : Option (Fin 4)) (s : State) : (emptyParcel p m s).unit = s.unit := by rw [emptyParcel_frame]
@[simp] theorem emptyParcel_resetCause (p : Fin 6) (m : Option (Fin 4)) (s : State) : (emptyParcel p m s).resetCause = s.resetCause := by rw [emptyParcel_frame]
@[simp] theorem emptyParcel_powered (p : Fin 6) (m : Option (Fin 4)) (s : State) : (emptyParcel p m s).powered = s.powered := by rw [emptyParcel_frame]
@[simp] theorem emptyParcel_load (p : Fin 6) (m : Option (Fin 4)) (s : State) : (emptyParcel p m s).load = s.load := by rw [emptyParcel_frame]
@[simp] theorem emptyParcel_clock (p : Fin 6) (m : Option (Fin 4)) (s : State) : (emptyParcel p m s).clock = s.clock := by rw [emptyParcel_frame]
@[simp] theorem emptyParcel_shipLink (p : Fin 6) (m : Option (Fin 4)) (s : State) : (emptyParcel p m s).shipLink = s.shipLink := by rw [emptyParcel_frame]
@[simp] theorem emptyParcel_terminalLink (p : Fin 6) (m : Option (Fin 4)) (s : State) : (emptyParcel p m s).terminalLink = s.terminalLink := by rw [emptyParcel_frame]
@[simp] theorem emptyParcel_lastServed (p : Fin 6) (m : Option (Fin 4)) (s : State) : (emptyParcel p m s).lastServed = s.lastServed := by rw [emptyParcel_frame]
@[simp] theorem emptyParcel_slots (p : Fin 6) (m : Option (Fin 4)) (s : State) : (emptyParcel p m s).slots = s.slots := by rw [emptyParcel_frame]
@[simp] theorem emptyParcel_poolFree (p : Fin 6) (m : Option (Fin 4)) (s : State) : (emptyParcel p m s).poolFree = s.poolFree := by rw [emptyParcel_frame]
@[simp] theorem emptyParcel_auditTimer (p : Fin 6) (m : Option (Fin 4)) (s : State) : (emptyParcel p m s).auditTimer = s.auditTimer := by rw [emptyParcel_frame]
@[simp] theorem emptyParcel_walk (p : Fin 6) (m : Option (Fin 4)) (s : State) : (emptyParcel p m s).walk = s.walk := by rw [emptyParcel_frame]
@[simp] theorem emptyParcel_tanks (p : Fin 6) (m : Option (Fin 4)) (s : State) : (emptyParcel p m s).tanks = s.tanks := by rw [emptyParcel_frame]
@[simp] theorem emptyParcel_shipCondition (p : Fin 6) (m : Option (Fin 4)) (s : State) : (emptyParcel p m s).shipCondition = s.shipCondition := by rw [emptyParcel_frame]
@[simp] theorem emptyParcel_restored (p : Fin 6) (m : Option (Fin 4)) (s : State) : (emptyParcel p m s).restored = s.restored := by rw [emptyParcel_frame]
@[simp] theorem emptyParcel_concurrence (p : Fin 6) (m : Option (Fin 4)) (s : State) : (emptyParcel p m s).concurrence = s.concurrence := by rw [emptyParcel_frame]
@[simp] theorem emptyParcel_shipStop (p : Fin 6) (m : Option (Fin 4)) (s : State) : (emptyParcel p m s).shipStop = s.shipStop := by rw [emptyParcel_frame]
@[simp] theorem emptyParcel_terminalStop (p : Fin 6) (m : Option (Fin 4)) (s : State) : (emptyParcel p m s).terminalStop = s.terminalStop := by rw [emptyParcel_frame]
@[simp] theorem emptyParcel_intervalTimer (p : Fin 6) (m : Option (Fin 4)) (s : State) : (emptyParcel p m s).intervalTimer = s.intervalTimer := by rw [emptyParcel_frame]
@[simp] theorem emptyParcel_alarm (p : Fin 6) (m : Option (Fin 4)) (s : State) : (emptyParcel p m s).alarm = s.alarm := by rw [emptyParcel_frame]
@[simp] theorem emptyParcel_trail (p : Fin 6) (m : Option (Fin 4)) (s : State) : (emptyParcel p m s).trail = s.trail := by rw [emptyParcel_frame]
@[simp] theorem emptyParcel_newest (p : Fin 6) (m : Option (Fin 4)) (s : State) : (emptyParcel p m s).newest = s.newest := by rw [emptyParcel_frame]
@[simp] theorem emptyParcel_store (p : Fin 6) (m : Option (Fin 4)) (s : State) : (emptyParcel p m s).store = s.store := by rw [emptyParcel_frame]
@[simp] theorem emptyParcel_writeQueue (p : Fin 6) (m : Option (Fin 4)) (s : State) : (emptyParcel p m s).writeQueue = s.writeQueue := by rw [emptyParcel_frame]
@[simp] theorem emptyParcel_inFlight (p : Fin 6) (m : Option (Fin 4)) (s : State) : (emptyParcel p m s).inFlight = s.inFlight := by rw [emptyParcel_frame]
@[simp] theorem emptyParcel_pending (p : Fin 6) (m : Option (Fin 4)) (s : State) : (emptyParcel p m s).pending = s.pending := by rw [emptyParcel_frame]
@[simp] theorem emptyParcel_link (p : Fin 6) (m : Option (Fin 4)) (x : Link) (s : State) : (emptyParcel p m s).link x = s.link x := by
  rw [emptyParcel_frame]; cases x <;> rfl
@[simp] theorem emptyParcel_slot (p : Fin 6) (m : Option (Fin 4)) (x : RecordSlot) (s : State) : (emptyParcel p m s).slot x = s.slot x := by
  rw [emptyParcel_frame]; rfl
@[simp] theorem emptyParcel_tank (p : Fin 6) (m : Option (Fin 4)) (x : TankId) (s : State) : (emptyParcel p m s).tank x = s.tank x := by
  rw [emptyParcel_frame]; rfl
@[simp] theorem emptyParcel_restoredItems (p : Fin 6) (m : Option (Fin 4)) (x : Fin 6) (s : State) : (emptyParcel p m s).restoredItems x = s.restoredItems x := by
  rw [emptyParcel_frame]; rfl
@[simp] theorem emptyParcel_places (p : Fin 6) (m : Option (Fin 4)) (x : StoreObject) (s : State) : (emptyParcel p m s).places x = s.places x := by
  rw [emptyParcel_frame]; rfl
@[simp] theorem emptyParcel_stopLine (p : Fin 6) (m : Option (Fin 4)) (x : Link) (s : State) : (emptyParcel p m s).stopLine x = s.stopLine x := by
  rw [emptyParcel_frame]; cases x <;> rfl

end Sys2Proof.Machine
end

