-- ==== Sys2Proof/Laws/Figures.lean ====
section
/-! SUPPORT. What the computing, holding and clearing of tank figures leave of each tank. -/

namespace Sys2Proof.Machine

open Sys2Proof

/-! ### The basis of a figure -/

/-- The sources of a figure rest on the record set and the parcel slots alone. -/
theorem tankBasis_congr {s w : State} (hs : w.slots = s.slots) (hp : w.parcels = s.parcels) (x : TankId) :
    w.tankBasis x = s.tankBasis x := by
  cases s; cases w; cases hs; cases hp; rfl

/-- The figure due for a tank rests on the record set, the parcel slots and the ship condition alone. -/
theorem figureDue_congr {s w : State} (hs : w.slots = s.slots) (hp : w.parcels = s.parcels)
    (hc : w.shipCondition = s.shipCondition) (x : TankId) (k : Tank) : figureDue w x k = figureDue s x k := by
  simp only [figureDue, tankBasis_congr hs hp, hc]

/-- A temperature a computation has used is the one it would use again. -/
theorem computeFigure_again (b : TankBasis) (c : Option ShipCondition) (r : TankReading) (held : Option Int) :
    computeFigure b c r (computeFigure b c r held).temperature = computeFigure b c r held := by
  generalize hk : countedValues b.probes (probeValues r.fields) (levelOf b.geometry c r.fields) = counted
  have e : (computeFigure b c r held).temperature = temperatureUsed counted held := by
    simp only [computeFigure, hk]
    cases temperatureUsed counted held <;> simp only <;> split <;> rfl
  rw [e]
  cases counted with
  | nil => rfl
  | cons v vs => simp only [computeFigure, hk, temperatureUsed, List.isEmpty_cons, Bool.false_and]

/-- A computation made twice leaves what it left once. -/
theorem figureDue_again (w : State) (x : TankId) (k : Tank) :
    figureDue w x { k with figure := figureDue w x k } = figureDue w x k := by
  obtain ⟨reading, figure⟩ := k
  cases reading with
  | none => rfl
  | some r =>
    simp only [figureDue]
    cases w.tankBasis x with
    | some b => exact computeFigure_again b w.shipCondition r _
    | none =>
      simp only
      by_cases h : figure.status = .current <;> simp [h, holdFigure]

/-! ### Computing -/

/-- A computation due for a tank gives it the figure due and leaves every other tank. -/
theorem computeTank_tank (t x : TankId) (s : State) :
    (computeTank t s).tank x =
      if x = t then { s.tank x with figure := figureDue s x (s.tank x) } else s.tank x := by
  by_cases h : x = t
  · subst h
    rw [if_pos rfl]
    simp only [computeTank, figureDue]
    cases hr : (s.tank x).reading with
    | none => exact congrArg (fun r => (⟨r, (s.tank x).figure⟩ : Tank)) hr
    | some r =>
      cases s.tankBasis x with
      | some b => exact setTank_tank_same ..
      | none =>
        by_cases hc : (s.tank x).figure.status = .current
        · simp only [if_pos hc]; exact setTank_tank_same ..
        · simp only [if_neg hc]; exact congrArg (fun r => (⟨r, (s.tank x).figure⟩ : Tank)) hr
  · rw [if_neg h]
    simp only [computeTank]
    repeat' split
    all_goals first
      | rfl
      | exact setTank_tank_ne h _ _

/-- A computation due for every tank of a list. -/
theorem computeTanks_tank (ts : List TankId) (x : TankId) (s : State) :
    (computeTanks ts s).tank x =
      if x ∈ ts then { s.tank x with figure := figureDue s x (s.tank x) } else s.tank x := by
  induction ts generalizing s with
  | nil => rfl
  | cons t ts ih =>
    have hc : computeTanks (t :: ts) s = computeTanks ts (computeTank t s) := rfl
    have hd : ∀ k, figureDue (computeTank t s) x k = figureDue s x k := by
      intro k; apply figureDue_congr <;> simp
    rw [hc, ih, computeTank_tank]
    by_cases h1 : x = t
    · subst h1
      by_cases h2 : x ∈ ts
      · simp [h2, hd, figureDue_again]
      · simp [h2]
    · by_cases h2 : x ∈ ts <;> simp [h1, h2, hd]

/-! ### Holding and clearing -/

theorem holdFigure_again (f : Figure) : holdFigure (holdFigure f) = holdFigure f := by
  simp only [holdFigure]
  by_cases h : f.status = .none <;> simp [h]

theorem holdTanks_tank (ts : List TankId) (x : TankId) (s : State) :
    (holdTanks ts s).tank x =
      if x ∈ ts then { s.tank x with figure := holdFigure (s.tank x).figure } else s.tank x := by
  induction ts generalizing s with
  | nil => rfl
  | cons t ts ih =>
    have hc : holdTanks (t :: ts) s = holdTanks ts (holdTank t s) := rfl
    rw [hc, ih]
    by_cases h1 : x = t
    · subst h1
      by_cases h2 : x ∈ ts <;> simp [h2, holdTank, holdFigure_again]
    · by_cases h2 : x ∈ ts <;> simp [h1, h2, holdTank, setTank_tank_ne h1]

theorem clearTanks_tank (ts : List TankId) (x : TankId) (s : State) :
    (clearTanks ts s).tank x = if x ∈ ts then .reset else s.tank x := by
  induction ts generalizing s with
  | nil => rfl
  | cons t ts ih =>
    have hc : clearTanks (t :: ts) s = clearTanks ts (clearTank t s) := rfl
    rw [hc, ih]
    by_cases h1 : x = t
    · subst h1
      by_cases h2 : x ∈ ts <;> simp [h2, clearTank]
    · by_cases h2 : x ∈ ts <;> simp [h1, h2, clearTank, setTank_tank_ne h1]

/-- The ship tanks of the list of all of them. -/
theorem mem_shipTankIds (x : TankId) : x ∈ shipTankIds ↔ ∃ n, x = .ship n := by
  simp only [shipTankIds, allShipTanks, List.mem_map, List.mem_finRange, true_and]
  exact ⟨fun ⟨n, h⟩ => ⟨n, h.symm⟩, fun ⟨n, h⟩ => ⟨n, h.symm⟩⟩

end Sys2Proof.Machine
end

