-- ==== Sys2Proof/Laws/Parcels.lean ====
section
/-! SUPPORT. The hand-offs of a change of a parcel slot, and what the shared operations on trail, writes and alarm rest on. -/

namespace Sys2Proof.Machine

open Sys2Proof

/-! ### Trail, writes and alarm -/

theorem SameTrail.rfl' (s : State) : SameTrail s s := ⟨rfl, rfl⟩

theorem SameWrites.rfl' (s : State) : SameWrites s s := ⟨rfl, rfl⟩

/-- The record appended rests on trail, newest sequence and clock alone. -/
theorem SameTrail.append {v w : State} (h : SameTrail v w) (hc : w.clock = v.clock) (b : TrailBody) :
    SameTrail (appendTrail b v) (appendTrail b w) := by
  obtain ⟨h1, h2⟩ := h
  unfold SameTrail appendTrail
  rw [h1, h2, hc]
  split <;> exact ⟨rfl, rfl⟩

/-- A write given rests on the queue and the write in flight alone. -/
theorem SameWrites.give {v w : State} (h : SameWrites v w) (o : StoreObject) (c : StoredContent) :
    SameWrites (giveWrite o c v) (giveWrite o c w) := by
  obtain ⟨h1, h2⟩ := h
  unfold SameWrites giveWrite startWrite
  rw [h1, h2]
  cases v.inFlight with
  | some x => exact ⟨rfl, rfl⟩
  | none => simp only; split <;> exact ⟨rfl, rfl⟩

theorem SameTrail.trans {u v w : State} (h : SameTrail u v) (h' : SameTrail v w) : SameTrail u w :=
  ⟨h'.1.trans h.1, h'.2.trans h.2⟩

theorem SameWrites.trans {u v w : State} (h : SameWrites u v) (h' : SameWrites v w) : SameWrites u w :=
  ⟨h'.1.trans h.1, h'.2.trans h.2⟩

/-- The condition of the alarm line rests on the parcel slots alone. -/
theorem alarmDue_congr {v w : State} (h : w.parcels = v.parcels) : w.alarmDue = v.alarmDue := by
  cases v; cases w; cases h; rfl

/-- A checkpoint rests on the record set, the parcel slots and the channels alone. -/
theorem checkpointOf_congr {v w : State} (hs : w.slots = v.slots) (hp : w.parcels = v.parcels)
    (hc : w.channels = v.channels) (p : Fin 6) : w.checkpointOf p = v.checkpointOf p := by
  cases v; cases w; cases hs; cases hp; cases hc; rfl

/-- The line as it is set stands at the condition of the line. -/
theorem setAlarm_stands (s : State) : (setAlarm s).alarm = (setAlarm s).alarmDue := rfl

/-! ### Hand-offs -/

/-- The hand-offs of a change of state, from the state in which the slot already stands. -/
theorem announce_handedOff (p : Fin 6) (d : StateDetail) (s : State) : HandedOff p d s (announce p d s) := by
  refine ⟨?_, ?_, ?_, ?_⟩
  · simp [announce, giveCheckpoint, setAlarm, pruneConcurrence]
  · have e : (announce p d s).parcel p = s.parcel p := by simp
    rw [e]
    refine SameTrail.trans (SameTrail.append (v := s) (w := pruneConcurrence p s) ⟨rfl, rfl⟩ rfl _) ?_
    refine ⟨?_, ?_⟩ <;> simp [announce, giveCheckpoint, setAlarm, pruneConcurrence]
  · have e : (announce p d s).checkpointOf p =
        (appendTrail (.parcelState p (s.parcel p).state d) (pruneConcurrence p s)).checkpointOf p := by
      apply checkpointOf_congr <;> simp [pruneConcurrence]
    rw [e]
    have h : SameWrites s (appendTrail (.parcelState p (s.parcel p).state d) (pruneConcurrence p s)) := by
      constructor <;> simp only [appendTrail_writeQueue, appendTrail_inFlight] <;> rfl
    exact SameWrites.trans (h.give _ _) ⟨rfl, rfl⟩
  · exact setAlarm_stands _

/-- Hand-offs are told from the table, the trail, the clock and the writes that stood before. -/
theorem HandedOff.of_same {p : Fin 6} {d : StateDetail} {u v w : State} (h : HandedOff p d v w)
    (hc : v.concurrence = u.concurrence) (ht : SameTrail u v) (hk : v.clock = u.clock) (hw : SameWrites u v) :
    HandedOff p d u w := by
  obtain ⟨h1, h2, h3, h4⟩ := h
  refine ⟨by rw [h1, hc], ?_, ?_, h4⟩
  · exact SameTrail.trans (ht.append hk _) h2
  · exact SameWrites.trans (hw.give _ _) h3

/-! ### Slots of parcels, records and channels -/

theorem parcelBecomes_setParcel (p : Fin 6) (v : Parcel) (s : State) : ParcelBecomes p v s (setParcel p v s) :=
  ⟨setParcel_parcel_same .., fun _ h => setParcel_parcel_ne h _ _⟩

theorem slotBecomes_setSlot (k : RecordSlot) (v : Slot) (s : State) : SlotBecomes k v s (setSlot k v s) :=
  ⟨setSlot_slot_same .., fun _ h => setSlot_slot_ne h _ _⟩

theorem accumulatorsBecome_none (a : Option AccumulatorSet) (s : State) : AccumulatorsBecome none a s s := by
  intro x; simp

theorem accumulatorsBecome_set (m : Fin 4) (a : Option AccumulatorSet) (s : State) :
    AccumulatorsBecome (some m) a s (setAccumulators m a s) := by
  intro x
  simp only [setAccumulators, setChannel_channel, Option.some.injEq]
  by_cases h : x = m
  · subst h; simp
  · simp [h, Ne.symm h]

/-- A slot and its meter's accumulator set after the slot is emptied. -/
theorem emptyParcel_channels (p : Fin 6) (m : Option (Fin 4)) (s : State) :
    AccumulatorsBecome m none s (emptyParcel p m s) := by
  cases m with
  | none => exact accumulatorsBecome_none none _
  | some m => exact accumulatorsBecome_set m none _

theorem emptyParcel_parcelBecomes (p : Fin 6) (m : Option (Fin 4)) (s : State) :
    ParcelBecomes p .reset s (emptyParcel p m s) := by
  cases m with
  | none => exact parcelBecomes_setParcel ..
  | some m => exact parcelBecomes_setParcel p .reset s

/-! ### Changes of a slot that R111 announces -/

/-- A slot changed and announced holds what it was changed to. -/
theorem announce_becomes (p : Fin 6) (d : StateDetail) (v : Parcel) (s : State) :
    ParcelBecomes p v s (announce p d (setParcel p v s)) := by
  constructor
  · simp
  · intro q hq; simp [setParcel_parcel_ne hq]

/-- The hand-offs of a slot changed and announced, told from the state before the change. -/
theorem announce_setParcel_handedOff (p : Fin 6) (d : StateDetail) (v : Parcel) (s : State) :
    HandedOff p d s (announce p d (setParcel p v s)) :=
  (announce_handedOff p d (setParcel p v s)).of_same rfl ⟨rfl, rfl⟩ rfl ⟨rfl, rfl⟩

/-- The removal of an entry that the new state does not allow is no more than what the new state removes. -/
theorem filter_removed {p : Fin 6} {kind : DeclKind} {st : ParcelState} (h : kindAllowed kind st = false)
    (es : List Concurrence) :
    (es.filter fun e => !(e.subject == .parcel p && e.kind == kind)).filter (entryStays p st) =
      es.filter (entryStays p st) := by
  rw [List.filter_filter]
  apply List.filter_congr
  intro e _
  by_cases h1 : e.subject = .parcel p
  · by_cases h2 : e.kind = kind
    · simp [h1, h2, entryStays, h]
    · simp [h2]
  · simp [h1]

/-- Hand-offs after the removal of an entry that the new state does not allow, told from the state before it. -/
theorem HandedOff.of_removed {p : Fin 6} {d : StateDetail} {kind : DeclKind} {u w : State}
    (h : HandedOff p d (removeEntry (.parcel p) kind u) w) (hk : kindAllowed kind (w.parcel p).state = false) :
    HandedOff p d u w := by
  obtain ⟨g1, g2, g3, g4⟩ := h
  refine ⟨?_, ?_, ?_, g4⟩
  · rw [g1]; exact filter_removed hk _
  · exact SameTrail.trans (SameTrail.append (v := u) (w := removeEntry (.parcel p) kind u) ⟨rfl, rfl⟩ rfl _) g2
  · exact SameWrites.trans (SameWrites.give (v := u) (w := removeEntry (.parcel p) kind u) ⟨rfl, rfl⟩ _ _) g3

/-! ### Restored slots -/

/-- A slot brought up holds the parcel manager's items of what it is brought up as, and no other slot changes. -/
theorem bringUp_becomes (p : Fin 6) (v : Parcel) (s : State) :
    ParcelBecomes p { v with comparisons := none, final := none } s (bringUp p v s) := by
  constructor
  · simp [bringUp]
  · intro q hq; simp [bringUp, setParcel_parcel_ne hq]

/-- The reconciliation unit's items of a slot brought up wait, with those that waited for every other slot. -/
theorem bringUp_restoredItems (p q : Fin 6) (v : Parcel) (s : State) :
    (bringUp p v s).restoredItems q =
      if q = p then { comparisons := v.comparisons, final := v.final } else s.restoredItems q := by
  by_cases h : q = p
  · subst h; simp [bringUp]
  · simp [bringUp, h, setRestored_restoredItems_ne h]

/-- The end of the load gives every slot the items that waited for it. -/
theorem takeUpItems_parcel (p : Fin 6) (s : State) : (takeUpItems s).parcel p = s.restoredParcel p :=
  vector_get_ofFn s.restoredParcel p

/-- Nothing waits once the items are taken up. -/
theorem takeUpItems_restoredItems (p : Fin 6) (s : State) : (takeUpItems s).restoredItems p = .empty :=
  vector_get_replicate RestoredItems.empty p

end Sys2Proof.Machine
end

