-- ==== Sys2Proof/Laws/Requests.lean ====
section
/-! SUPPORT. What the taking of a request comes to: the frame's own effect, and the answer of the owner. -/

namespace Sys2Proof.Machine

open Sys2Proof

theorem holdAnswer_answerOf (l : Link) (code tag : Byte) (r : Reply) (s : State) :
    holdAnswer l (answerOf code tag r) s = answered l code tag r.result r.body s := rfl

/-- A request that is ready is answered with what its owner decides in the state after steps 1 and 2 of R180. -/
theorem takeRequest_ready {l : Link} {payload : List Byte} {s : State} (h : Ready l payload s) (code tag : Byte)
    (counted : Bool) (ready : Readiness) (owner : State → State × Reply) :
    takeRequest l code tag payload counted ready owner s =
      answered l code tag (ownerDecides ready owner (takeFrame l counted s)).2.result
        (ownerDecides ready owner (takeFrame l counted s)).2.body
        (ownerDecides ready owner (takeFrame l counted s)).1 := by
  obtain ⟨h1, h2, h3, h4⟩ := h
  have h5 : ¬ 240 < payload.length := by omega
  simp [takeRequest, State.receives, isBusy, h1, h2, h3, h5, answerRequest, holdAnswer_answerOf]

/-- A request of any kind while the unit is RUNNING is decided by its owner. -/
theorem takeRequest_running {l : Link} {payload : List Byte} {s : State} (h : ReadyRunning l payload s)
    (code tag : Byte) (counted : Bool) (ready : Readiness) (owner : State → State × Reply) :
    takeRequest l code tag payload counted ready owner s =
      answered l code tag (owner (takeFrame l counted s)).2.result (owner (takeFrame l counted s)).2.body
        (owner (takeFrame l counted s)).1 := by
  rw [takeRequest_ready h.2]
  cases ready <;> simp [ownerDecides, h.1]

/-- A request answered in every unit state is decided by its owner. -/
theorem takeRequest_always {l : Link} {payload : List Byte} {s : State} (h : Ready l payload s) (code tag : Byte)
    (counted : Bool) (owner : State → State × Reply) :
    takeRequest l code tag payload counted .always owner s =
      answered l code tag (owner (takeFrame l counted s)).2.result (owner (takeFrame l counted s)).2.body
        (owner (takeFrame l counted s)).1 := by
  rw [takeRequest_ready h]; rfl

/-- While STARTING every other request is answered NOT_READY. -/
theorem takeRequest_starting {l : Link} {payload : List Byte} {s : State} (h : Ready l payload s)
    (hs : s.unit = .starting) (code tag : Byte) (counted : Bool) (owner : State → State × Reply) :
    takeRequest l code tag payload counted .whenRunning owner s =
      answered l code tag .notReady [] (takeFrame l counted s) := by
  rw [takeRequest_ready h]
  simp [ownerDecides, hs, refuseWith, bare]

/-- A frame that reaches a link that does not receive is discarded. -/
theorem takeRequest_discarded {l : Link} {s : State} (h : s.receives l = false) (code tag : Byte) (payload : List Byte)
    (counted : Bool) (ready : Readiness) (owner : State → State × Reply) :
    takeRequest l code tag payload counted ready owner s = s := by
  simp [takeRequest, h]

/-- The link after an intact frame (R180, R183, R184, R185). -/
theorem takeFrame_link (l : Link) (counted : Bool) (s : State) :
    (takeFrame l counted s).link l =
      { s.link l with
        lastIntact := some s.clock
        counter := if counted then nextCounter (s.link l).counter else (s.link l).counter
        state := if (s.link l).state = .lost ∧ (s.link l).restoreCount < 2 then .lost else .active
        restoreCount := if (s.link l).state = .lost then
            (if (s.link l).restoreCount < 2 then (s.link l).restoreCount + 1 else 0)
          else (s.link l).restoreCount } := by
  have hlink : ∀ (b : TrailBody) (x : Link) (v : State), (appendTrail b v).link x = v.link x := by
    intro b x v; simp
  cases hs : (s.link l).state <;> by_cases hr : (s.link l).restoreCount < 2 <;> cases counted <;>
    simp [takeFrame, advanceCounter, intactFrame, hs, hr] <;> (try (split <;> simp <;> omega)) <;> (try omega)

/-- The other link is left alone. -/
@[simp] theorem takeFrame_link_other (l : Link) (counted : Bool) (s : State) :
    (takeFrame l counted s).link (otherLink l) = s.link (otherLink l) := by
  simp only [takeFrame, advanceCounter, intactFrame]
  repeat' split
  all_goals simp

/-- The trail after an intact frame: the third restoring frame appends LINK_STATE RESTORED (R185). -/
theorem takeFrame_trail_eq (l : Link) (counted : Bool) (s : State) :
    ((takeFrame l counted s).trail, (takeFrame l counted s).newest) =
      if (s.link l).state = .lost ∧ 2 ≤ (s.link l).restoreCount then
        ((appendTrail (.linkState l .restored) s).trail, (appendTrail (.linkState l .restored) s).newest)
      else (s.trail, s.newest) := by
  cases hs : (s.link l).state <;> by_cases hr : 2 ≤ (s.link l).restoreCount <;> cases counted <;>
    simp [takeFrame, advanceCounter, intactFrame, hs, hr, appendTrail] <;> split <;> simp_all

/-! ### What a frame leaves of its link -/

@[simp] theorem takeFrame_discarding (l : Link) (counted : Bool) (s : State) :
    ((takeFrame l counted s).link l).discarding = (s.link l).discarding := by rw [takeFrame_link]

@[simp] theorem takeFrame_controller (l : Link) (counted : Bool) (s : State) :
    ((takeFrame l counted s).link l).controller = (s.link l).controller := by rw [takeFrame_link]

@[simp] theorem takeFrame_report (l : Link) (counted : Bool) (s : State) :
    ((takeFrame l counted s).link l).report = (s.link l).report := by rw [takeFrame_link]

@[simp] theorem takeFrame_threshold (l : Link) (counted : Bool) (s : State) :
    ((takeFrame l counted s).link l).threshold = (s.link l).threshold := by rw [takeFrame_link]

@[simp] theorem takeFrame_holdTimeout (l : Link) (counted : Bool) (s : State) :
    ((takeFrame l counted s).link l).holdTimeout = (s.link l).holdTimeout := by rw [takeFrame_link]

@[simp] theorem takeFrame_intake (l : Link) (counted : Bool) (s : State) :
    ((takeFrame l counted s).link l).intake = (s.link l).intake := by rw [takeFrame_link]

@[simp] theorem takeFrame_hold (l : Link) (counted : Bool) (s : State) :
    ((takeFrame l counted s).link l).hold = (s.link l).hold := by rw [takeFrame_link]

/-- The other link keeps its state. -/
@[simp] theorem takeFrame_linkCondition (l : Link) (counted : Bool) (s : State) :
    ((takeFrame l counted s).link (otherLink l)).state = (s.link (otherLink l)).state := by rw [takeFrame_link_other]

/-! ### Every request row takes a request -/

/-- A command that is a request frame does what the taking of its request does, with an owner of its own. -/
theorem exec_request {c : Instr} {r : Request} (h : requestOf c = some r) (s : State) :
    ∃ owner, exec c s = .next (takeRequest r.link r.code r.tag r.payload r.counted r.ready owner s) := by
  cases c <;> simp only [requestOf, countedRequest, readRequest, alwaysRequest] at h <;> first
    | (cases h; exact ⟨_, rfl⟩)
    | (cases h; done)
    | (split at h
       · cases h
       · cases h
         rename_i h0
         simp only [exec, execUnknownRequest, if_neg h0]; exact ⟨_, rfl⟩)

/-! ### What the owners read of the state after a frame -/

theorem takeFrame_settingsInUse (l : Link) (counted : Bool) (s : State) :
    (takeFrame l counted s).settingsInUse = s.settingsInUse := by rw [takeFrame_frame]; rfl

theorem takeFrame_declarationRefusal (l : Link) (counted : Bool) (kind : DeclKind) (p : Fin 6) (s : State) :
    (takeFrame l counted s).declarationRefusal kind p = s.declarationRefusal kind p := by rw [takeFrame_frame]; rfl

theorem takeFrame_entry (l : Link) (counted : Bool) (subject : Subject) (kind : DeclKind) (s : State) :
    (takeFrame l counted s).entry subject kind = s.entry subject kind := by rw [takeFrame_frame]; rfl

/-! ### Requests that name a slot -/

/-- A payload of one byte that names a parcel slot. -/
theorem onParcel_one {b : Byte} {p : Fin 6} (h : parcelOfByte b = some p) (f : Fin 6 → State → State × Reply)
    (s : State) : onParcel [b] f s = f p s := by simp [onParcel, oneByte, h]

/-- An identifier that names a record slot. -/
theorem onSlot_some {b : Byte} {k : RecordSlot} (h : slotOfCode b = some k) (f : RecordSlot → State → State × Reply)
    (s : State) : onSlot (some b) f s = f k s := by simp [onSlot, h]

/-- A second declaration that passes its checks takes its step where the step's conditions hold, and is NOT_READY where
they do not (R115). -/
theorem declareParcel_second {kind : DeclKind} {l : Link} {b mode : Byte} {s : State} {p : Fin 6} {e : Concurrence}
    (hm : modeAllowed kind mode = true) (hb : parcelOfByte b = some p) (hr : s.declarationRefusal kind p = none)
    (he : s.entry (.parcel p) kind = some e) (hf : e.first = otherLink l) (met : State → Fin 6 → Bool)
    (step : Fin 6 → Bool → State → State) :
    declareParcel kind l [b, mode] met step s =
      if met s p then (step p false (removeEntry (.parcel p) kind s), bare .done) else refuseWith .notReady s := by
  simp only [declareParcel, hm, if_true, hb, hr, decideDeclaration, he, hf]

end Sys2Proof.Machine
end

