-- ==== Sys2Proof/Tests/Slice0.lean ====
section
/-! SUPPORT. Tests: the well-formedness checks, the check values and worked examples of spec/, and for every statement with
hypotheses a state and operands that meet them. -/

namespace Sys2Proof.Tests

open Sys2Proof
open Sys2Proof.Machine

set_option Elab.async false

/-! ### Helpers -/

/-- The state a command leaves. -/
def after (c : Instr) (s : State) : State :=
  match exec c s with
  | .next t => t
  | _ => s

/-- The result code a link's controller holds. -/
def resultOn (l : Link) (s : State) : Option ResultCode :=
  match (s.link l).controller with
  | .answering a => some a.result
  | _ => none

/-- A unit that has just become RUNNING with an empty store. -/
def run : State := { State.reset with unit := .running, load := .complete }

def atClock (t : Clock) (s : State) : State := { s with clock := t }

/-- A version in force. -/
def inForceVersion (c : Content) (points : List Breakpoint) : CurrentVersion :=
  { suspect := false, content := c, points := points, digest := recordDigest c points, auditCount := 0 }

/-- The record set with a version in force in a slot, its points taken from the pool. -/
def enforce (k : RecordSlot) (c : Content) (points : List Breakpoint) (s : State) : State :=
  setPoolFree (s.poolFree - points.length)
    (setSlot k { current := some (inForceVersion c points), pending := none, last := .enteredForce } s)

/-- A whole proposal of the ship, PROPOSED. -/
def proposal (l : Link) (c : Content) (points : List Breakpoint) : PendingVersion :=
  { assembly := none, content := c, declaredPoints := points.length, declaredDigest := recordDigest c points, proposer := l,
    points := points, received := 0, expected := 0, restoring := false }

def propose (k : RecordSlot) (v : PendingVersion) (s : State) : State :=
  setPoolFree (s.poolFree - v.declaredPoints) (setSlot k { s.slot k with pending := some v } s)

/-- "A", one character. -/
def name : List Byte := [0x41]

/-! The records of spec/04 section 4.8 and spec/05 section 5.8. -/

def vessel : Content := .vessel { name, lbp := 176000, vef := 998500 }

def s05 : Content :=
  .shipTank { name, referenceHeight := 18000, longitudinalOffset := 12400, transverseOffset := -3100,
              probes := [1000, 8000, 15000] }

def s05Table : List Breakpoint := [⟨0, 0⟩, ⟨200, 7400⟩, ⟨13600, 4412800⟩, ⟨13800, 4478200⟩]

def t03 : Content := .shoreTank { name, probes := [1000, 2000] }

def t03Table : List Breakpoint := [⟨0, 0⟩, ⟨10000, 20000000⟩]

def m3Record : MeterRecord := { kFactor := 24000, meterFactor := 1002300, maxRate := 5000 }

def m3 : Content := .meter m3Record

def p2Record : ParcelRecord :=
  { grade := name, direction := .discharge, shipTanks := [4], shoreTanks := [2], meter := some 2, a := 9500, b := 800,
    applyVef := true, baseMinimum := none, watchBand := none, alarmBand := none, declareCount := none, clearCount := none }

def p2 : Content := .parcel p2Record

/-- The records of a voyage in force, the clock at 314.0 s. -/
def records : State :=
  atClock 3140
    (enforce (.parcel 1) p2 []
      (enforce (.meter 2) m3 [] (enforce (.shore 2) t03 t03Table (enforce (.ship 4) s05 s05Table (enforce .vessel vessel [] run)))))

/-- A parcel in state `st` with the items its state has. -/
def parcelIn (st : ParcelState) : Parcel :=
  { definedParcel p2Record with
    state := st
    reason := if st = .suspended then some .shipRequest else none
    settle := if st = .settling then some { start := 2000, settleTime := 100, expired := true } else none
    opening := some { time := 1000, shipVolumes := [4371092], shoreVolumes := [12006300], shipTotal := 4371092,
                      shoreTotal := 12006300, vef := 998500 } }

/-- The voyage with P2 in state `st` and its meter's accumulators at zero. -/
def voyage (st : ParcelState) : State :=
  setAccumulators 2 (some (zeroAccumulators 1)) (setParcel 1 (parcelIn st) records)

def s05Fields : TankFields :=
  { gauge := 4215, water := some 40, probe1 := some 3210, probe2 := some 3270, probe3 := some 3100, shell := none }

def t03Fields : TankFields :=
  { gauge := 6000, water := none, probe1 := some 2990, probe2 := some 3010, probe3 := none, shell := none }

def condition : ConditionFields := { fore := 9850, aft := 10930, listSlope := -120 }

/-- An entry waits in the intake of a link. -/
def queued (l : Link) (r : Reading) (s : State) : State :=
  setLink l { s.link l with intake := [{ reading := r, arrival := 3130 }] } s

/-- The figures of the voyage's tanks computed from fresh readings. -/
def gauged (st : ParcelState) : State :=
  computeTanks [.ship 4, .shore 2]
    (setTank (.shore 2) { reading := some { fields := t03Fields, arrival := 3130 }, figure := .cleared }
      (setTank (.ship 4) { reading := some { fields := s05Fields, arrival := 3130 }, figure := .cleared }
        (setShipCondition (some { fields := condition, arrival := 3130 }) (voyage st))))

/-- A declaration of the counterpart stands. -/
def declared (subject : Subject) (kind : DeclKind) (l : Link) (s : State) : State :=
  { s with concurrence := [{ subject, kind, first := l, taken := 3000, lapse := 900 }] }

/-! ### The checks of WellFormed, each with a term it refuses -/

theorem test_payload_too_long : wellFormed (.hold .ship 0 (List.replicate 241 0)) = false := by decide +kernel

theorem test_payload_longest : wellFormed (.hold .ship 0 (List.replicate 240 0)) = true := by decide +kernel

theorem test_defined_code_is_not_unknown : wellFormed (.unknownRequest .ship 0x24 1 0 []) = false := by decide

theorem test_undefined_selector_is_unknown : wellFormed (.unknownRequest .ship 0x24 2 0 []) = true := by decide

theorem test_no_assembly_without_table : wellFormed (.assemblyTimeout .vessel) = false := by decide

theorem test_unit_takes_no_open : wellFormed (.declarationLapse .unit .opening) = false := by decide

theorem test_parcel_takes_no_call_clear : wellFormed (.declarationLapse (.parcel 0) .callClear) = false := by decide

/-! ### Check values (R33, R177) and rounding (R1, R74) -/

def nineDigits : List Byte := [0x31, 0x32, 0x33, 0x34, 0x35, 0x36, 0x37, 0x38, 0x39]

theorem test_digest_check_value : digest nineDigits = 0xE3069283 := by decide +kernel

theorem test_crc_check_value : frameCrc nineDigits = 0xAEE7 := by decide +kernel

theorem test_mean_rounds_up : meanTemperature [3211, 3270] = 3241 := by decide

theorem test_mean_rounds_away : meanTemperature [-1, -2] = -2 := by decide

/-! ### Tank S05 (spec/04 sections 4.8 and 4.8.1) and tank T03 (section 4.9) -/

def s05Figure (f : TankFields) : Figure :=
  computeFigure { geometry := .ship 18000 12400 (-3100) 176000, probes := [1000, 8000, 15000], table := s05Table, a := 9500,
                  b := 800 } (some { fields := condition, arrival := 0 }) { fields := f, arrival := 0 } none

theorem test_s05_figure :
    ((s05Figure s05Fields).volumes.map fun v => (v.tov, v.fw, v.nov)) = some (4447135, 1480, 4445655)
      ∧ (s05Figure s05Fields).temperature = some 3240 ∧ (s05Figure s05Fields).vcf = some 983228
      ∧ (s05Figure s05Fields).gsv = some 4371092 ∧ (s05Figure s05Fields).marks = .empty := by decide +kernel

theorem test_s05_ullage_clamped :
    (s05Figure { s05Fields with gauge := 19000 }).gsv = some 0
      ∧ (s05Figure { s05Fields with gauge := 19000 }).marks.levelClamped = true := by decide +kernel

theorem test_s05_water_clamped :
    (s05Figure { s05Fields with water := some 14000 }).gsv = some 0
      ∧ (s05Figure { s05Fields with water := some 14000 }).marks.levelClamped = true := by decide +kernel

theorem test_s05_trim_clamped : trimSlope (some { fields := ⟨2000, 14000, -120⟩, arrival := 0 }) 176000 = 5000 := by
  decide

theorem test_s05_vcf_clamped : vcfOf 20000 5000 15000 = 850000 ∧ gsvOf 4445655 none 850000 = 3778807 := by decide

theorem test_t03_gsv :
    vcfOf 9500 800 3000 = 985570 ∧ shellFactor 3000 = 1000360
      ∧ gsvOf 12000000 (some 1000360) 985570 = 11831098 := by decide

/-- The engine takes the reading of the example. -/
theorem test_take_tank_reading :
    ((after .takeTankReading
        (queued .ship (.shipTank 4 s05Fields)
          (setShipCondition (some { fields := condition, arrival := 3130 }) (voyage .defined)))).tank (.ship 4)).figure.gsv
      = some 4371092 := by decide +kernel

/-- A reading for a slot that holds nothing is discarded (spec/03 section 3.7, step 6). -/
theorem test_take_tank_reading_discards :
    (after .takeTankReading (queued .ship (.shipTank 19 s05Fields) records)).shipLink.report.readingDiscarded = true := by
  decide +kernel

/-- The new drafts recompute the tank (spec/04 section 4.8). -/
theorem test_take_ship_condition :
    ((after .takeShipCondition
        (queued .ship (.shipCondition condition)
          (setTank (.ship 4) { reading := some { fields := s05Fields, arrival := 3130 }, figure := .cleared }
            (voyage .defined)))).tank (.ship 4)).figure.gsv = some 4371092 := by decide +kernel

theorem test_take_line_conditions :
    ((after .takeLineConditions (queued .terminal (.lineConditions 2 3180) records)).channel 2).lineConditions
      = some { temperature := 3180, arrival := 3130 } := by decide +kernel

/-! ### The meter of spec/05 sections 5.8 and 5.9 -/

/-- M3 before the sample at 1,020.0. -/
def sampling (st : ParcelState) : State :=
  let s := voyage st
  atClock 10200
    (setChannel 2
      { s.channel 2 with
        pulses := 20650, lastCount := 4294951730, lastTime := 10100, timer := some 10100
        lineConditions := some { temperature := 3180, arrival := 10000 } } s)

theorem test_sample_of_the_example :
    (((after (.sampleTimerExpiry 2) (sampling .transfer)).channel 2).accumulators.map
        fun a => (a.indicated, a.gross, a.standard, a.overRate)) = some (1509000, 1512471, 1487990, false)
      ∧ ((after (.sampleTimerExpiry 2) (sampling .transfer)).channel 2).lastLineVcf = some 983814 := by decide +kernel

theorem test_pulse_wraps : ((after (.meterPulse 0) (setChannel 0 { Channel.reset with pulses := 0xFFFFFFFF } run)).channel
    0).pulses = 0 := by decide +kernel

/-! ### Links (spec/09 section 9.11, spec/08 section 8.3.1) -/

/-- The ship link last heard at 6,000.0. -/
def heard : State := setLink .ship { LinkUnit.reset with state := .active, lastIntact := some 60000, counter := 17 } run

theorem test_silence_exceeds :
    (after (.silenceTimeout .ship) (atClock 60301 heard)).shipLink.state = .lost
      ∧ (after (.silenceTimeout .ship) (atClock 60301 heard)).shipLink.report.wasLost = true := by decide

theorem test_silence_reached : (after (.silenceTimeout .ship) (atClock 60300 heard)).shipLink.state = .active := by
  decide

/-- The ship link LOST, one restoring frame short of restoration. -/
def restoring : State :=
  setLink .ship { LinkUnit.reset with state := .lost, lastIntact := some 61030, restoreCount := 2, counter := 19 } run

theorem test_status_restores :
    (after (.status .ship 0 []) (atClock 61040 restoring)).shipLink.state = .active
      ∧ (after (.status .ship 0 []) (atClock 61040 restoring)).shipLink.counter = 19 := by decide

theorem test_damaged_frame_undoes :
    (after (.damagedFrame .ship .headerCrc) restoring).shipLink.restoreCount = 0
      ∧ (after (.damagedFrame .ship .headerCrc) restoring).shipLink.report.headerCrc = true := by decide

theorem test_counter_wraps_to_one :
    (after (.hold .ship 0 []) (setLink .ship { LinkUnit.reset with counter := 255 } run)).shipLink.counter = 1 := by
  decide +kernel

theorem test_counter_reset :
    (after (.counterReset .ship 0 []) heard).shipLink.counter = 0 := by decide

theorem test_hold_expires_at_its_timeout :
    (after (.holdTimerExpiry .terminal) (atClock 52200
      (after (.hold .terminal 0 []) (atClock 51000 run)))).terminalLink.hold = none := by decide +kernel

theorem test_hold_stands_before_its_timeout :
    (after (.holdTimerExpiry .terminal) (atClock 52199
      (after (.hold .terminal 0 []) (atClock 51000 run)))).terminalLink.hold.isSome = true := by decide +kernel

theorem test_release_without_hold : resultOn .terminal (after (.releaseHold .terminal 0 []) run) = some .state := by decide

theorem test_link_parameters :
    (after (.setLinkParameters .terminal 0 [40, 120, 0]) run).terminalLink.threshold = 40
      ∧ (after (.setLinkParameters .terminal 0 [64, 120, 0]) run).terminalLink.threshold = 48 := by decide

/-- Header 3C 01 00 05 0C and twelve bytes of status block, each with its CRC. -/
theorem test_response_length :
    (match (after (.responseSend .ship) (after (.status .ship 5 []) run)).shipLink.controller with
      | .sending f => (f.take 5, f.length)
      | _ => ([], 0)) = ([0x3C, 0x01, 0x00, 0x05, 0x0C], 21) := by decide +kernel

theorem test_response_sent :
    (after (.responseSent .ship) (setLink .ship { LinkUnit.reset with controller := .sending [0] } run)).shipLink.controller
      = .free := by decide

theorem test_overrun : (after (.overrun .ship) run).shipLink.report.overrun = true := by decide

theorem test_gap_in_frame : (after (.idleGapInFrame .ship) run).shipLink.report.length = true := by decide

theorem test_idle_gap :
    (after (.idleGap .ship) (after (.damagedFrame .ship .length) run)).shipLink.discarding = false := by decide

theorem test_unknown_request : resultOn .ship (after (.unknownRequest .ship 0x04 0 0 []) State.reset) = some .unknownRequest := by
  decide

theorem test_posting_not_ready_is_counted :
    resultOn .ship (after (.postReadings .ship 0 [1]) State.reset) = some .notReady
      ∧ (after (.postReadings .ship 0 [1]) State.reset).shipLink.counter = 1 := by decide

/-- Line conditions M1 at +20.00 degrees (R190): kind 4, meter 1, 2,000 in two bytes. -/
def lineEntry : List Byte := [4, 1, 0xD0, 0x07]

theorem test_post_readings :
    (after (.postReadings .terminal 0 (1 :: lineEntry)) run).terminalLink.intake
        = [{ reading := .lineConditions 0 2000, arrival := 0 }]
      ∧ resultOn .ship (after (.postReadings .ship 0 (1 :: lineEntry)) run) = some .owner := by decide +kernel

/-! ### Proposals and endorsement (spec/02 section 2.8, spec/01 section 1.7.1) -/

/-- A PROPOSE BEGIN payload (R191). -/
def beginPayload (k : RecordSlot) (points : Nat) (d : Digest) (c : Content) : List Byte :=
  slotCode k :: BitVec.ofNat 8 points :: (leBytes 4 d.toNat ++ headerBytes c)

/-- A PROPOSE SEGMENT payload (R191). -/
def segmentPayload (k : RecordSlot) (number : Nat) (points : List Breakpoint) : List Byte :=
  slotCode k :: BitVec.ofNat 8 number :: BitVec.ofNat 8 points.length :: points.flatMap breakpointBytes

/-- An ENDORSE payload (R188). -/
def endorsePayload (k : RecordSlot) (d : Digest) : List Byte := slotCode k :: leBytes 4 d.toNat

/-- A table of `n` breakpoints, a litre to the millimetre. -/
def plainTable (n : Nat) : List Breakpoint := (List.range n).map fun i => ⟨i, i⟩

/-- T07 replaced: 50 points proposed with a pool of 600. -/
def t07Begin : State :=
  after (.proposeBegin .terminal 0 (beginPayload (.shore 6) 50 (recordDigest t03 (plainTable 50)) t03))
    (setPoolFree 600 run)

theorem test_propose_begin_takes_points :
    t07Begin.poolFree = 550 ∧ resultOn .terminal t07Begin = some .accepted
      ∧ ((t07Begin.slot (.shore 6)).pending.map fun v => (v.received, v.expected)) = some (0, 3) := by decide +kernel

theorem test_propose_begin_pool_full :
    resultOn .terminal
        (after (.proposeBegin .terminal 0 (beginPayload (.shore 2) 220 (recordDigest t03 []) t03)) (setPoolFree 192 run))
      = some .poolFull := by decide +kernel

/-- T07 with `n` segments received of a table of `p` points. -/
def t07After (p n : Nat) : State :=
  setSlot (.shore 6)
    { current := none, last := .none
      pending := some
        { assembly := some { start := 90, duration := 600 }, content := t03, declaredPoints := p
          declaredDigest := recordDigest t03 (plainTable p), proposer := .terminal, points := (plainTable p).take (24 * n)
          received := n, expected := segmentCount p, restoring := false } } (setPoolFree (600 - p) (atClock 130 run))

theorem test_segment_out_of_turn :
    resultOn .terminal
        (after (.proposeSegment .terminal 0 (segmentPayload (.shore 6) 3 ((plainTable 50).drop 48))) (t07After 50 1))
      = some .segment := by decide +kernel

theorem test_last_segment_proposes :
    ((after (.proposeSegment .terminal 0 (segmentPayload (.shore 6) 1 (plainTable 4))) (t07After 4 0)).slot
        (.shore 6)).pending.map (fun v => (v.assembly.isSome, v.points.length)) = some (false, 4) := by decide +kernel

/-- T07 with a table of four points PROPOSED. -/
def t07Proposed : State := propose (.shore 6) (proposal .terminal t03 (plainTable 4)) (setPoolFree 600 run)

theorem test_wrong_digest_is_rejected :
    ((after (.endorse .ship 0 (endorsePayload (.shore 6) 0)) t07Proposed).slot (.shore 6)).last = .rejected .counterMismatch
      ∧ (after (.endorse .ship 0 (endorsePayload (.shore 6) 0)) t07Proposed).poolFree = 600 := by decide +kernel

theorem test_endorsement_enters_force :
    let t := after (.endorse .ship 0 (endorsePayload (.shore 6) (recordDigest t03 (plainTable 4))))
      (setSlot (.shore 6) { t07Proposed.slot (.shore 6) with current := some (inForceVersion t03 (plainTable 120)) }
        t07Proposed)
    t.poolFree = 716 ∧ (t.slot (.shore 6)).last = .enteredForce := by decide +kernel

theorem test_early_endorsement : resultOn .ship (after (.endorse .ship 0 (endorsePayload (.shore 6) 0)) (t07After 50 1)) = some .state := by
  decide +kernel

theorem test_decline :
    ((after (.decline .ship 0 [slotCode (.shore 6)]) t07Proposed).slot (.shore 6)).last = .rejected .declined := by
  decide +kernel

theorem test_withdraw_pending_by_the_counterpart :
    resultOn .ship (after (.withdrawPending .ship 0 [slotCode (.shore 6)]) t07Proposed) = some .owner := by decide +kernel

theorem test_withdraw_current_in_use :
    resultOn .ship (after (.withdrawCurrent .ship 0 [slotCode (.ship 4)]) (voyage .defined)) = some .bound := by
  decide +kernel

theorem test_assembly_expires_after_its_timeout :
    ((after (.assemblyTimeout (.shore 6)) (atClock 691 (t07After 50 1))).slot (.shore 6)).last = .rejected .timeout
      ∧ ((after (.assemblyTimeout (.shore 6)) (atClock 690 (t07After 50 1))).slot (.shore 6)).last = .none := by
  decide +kernel

/-- The slot report of S05 begins with its masks and IN_FORCE (R192). -/
theorem test_read_record_state :
    (match (after (.readRecordState .ship 0 [slotCode (.ship 4)]) records).shipLink.controller with
      | .answering a => (a.result, a.body.take 2)
      | _ => (.state, [])) = (.done, [0x23, 1]) := by decide +kernel

theorem test_audit_marks_suspect :
    let s := setSlot .vessel { current := some { inForceVersion vessel [] with digest := 0 }, pending := none, last := .none }
      { run with walk := some 0 }
    ((after .auditWalkStep s).slot .vessel).last = .suspect ∧ (after .auditWalkStep s).walk = some 1 := by decide +kernel

theorem test_audit_walk_starts :
    (after .auditTimerExpiry { records with auditTimer := some { start := 0, duration := 3140 } }).walk = some 1
      ∧ ((after .auditTimerExpiry { records with auditTimer := some { start := 0, duration := 3140 } }).slot
          .vessel).current.map (fun v => v.auditCount) = some 1 := by decide +kernel

/-! ### Parcels (spec/06 section 6.11) -/

theorem test_first_declaration :
    resultOn .ship (after (.declareOpen .ship 0 [2, 0]) (voyage .defined)) = some .awaitingCounterpart := by decide +kernel

theorem test_second_declaration_opens :
    let t := after (.declareOpen .ship 0 [2, 0]) (declared (.parcel 1) .opening .terminal (gauged .defined))
    (t.parcel 1).state = .transfer
      ∧ ((t.parcel 1).opening.map fun o => (o.time, o.shipTotal, o.vef)) = some (3140, 4371092, 998500) := by
  decide +kernel

theorem test_resume :
    ((after (.declareResume .ship 0 [2, 0]) (declared (.parcel 1) .resume .terminal (voyage .suspended))).parcel 1).state
      = .transfer := by decide +kernel

theorem test_close :
    ((after (.declareClose .ship 0 [2, 0]) (declared (.parcel 1) .closing .terminal (gauged .settling))).parcel 1).state
      = .closed := by decide +kernel

theorem test_abandon :
    ((after (.declareAbandon .ship 0 [2, 0]) (declared (.parcel 1) .abandon .terminal (voyage .suspended))).parcel 1).state
      = .abandoned := by decide +kernel

theorem test_release :
    ((after (.declareRelease .ship 0 [2, 0]) (declared (.parcel 1) .release .terminal (voyage .closed))).parcel 1).state
      = .free := by decide +kernel

theorem test_call_clear :
    let t := after (.declareCallClear .ship 0 [0, 0]) (declared .unit .callClear .terminal (voyage .closed))
    (t.slot (.ship 4)).current = none ∧ (t.slot (.shore 2)).current.isSome = true ∧ (t.parcel 1).state = .free := by
  decide +kernel

theorem test_lapse_after_its_timeout :
    (after (.declarationLapse (.parcel 1) .opening) (atClock 12000 (declared (.parcel 1) .opening .ship
        (voyage .defined)))).concurrence.length = 1
      ∧ (after (.declarationLapse (.parcel 1) .opening) (atClock 12001 (declared (.parcel 1) .opening .ship
          (voyage .defined)))).concurrence = [] := by decide +kernel

theorem test_suspend_counts :
    (((after (.suspend .terminal 0 [2]) (voyage .transfer)).parcel 1).suspensions,
        ((after (.suspend .terminal 0 [2]) (voyage .transfer)).parcel 1).reason)
      = (some 1, some .terminalRequest) := by decide +kernel

theorem test_transfer_end :
    ((after (.transferEnd .ship 0 [2]) (voyage .transfer)).parcel 1).settle
      = some { start := 3140, settleTime := 900, expired := false } := by decide +kernel

theorem test_settle_timer :
    (((after (.settleTimerExpiry 1) (setParcel 1 { parcelIn .settling with settle := some ⟨2140, 100, false⟩ }
        records)).parcel 1).settle.map fun t => t.expired) = some true := by decide +kernel

theorem test_stop_line_suspends :
    let t := after (.stopLineAsserted .terminal) (voyage .transfer)
    ((t.parcel 1).state, (t.parcel 1).reason, t.terminalStop) = (.suspended, some .terminalStop, true) := by
  decide +kernel

theorem test_stop_line_clears_without_resuming :
    let t := after (.stopLineCleared .terminal) { voyage .suspended with terminalStop := true }
    ((t.parcel 1).state, t.terminalStop) = (.suspended, false) := by decide +kernel

/-! ### Reconciliation (spec/07 section 7.9) -/

/-- The opening of P2 in the example. -/
def p2Opening : OpeningFigures :=
  { time := 31400, shipVolumes := [4371092, 4120455], shoreVolumes := [12006300], shipTotal := 8491547
    shoreTotal := 12006300, vef := 998500 }

theorem test_second_expiry_is_outside :
    shipOutcome p2Record (quantitiesOf p2Record p2Opening 8492747 12067300)
      = { result := .graded .outside, difference := some (-62202), ratio := some (-999999) } := by decide

theorem test_expiry_120_is_watch :
    shipOutcome p2Record (quantitiesOf p2Record p2Opening 3786137 16702950)
      = { result := .graded .watch, difference := some 15829, ratio := some 3370 } := by decide

/-- The first expiry is below the minimum and raises the count. -/
theorem test_interval_expiry :
    let t := after .intervalTimerExpiry { gauged .transfer with intervalTimer := some { start := 2540, duration := 600 } }
    ((t.parcel 1).comparisons.map fun i => (i.evaluations, i.ship.counters.notEvaluated, i.ship.history.length))
        = some (1, 1, 0)
      ∧ t.intervalTimer = some { start := 3140, duration := 600 } := by decide +kernel

/-! ### The trail (spec/08 section 8.2.1) and the other reads -/

/-- The trail of the example: records 45 to 300. -/
def trailing : State :=
  { run with
    trail := (List.range' 45 256).map fun n => { seq := n, time := 0, body := .callClear }
    newest := 300 }

/-- The answer body's head: newest, oldest, first returned, count and flags. -/
def trailHead (s : State) : List Byte :=
  match s.shipLink.controller with
  | .answering a => a.body.take 14
  | _ => []

theorem test_read_trail_gap :
    trailHead (after (.readTrail .ship 0 [41, 0, 0, 0, 4]) trailing)
      = [44, 1, 0, 0, 45, 0, 0, 0, 45, 0, 0, 0, 4, 1] := by decide +kernel

theorem test_read_trail_ahead : resultOn .ship (after (.readTrail .ship 0 [46, 1, 0, 0, 1]) trailing) = some .seqAhead := by
  decide +kernel

theorem test_append_to_full_trail :
    (appendTrail .callClear trailing).newest = 301 ∧ (appendTrail .callClear trailing).oldest = 46 := by decide +kernel

theorem test_read_tank_source :
    (match (after (.readTank .ship 0 [slotCode (.ship 4)]) (gauged .defined)).shipLink.controller with
      | .answering a => (a.result, a.body.take 6)
      | _ => (.state, [])) = (.done, [0, 0, 0, 0, 0, 5]) := by decide +kernel

theorem test_read_parcel :
    resultOn .ship (after (.readParcel .ship 0 0 [2]) (voyage .transfer)) = some .done := by decide +kernel

/-- The closing figures of a parcel with one ship tank, one shore tank and a meter: items and sizes (R128, R193). -/
theorem test_closing_items :
    let s := after (.declareClose .ship 0 [2, 0]) (declared (.parcel 1) .closing .terminal (gauged .settling))
    (s.closingReported 1).map (fun c => (closingItems c).map fun v => (v.1, v.2.length)) =
      some [(.time, 4), (.shipTank 0, 4), (.shoreTank 0, 4), (.shipTotal, 8), (.shoreTotal, 8), (.metered, 8)] := by decide +kernel

/-- P2 CLOSED with the longest lists, the longest grade and its two entries. -/
def longest : State :=
  let record := { p2Record with
    grade := List.replicate 16 0x41, shipTanks := List.finRange 32, shoreTanks := List.finRange 16
    baseMinimum := some 1, watchBand := some 1, alarmBand := some 1, declareCount := some 1, clearCount := some 1 }
  let parcel := { parcelIn .closed with
    opening := some { time := 1000, shipVolumes := List.replicate 32 0, shoreVolumes := List.replicate 16 0,
                      shipTotal := 0, shoreTotal := 0, vef := 0 } }
  { setParcel 1 parcel (enforce (.parcel 1) (.parcel record) [] (voyage .closed)) with
    concurrence := [⟨.parcel 1, .release, .ship, 0, 900⟩, ⟨.unit, .callClear, .ship, 0, 900⟩] }

/-- The room for closing figures is what the longest fields of R193 leave of 243 bytes. -/
theorem test_closing_room :
    ∀ part, (longest.parcelFields .ship 1 part).length + closingRoom part = 243 := by decide +kernel

theorem test_read_final_before_close :
    resultOn .ship (after (.readFinal .ship 0 0 [2]) (voyage .transfer)) = some .state := by decide +kernel

/-! ### Full reset, the load and the store (spec/10 section 10.6) -/

theorem test_reset_begin :
    (after (.fullResetBegin .resetLine) (voyage .transfer)).unit = .inactive
      ∧ ((after (.fullResetBegin .resetLine) (voyage .transfer)).parcel 1).state = .free := by decide +kernel

theorem test_reset_end : (after .fullResetEnd { State.reset with unit := .inactive }).unit = .starting := by decide

/-- The supply falls within a reset that the reset line began: the contact opens (R152, R196, R203). -/
theorem test_power_lost_within_reset :
    let s := after (.fullResetBegin .resetLine) run
    s.contactClosed = true ∧ (after (.fullResetBegin .powerUp) s).contactClosed = false
      ∧ (after (.fullResetBegin .powerUp) s).resetCause = .resetLine
      ∧ (after .fullResetEnd (after (.fullResetBegin .powerUp) s)).contactClosed = true := by decide

/-- A slot restored with a DEGRADED last evaluation shows in the alarm summary when the load ends, not before (R153, R159). -/
theorem test_degraded_shows_when_running :
    let s := bringUp 1 { parcelIn .suspended with
      comparisons := some { freshItems p2Record with lastKind := some .degraded } } { records with unit := .starting }
    s.anyDegraded = false ∧ (completeLoad s).anyDegraded = true := by decide +kernel

/-- The threshold is 48 while the unit is STARTING, whatever the load has placed (R54, log 26). -/
theorem test_threshold_while_starting :
    let s := setLink .ship { LinkUnit.reset with threshold := 56 } run
    ({ s with unit := .starting } : State).thresholdInUse .ship = 48 ∧ s.thresholdInUse .ship = 56 := by decide

theorem test_load_start :
    (after .storeLoadStart State.reset).load = .records 0 ∧ (after .storeLoadStart State.reset).newest = 1 := by decide

theorem test_load_ends_with_the_last_slot :
    (after .storeLoadCheckpoint { State.reset with load := .checkpoints 5 }).unit = .running := by decide +kernel

theorem test_load_passes_over_a_slot : (after .storeLoadRecord { State.reset with load := .records 58 }).load = .records 59 := by
  decide +kernel

theorem test_load_of_links_is_last_before_checkpoints :
    (after .storeLoadLinkParameters { State.reset with load := .linkParameters .terminal }).load = .checkpoints 0 := by
  decide +kernel

/-- The first write of an object has generation 1 (R202). -/
theorem test_write_completes :
    let t := after .storeWriteComplete { run with inFlight := some { object := .checkpoint 4, content := .removal } }
    (match (t.places (.checkpoint 4)).first with
      | .copy c => (c.generation, t.inFlight)
      | _ => (0, none)) = (1, none) := by decide +kernel

/-! ## Witnesses: the hypotheses of every statement met together, each clause at a boundary of its range -/

/-- The premises of `ReadyRunning`, evaluated. -/
theorem readyRunning_of {l : Link} {payload : List Byte} {s : State}
    (h : (s.unit = .running ∧ s.unit ≠ .inactive ∧ (s.link l).discarding = false ∧ (s.link l).controller = .free)
      ∧ payload.length ≤ 240) : ReadyRunning l payload s :=
  ⟨h.1.1, h.1.2.1, h.1.2.2.1, h.1.2.2.2, h.2⟩

/-! ### The queue and the taking of a request -/

theorem witness_StepTakesFront :
    ({ run with pending := [.idleGap .ship, .fullResetEnd] } : State).pending = .idleGap .ship :: [.fullResetEnd] := rfl

theorem witness_QueueAndClock_command : exec (.meterPulse 0) run = .next (after (.meterPulse 0) run) := rfl

theorem witness_QueueAndClock_tick : run.pending = [] ∧ run.unit ≠ .inactive := by decide

theorem witness_QueueAndClock_idle :
    ({ State.reset with unit := .inactive } : State).pending = []
      ∧ ({ State.reset with unit := .inactive } : State).unit = .inactive := by decide

theorem witness_FrameTaken_restored : (restoring.link .ship).state = .lost ∧ 2 ≤ (restoring.link .ship).restoreCount := by
  decide

theorem witness_FrameTaken_not_restored :
    let s := setLink .ship { restoring.shipLink with restoreCount := 1 } restoring
    ¬((s.link .ship).state = .lost ∧ 2 ≤ (s.link .ship).restoreCount) := by decide

/-- The longest payload a frame carries, and one byte more. -/
def longPayload (n : Nat) : List Byte := List.replicate n 0

theorem witness_RequestsNotTaken_inactive :
    requestOf (.hold .ship 0 []) = some (countedRequest .ship 0x48 0 [])
      ∧ ({ run with unit := .inactive } : State).unit = .inactive := by decide

theorem witness_RequestsNotTaken_discarding :
    requestOf (.hold .ship 0 []) = some (countedRequest .ship 0x48 0 [])
      ∧ ((setLink .ship { LinkUnit.reset with discarding := true } run).link .ship).discarding = true := by decide

theorem witness_RequestsNotTaken_too_long :
    requestOf (.hold .ship 0 (longPayload 241)) = some (countedRequest .ship 0x48 0 (longPayload 241))
      ∧ run.unit ≠ .inactive ∧ (run.link .ship).discarding = false ∧ 240 < (longPayload 241).length
      ∧ (run.link .ship).controller = .free := by decide +kernel

/-- A ship link that is still sending. -/
def busy : State := setLink .ship { LinkUnit.reset with controller := .sending [0] } run

theorem witness_RequestsNotTaken_busy :
    requestOf (.hold .ship 0 (longPayload 240)) = some (countedRequest .ship 0x48 0 (longPayload 240))
      ∧ busy.unit ≠ .inactive ∧ (busy.link .ship).discarding = false ∧ (longPayload 240).length ≤ 240
      ∧ (busy.link .ship).controller ≠ .free := by decide +kernel

theorem witness_StartingAnswersNotReady :
    requestOf (.hold .ship 0 []) = some (countedRequest .ship 0x48 0 [])
      ∧ (countedRequest .ship 0x48 0 []).ready = .whenRunning ∧ State.reset.unit = .starting
      ∧ Ready .ship [] State.reset := ⟨by decide, by decide, rfl, by decide, rfl, rfl, by decide⟩

theorem witness_RefusalsChangeNothing :
    requestOf (.hold .ship 7 [0]) = some (countedRequest .ship 0x48 7 [0]) ∧ Ready .ship [0] run
      ∧ exec (.hold .ship 7 [0]) run = .next (after (.hold .ship 7 [0]) run)
      ∧ ((after (.hold .ship 7 [0]) run).link .ship).controller
          = .answering { code := 0x48, tag := 7, result := .format, body := [] }
      ∧ isRefusal .format = true :=
  ⟨by decide, (readyRunning_of (by decide)).2, rfl, by decide, rfl⟩

/-! ### The link controllers -/

theorem witness_LinkRequestsAnswered : Ready .ship [] State.reset ∧ ([] : List Byte) = [] :=
  ⟨⟨by decide, rfl, rfl, by decide⟩, rfl⟩

theorem witness_LinkRequestsAnswered_format : Ready .ship [0] State.reset ∧ ([0] : List Byte) ≠ [] :=
  ⟨⟨by decide, rfl, rfl, by decide⟩, by decide⟩

theorem witness_LinkRequestsAnswered_undefined :
    Ready .ship (longPayload 240) State.reset ∧ requestDefined 0x24 2 = false ∧ requestDefined 0x04 0 = false :=
  ⟨⟨by decide, rfl, rfl, by decide +kernel⟩, by decide, by decide⟩

theorem witness_LinkParametersSet_lowest :
    ReadyRunning .ship [1, 10, 0] run ∧ 1 ≤ (1 : Byte).toNat ∧ (1 : Byte).toNat ≤ 63
      ∧ 10 ≤ (10 : Byte).toNat + 256 * (0 : Byte).toNat ∧ (10 : Byte).toNat + 256 * (0 : Byte).toNat ≤ 600 :=
  ⟨readyRunning_of (by decide), by decide⟩

theorem witness_LinkParametersSet_highest :
    ReadyRunning .ship [63, 0x58, 2] run ∧ 1 ≤ (63 : Byte).toNat ∧ (63 : Byte).toNat ≤ 63
      ∧ 10 ≤ (0x58 : Byte).toNat + 256 * (2 : Byte).toNat ∧ (0x58 : Byte).toNat + 256 * (2 : Byte).toNat ≤ 600 :=
  ⟨readyRunning_of (by decide), by decide⟩

theorem witness_LinkParametersSet_range :
    ReadyRunning .ship [63, 0x59, 2] run
      ∧ ¬(1 ≤ (63 : Byte).toNat ∧ (63 : Byte).toNat ≤ 63 ∧ 10 ≤ (0x59 : Byte).toNat + 256 * (2 : Byte).toNat
        ∧ (0x59 : Byte).toNat + 256 * (2 : Byte).toNat ≤ 600) :=
  ⟨readyRunning_of (by decide), by decide⟩

theorem witness_LinkParametersSet_format : ReadyRunning .ship [1, 10] run ∧ ([1, 10] : List Byte).length ≠ 3 :=
  ⟨readyRunning_of (by decide), by decide⟩

theorem witness_FaultsReported_free :
    run.unit ≠ .inactive ∧ (run.link .ship).discarding = false ∧ (run.link .ship).controller = .free := by decide

theorem witness_FaultsReported_busy :
    busy.unit ≠ .inactive ∧ (busy.link .ship).discarding = false ∧ (busy.link .ship).controller ≠ .free
      ∧ FrameFault.headerCrc ≠ .trailing := by decide

theorem witness_FaultsReported_discarding :
    let s := setLink .ship { LinkUnit.reset with discarding := true } run
    s.unit ≠ .inactive ∧ (s.link .ship).discarding = true := by decide

theorem witness_ResponseSentOnce_answering :
    ((after (.status .ship 0 []) run).link .ship).controller
      = .answering { code := 0x01, tag := 0, result := .done, body := [] } := by decide

theorem witness_ResponseSentOnce_sending : (busy.link .ship).controller = .sending [0] := by decide

theorem witness_LinkTimersExpire_lost :
    let s := atClock 60301 heard
    s.unit ≠ .inactive ∧ (s.link .ship).lastIntact = some 60000
      ∧ 10 * s.settingsInUse.silenceLimit < (s.clock - 60000).toNat ∧ (s.link .ship).state = .active := by decide +kernel

theorem witness_LinkTimersExpire_count_cleared :
    let s := atClock 61331 restoring
    s.unit ≠ .inactive ∧ (s.link .ship).lastIntact = some 61030
      ∧ 10 * s.settingsInUse.silenceLimit < (s.clock - 61030).toNat ∧ (s.link .ship).state = .lost := by decide +kernel

theorem witness_LinkTimersExpire_within :
    let s := atClock 60300 heard
    s.unit ≠ .inactive ∧ (s.link .ship).lastIntact = some 60000
      ∧ ((s.link .ship).state = .idle ∨ ¬10 * s.settingsInUse.silenceLimit < (s.clock - 60000).toNat) := by decide +kernel

/-- A terminal link that holds since 5,100.0 with a timeout of 120 s. -/
def holding : State := after (.hold .terminal 0 []) (atClock 51000 run)

theorem witness_LinkTimersExpire_hold :
    ∃ h, ((atClock 52200 holding).link .terminal).hold = some h ∧ 10 * h.timeout ≤ (52200 - h.time : Clock).toNat :=
  ⟨_, rfl, by decide +kernel⟩

theorem witness_LinkTimersExpire_hold_stands :
    ∃ h, ((atClock 52199 holding).link .terminal).hold = some h ∧ (52199 - h.time : Clock).toNat < 10 * h.timeout :=
  ⟨_, rfl, by decide +kernel⟩

theorem witness_HoldTaken : ReadyRunning .ship [] run ∧ ReadyRunning .ship [0] run ∧ ([0] : List Byte) ≠ [] :=
  ⟨readyRunning_of (by decide), readyRunning_of (by decide), by decide⟩

theorem witness_HoldReleased_starting : Ready .ship [] State.reset ∧ State.reset.unit = .starting :=
  ⟨⟨by decide, rfl, rfl, by decide⟩, rfl⟩

theorem witness_HoldReleased_format : Ready .ship [0] run ∧ run.unit = .running ∧ ([0] : List Byte) ≠ [] :=
  ⟨(readyRunning_of (by decide)).2, rfl, by decide⟩

theorem witness_HoldReleased_none : Ready .ship [] run ∧ run.unit = .running ∧ (run.link .ship).hold = none :=
  ⟨(readyRunning_of (by decide)).2, rfl, rfl⟩

theorem witness_HoldReleased_held :
    let s := after (.responseSent .terminal) (after (.responseSend .terminal) holding)
    Ready .terminal [] s ∧ s.unit = .running ∧ (s.link .terminal).hold ≠ none :=
  ⟨(readyRunning_of (by decide +kernel)).2, by decide +kernel, by decide +kernel⟩

/-! ### Readings -/

theorem witness_ReadingsPosted_format : ReadyRunning .ship [] run ∧ parsePosting [] = none :=
  ⟨readyRunning_of (by decide), rfl⟩

theorem witness_ReadingsPosted_owner :
    ReadyRunning .ship (1 :: lineEntry) run ∧ parsePosting (1 :: lineEntry) = some [.lineConditions 1 2000]
      ∧ ¬∀ e ∈ [EntryLayout.lineConditions 1 2000], entryPosted .ship e = true :=
  ⟨readyRunning_of (by decide), by decide +kernel, by decide⟩

theorem witness_ReadingsPosted_range :
    ReadyRunning .terminal [1, 4, 5, 0xD0, 0x07] run
      ∧ parsePosting [1, 4, 5, 0xD0, 0x07] = some [.lineConditions 5 2000]
      ∧ (∀ e ∈ [EntryLayout.lineConditions 5 2000], entryPosted .terminal e = true)
      ∧ ¬∀ e ∈ [EntryLayout.lineConditions 5 2000], (entryReading e).isSome = true ∧ entryInRange e = true :=
  ⟨readyRunning_of (by decide), by decide +kernel, by decide, by decide⟩

/-- A terminal queue of `n` entries. -/
def filled (n : Nat) : State :=
  setLink .terminal
    { LinkUnit.reset with intake := List.replicate n { reading := .lineConditions 0 0, arrival := 0 } } run

theorem witness_ReadingsPosted_full :
    ReadyRunning .terminal (1 :: lineEntry) (filled 64)
      ∧ parsePosting (1 :: lineEntry) = some [.lineConditions 1 2000]
      ∧ (∀ e ∈ [EntryLayout.lineConditions 1 2000], entryPosted .terminal e = true)
      ∧ (∀ e ∈ [EntryLayout.lineConditions 1 2000], (entryReading e).isSome = true ∧ entryInRange e = true)
      ∧ 64 < ((filled 64).link .terminal).intake.length + [EntryLayout.lineConditions 1 2000].length :=
  ⟨readyRunning_of (by decide), by decide +kernel, by decide, by decide, by decide +kernel⟩

theorem witness_ReadingsPosted_accepted :
    ReadyRunning .terminal (1 :: lineEntry) (filled 63)
      ∧ parsePosting (1 :: lineEntry) = some [.lineConditions 1 2000]
      ∧ (∀ e ∈ [EntryLayout.lineConditions 1 2000], entryPosted .terminal e = true)
      ∧ (∀ e ∈ [EntryLayout.lineConditions 1 2000], (entryReading e).isSome = true ∧ entryInRange e = true)
      ∧ ((filled 63).link .terminal).intake.length + [EntryLayout.lineConditions 1 2000].length ≤ 64 :=
  ⟨readyRunning_of (by decide), by decide +kernel, by decide, by decide, by decide +kernel⟩

theorem witness_ReadingsServed_starting : State.reset.unit ≠ .running := by decide

theorem witness_ReadingsServed_empty : run.shipLink.intake = [] ∧ run.terminalLink.intake = [] := by decide

theorem witness_ReadingsServed_in_turn :
    let s := queued .ship (.shipCondition condition) (filled 1)
    s.unit = .running ∧ s.shipLink.intake = { reading := .shipCondition condition, arrival := 3130 } :: []
      ∧ (s.terminalLink.intake = [] ∨ s.lastServed = .terminal) := by decide +kernel

theorem witness_ReadingsServed_terminal :
    let s := { queued .ship (.shipCondition condition) (filled 1) with lastServed := .ship }
    s.unit = .running ∧ s.terminalLink.intake = { reading := .lineConditions 0 0, arrival := 0 } :: []
      ∧ (s.shipLink.intake = [] ∨ s.lastServed = .ship) := by decide +kernel

/-- A tank reading waits at the ship link. -/
def waiting (n : Fin 32) (s : State) : State := queued .ship (.shipTank n s05Fields) s

def waitingEntry (n : Fin 32) : IntakeEntry := { reading := .shipTank n s05Fields, arrival := 3130 }

theorem witness_TankReadingTaken_current :
    (waiting 4 records).nextEntry = some (.ship, waitingEntry 4) ∧ (waitingEntry 4).reading = .shipTank 4 s05Fields
      ∧ ((waiting 4 records).slot (slotOfTank (.ship 4))).current ≠ none := by decide +kernel

theorem witness_TankReadingTaken_proposed :
    let s := waiting 13 (propose (.ship 13) (proposal .ship s05 s05Table) records)
    s.nextEntry = some (.ship, waitingEntry 13)
      ∧ ∃ v, (s.slot (slotOfTank (.ship 13))).pending = some v ∧ v.assembly = none :=
  ⟨by decide +kernel, proposal .ship s05 s05Table, by decide +kernel, rfl⟩

theorem witness_TankReadingTaken_unknown :
    let s := waiting 19 records
    s.nextEntry = some (.ship, waitingEntry 19)
      ∧ ¬((s.slot (slotOfTank (.ship 19))).current ≠ none
        ∨ ∃ v, (s.slot (slotOfTank (.ship 19))).pending = some v ∧ v.assembly = none) := by
  refine ⟨by decide +kernel, ?_⟩
  have h : ((waiting 19 records).slot (slotOfTank (.ship 19))) = .reset := by decide +kernel
  rw [h]; simp [Slot.reset]

theorem witness_ShipConditionTaken :
    (queued .ship (.shipCondition condition) records).nextEntry
      = some (.ship, { reading := .shipCondition condition, arrival := 3130 }) := by decide +kernel

theorem witness_LineConditionsTaken_known :
    let s := queued .terminal (.lineConditions 2 3180) records
    s.nextEntry = some (.terminal, { reading := .lineConditions 2 3180, arrival := 3130 })
      ∧ (s.slot (.meter 2)).current ≠ none := by decide +kernel

theorem witness_LineConditionsTaken_unknown :
    let s := queued .terminal (.lineConditions 3 3180) records
    s.nextEntry = some (.terminal, { reading := .lineConditions 3 3180, arrival := 3130 })
      ∧ ¬((s.slot (.meter 3)).current ≠ none ∨ ∃ v, (s.slot (.meter 3)).pending = some v ∧ v.assembly = none) := by
  refine ⟨by decide +kernel, ?_⟩
  have h : ((queued .terminal (.lineConditions 3 3180) records).slot (.meter 3)) = .reset := by decide +kernel
  rw [h]; simp [Slot.reset]

theorem witness_VolumeWithinTable :
    tableValid s05Table = true ∧ s05Table.head? = some ⟨0, 0⟩ ∧ (⟨13800, 4478200⟩ : Breakpoint) ∈ s05Table
      ∧ ((topLevel s05Table : Nat) : Int) ≤ 13800 ∧ (0 : Int) ≤ 0 := by decide

theorem witness_VolumeWithinTable_figure :
    tableValid (⟨.shore, [1000], t03Table, 0, 0⟩ : TankBasis).table = true
      ∧ ∀ t, some (15000 : Int) = some t → -4000 ≤ t ∧ t ≤ 15000 :=
  ⟨by decide, fun t h => by cases h; decide⟩

theorem witness_QuotientsRounded :
    0 < 10 ∧ 2 * ((25 : Int) - (10 : Nat) * roundDiv 25 10).natAbs = 10
      ∧ 2 * ((-25 : Int) - (10 : Nat) * roundDiv (-25) 10).natAbs = 10 := by decide

/-! ### The record set -/

/-- The layout of P2's content header. -/
def p2Layout : ParcelLayout :=
  { grade := name, direction := 1, shipTanks := [5], shoreTanks := [3], meter := 3, a := 9500, b := 800, applyVef := 1,
    presence := 0, baseMinimum := 0, watchBand := 0, alarmBand := 0, declareCount := 0, clearCount := 0 }

theorem witness_CanonicalForm_plain :
    (parseHeader .vessel (headerBytes vessel) = some (.plain vessel) ∧ headerRefusal (.plain vessel) = none)
      ∧ (parseHeader (.ship 31) (headerBytes s05) = some (.plain s05) ∧ headerRefusal (.plain s05) = none)
      ∧ (parseHeader (.shore 15) (headerBytes t03) = some (.plain t03) ∧ headerRefusal (.plain t03) = none)
      ∧ (parseHeader (.meter 3) (headerBytes m3) = some (.plain m3) ∧ headerRefusal (.plain m3) = none)
      ∧ (parseHeader .settings (headerBytes (.settings defaultSettings)) = some (.plain (.settings defaultSettings))
        ∧ headerRefusal (.plain (.settings defaultSettings)) = none) := by decide +kernel

theorem witness_CanonicalForm_parcel :
    parseHeader (.parcel 5) (headerBytes p2) = some (.parcel p2Layout) ∧ headerRefusal (.parcel p2Layout) = none := by
  decide +kernel

theorem witness_CanonicalForm_segments :
    parseSegment (segmentPayload (.shore 6) 1 (plainTable 1)) = some ⟨0x37, 1, plainTable 1⟩
      ∧ parseSegment (segmentPayload (.shore 6) 1 (plainTable 24)) = some ⟨0x37, 1, plainTable 24⟩ := by decide +kernel

/-- The premises of a tank proposal of `n` points, T07 with the whole pool just large enough. -/
def TankProposalMet (n : Nat) : Prop :=
  let s := setPoolFree n run
  let payload := beginPayload (.shore 6) n 5 t03
  ReadyRunning .terminal payload s
    ∧ parseBegin payload = some { identifier := 0x37, points := n, digest := 5, header := headerBytes t03 }
    ∧ slotOfCode 0x37 = some (.shore 6) ∧ tankOfSlot (.shore 6) = some (.shore 6)
    ∧ parseHeader (.shore 6) (headerBytes t03) = some (.plain t03) ∧ ownsKind .terminal (.shore 6) = true
    ∧ (s.slot (.shore 6)).pending = none ∧ headerRefusal (.plain t03) = none ∧ 2 ≤ n ∧ n ≤ 240 ∧ n ≤ s.poolFree

theorem witness_TankProposalAssembles_least : TankProposalMet 2 := ⟨readyRunning_of (by decide), by decide +kernel⟩

theorem witness_TankProposalAssembles_most : TankProposalMet 240 := ⟨readyRunning_of (by decide), by decide +kernel⟩

theorem witness_TankProposalAssembles_restoring :
    let v := { inForceVersion t03 t03Table with suspect := true, digest := 5 }
    let s := setSlot (.shore 6) { current := some v, pending := none, last := .suspect } run
    (s.slot (.shore 6)).current = some v ∧ v.suspect = true ∧ v.digest = 5 := by decide +kernel

/-- The premises of the refusals of a PROPOSE BEGIN of `c` on `l` from its header on. -/
def BeginRefused (l : Link) (k : RecordSlot) (points : Nat) (d : Digest) (c : Content) (s : State) : Prop :=
  let payload := beginPayload k points d c
  ReadyRunning l payload s
    ∧ parseBegin payload = some { identifier := slotCode k, points, digest := d, header := headerBytes c }
    ∧ slotOfCode (slotCode k) = some k ∧ (parseHeader k (headerBytes c)).isSome = true

theorem witness_TankProposalAssembles_format_range :
    ReadyRunning .ship [1] run ∧ parseBegin [1] = none ∧ ReadyRunning .ship [0x41, 2, 0, 0, 0, 0] run
      ∧ (parseBegin [0x41, 2, 0, 0, 0, 0]).map (fun b => slotOfCode b.identifier) = some none
      ∧ (parseBegin [0x37, 2, 0, 0, 0, 0]).map (fun b => parseHeader (.shore 6) b.header) = some none :=
  ⟨readyRunning_of (by decide +kernel), by decide, readyRunning_of (by decide +kernel), by decide +kernel⟩

theorem witness_TankProposalAssembles_owner : BeginRefused .ship (.shore 6) 2 5 t03 run ∧ ¬Link.ship = .terminal :=
  ⟨⟨readyRunning_of (by decide), by decide +kernel⟩, by decide⟩

theorem witness_TankProposalAssembles_pending :
    BeginRefused .terminal (.shore 6) 2 5 t03 t07Proposed ∧ (t07Proposed.slot (.shore 6)).pending ≠ none :=
  ⟨⟨readyRunning_of (by decide +kernel), by decide +kernel⟩, by decide +kernel⟩

/-- A shore tank without probes, whose header is refused. -/
def unprobed : Content := .shoreTank { name, probes := [] }

theorem witness_TankProposalAssembles_header :
    BeginRefused .terminal (.shore 6) 2 5 unprobed run
      ∧ ((parseHeader (.shore 6) (headerBytes unprobed)).bind headerRefusal).isSome = true :=
  ⟨⟨readyRunning_of (by decide), by decide +kernel⟩, by decide +kernel⟩

theorem witness_TankProposalAssembles_points :
    BeginRefused .terminal (.shore 6) 1 5 t03 run ∧ BeginRefused .terminal (.shore 6) 241 5 t03 run
      ∧ headerRefusal (.plain t03) = none :=
  ⟨⟨readyRunning_of (by decide), by decide +kernel⟩, ⟨readyRunning_of (by decide), by decide +kernel⟩, by decide +kernel⟩

theorem witness_TankProposalAssembles_pool :
    BeginRefused .terminal (.shore 6) 240 5 t03 (setPoolFree 239 run) ∧ (setPoolFree 239 run).poolFree < 240
      ∧ parseHeader (.shore 6) (headerBytes t03) = some (.plain t03) ∧ headerRefusal (.plain t03) = none :=
  ⟨⟨readyRunning_of (by decide), by decide +kernel⟩, by decide, by decide +kernel⟩

/-- The premises of a whole proposal of content `c`, laid out as `h`, with declared digest `d`. -/
def WholeProposalMet (k : RecordSlot) (c : Content) (h : Header) (d : Digest) (s : State) : Prop :=
  let payload := beginPayload k 0 d c
  ReadyRunning .terminal payload s
    ∧ (parseBegin payload = some { identifier := slotCode k, points := 0, digest := d, header := headerBytes c }
      ∧ slotOfCode (slotCode k) = some k ∧ tankOfSlot k = none ∧ parseHeader k (headerBytes c) = some h
      ∧ ownsKind .terminal k = true ∧ (s.slot k).pending = none ∧ headerRefusal h = none)
    ∧ ∀ p, k = .parcel p → s.isRestoring k d = false → (s.parcel p).state = .free
      ∧ ∀ r, headerContent h = .parcel r → s.boundElsewhere p r = false ∧ s.namedInForce r = true

theorem witness_WholeProposalDecided_equal :
    WholeProposalMet (.meter 2) m3 (.plain m3) (recordDigest m3 []) run
      ∧ recordDigest (headerContent (.plain m3)) [] = recordDigest m3 [] :=
  ⟨⟨readyRunning_of (by decide +kernel), by decide +kernel, by intro p h; cases h⟩, rfl⟩

theorem witness_WholeProposalDecided_unequal :
    WholeProposalMet (.meter 2) m3 (.plain m3) 0 run ∧ recordDigest (headerContent (.plain m3)) [] ≠ 0 :=
  ⟨⟨readyRunning_of (by decide +kernel), by decide +kernel, by intro p h; cases h⟩, by decide +kernel⟩

theorem witness_WholeProposalDecided_parcel :
    WholeProposalMet (.parcel 2) p2 (.parcel p2Layout) (recordDigest p2 []) records
      ∧ recordDigest (headerContent (.parcel p2Layout)) [] = recordDigest p2 []
      ∧ headerContent (.parcel p2Layout) = .parcel p2Record
      ∧ records.isRestoring (.parcel 2) (recordDigest p2 []) = false := by
  refine ⟨⟨readyRunning_of (by decide +kernel), by decide +kernel, ?_⟩, by decide +kernel⟩
  intro p h
  cases h
  refine fun _ => ⟨by decide +kernel, fun r h => ?_⟩
  have e : headerContent (.parcel p2Layout) = .parcel p2Record := by decide +kernel
  rw [e] at h
  cases h
  decide +kernel

/-- P2 in transfer with its record SUSPECT. -/
def suspectP2 : State :=
  setSlot (.parcel 1) { current := some { inForceVersion p2 [] with suspect := true }, pending := none, last := .suspect }
    (voyage .transfer)

theorem witness_WholeProposalDecided_restoring :
    WholeProposalMet (.parcel 1) p2 (.parcel p2Layout) (recordDigest p2 []) suspectP2
      ∧ suspectP2.isRestoring (.parcel 1) (recordDigest p2 []) = true := by
  refine ⟨⟨readyRunning_of (by decide +kernel), by decide +kernel, ?_⟩, by decide +kernel⟩
  intro p h hr
  cases h
  exact absurd hr (by decide +kernel)

theorem witness_WholeProposalDecided_not_free :
    BeginRefused .ship (.parcel 1) 0 5 p2 (voyage .transfer) ∧ ((voyage .transfer).parcel 1).state ≠ .free
      ∧ ((voyage .transfer).slot (.parcel 1)).current.map (fun v => v.suspect) = some false :=
  ⟨⟨readyRunning_of (by decide +kernel), by decide +kernel⟩, by decide +kernel⟩

/-- `m3` with a K-factor of 0, whose header is refused. -/
def uncalibrated : Content := .meter { m3Record with kFactor := 0 }

theorem witness_WholeProposalDecided_header :
    BeginRefused .terminal (.meter 2) 0 5 uncalibrated run
      ∧ ((parseHeader (.meter 2) (headerBytes uncalibrated)).bind headerRefusal).isSome = true :=
  ⟨⟨readyRunning_of (by decide), by decide +kernel⟩, by decide +kernel⟩

theorem witness_WholeProposalDecided_points :
    BeginRefused .terminal (.meter 2) 1 5 m3 run ∧ headerRefusal (.plain m3) = none :=
  ⟨⟨readyRunning_of (by decide), by decide +kernel⟩, by decide +kernel⟩

theorem witness_WholeProposalDecided_bound :
    let s := voyage .defined
    BeginRefused .ship (.parcel 2) 0 5 p2 s ∧ s.boundRecord 1 = some p2Record
      ∧ (TankId.ship 4) ∈ tanksNamed p2Record ∧ p2Record.meter = some 2 ∧ (s.slot (.parcel 2)).current = none :=
  ⟨⟨readyRunning_of (by decide +kernel), by decide +kernel⟩, by decide +kernel⟩

theorem witness_WholeProposalDecided_not_in_force :
    BeginRefused .ship (.parcel 2) 0 5 p2 run ∧ (∀ q, run.boundRecord q = none) ∧ run.inForce (.ship 4) = none :=
  ⟨⟨readyRunning_of (by decide), by decide +kernel⟩, by decide +kernel⟩

/-- P3 PROPOSED beside the voyage's records. -/
def proposedP3 : State :=
  setParcel 2 { Parcel.reset with state := .proposed } (propose (.parcel 2) (proposal .terminal p2 []) records)

theorem witness_RejectionRemoves_tank :
    (t07Proposed.slot (.shore 6)).pending = some (proposal .terminal t03 (plainTable 4))
      ∧ slotOfTank (.shore 6) = .shore 6 ∧ (t07Proposed.slot (.shore 6)).current = none
      ∧ ¬∃ p, RecordSlot.shore 6 = .parcel p ∧ (t07Proposed.parcel p).state = .proposed :=
  ⟨by decide +kernel, rfl, by decide +kernel, by simp⟩

theorem witness_RejectionRemoves_parcel :
    (proposedP3.slot (.parcel 2)).pending = some (proposal .terminal p2 []) ∧ (proposedP3.parcel 2).state = .proposed := by
  decide +kernel

theorem witness_PendingVersionEnded_endorse :
    let v := proposal .terminal t03 (plainTable 4)
    ReadyRunning .ship (endorsePayload (.shore 6) 0) t07Proposed
      ∧ slotOfCode 0x37 = some (.shore 6) ∧ (t07Proposed.slot (.shore 6)).pending = some v
      ∧ parseEndorse (endorsePayload (.shore 6) 0) = some (0x37, 0) ∧ v.assembly = none ∧ v.proposer ≠ .ship
      ∧ t07Proposed.inUse (.shore 6) = false ∧ v.declaredDigest ≠ 0 :=
  ⟨readyRunning_of (by decide +kernel), by decide +kernel⟩

theorem witness_PendingVersionEnded_decline :
    let v := proposal .terminal t03 (plainTable 4)
    ReadyRunning .ship [0x37] t07Proposed ∧ slotOfCode 0x37 = some (.shore 6)
      ∧ (t07Proposed.slot (.shore 6)).pending = some v ∧ v.assembly = none ∧ v.proposer ≠ .ship :=
  ⟨readyRunning_of (by decide +kernel), by decide +kernel⟩

theorem witness_PendingVersionEnded_withdraw :
    let v := proposal .terminal t03 (plainTable 4)
    ReadyRunning .terminal [0x37] t07Proposed ∧ slotOfCode 0x37 = some (.shore 6)
      ∧ (t07Proposed.slot (.shore 6)).pending = some v ∧ v.proposer = .terminal :=
  ⟨readyRunning_of (by decide +kernel), by decide +kernel⟩

theorem witness_PendingVersionEnded_timeout :
    ∃ v, ((atClock 691 (t07After 50 1)).slot (.shore 6)).pending = some v
      ∧ v.assembly = some { start := 90, duration := 600 } ∧ 600 < (691 - 90 : Clock).toNat
      ∧ (690 - 90 : Clock).toNat ≤ 600 := ⟨_, rfl, rfl, by decide, by decide⟩

theorem witness_PendingVersionEnded_refused :
    ReadyRunning .ship [] run ∧ ([] : List Byte).length ≠ 1 ∧ ReadyRunning .ship [0x41] run ∧ slotOfCode 0x41 = none
      ∧ ReadyRunning .ship [0x37] run ∧ (run.slot (.shore 6)).pending = none :=
  ⟨readyRunning_of (by decide), by decide, readyRunning_of (by decide), by decide, readyRunning_of (by decide),
    by decide +kernel⟩

theorem witness_PendingVersionEnded_assembling :
    ReadyRunning .ship [0x37] (t07After 50 1)
      ∧ ((t07After 50 1).slot (.shore 6)).pending.map (fun v => v.assembly.isSome) = some true :=
  ⟨readyRunning_of (by decide +kernel), by decide +kernel⟩

theorem witness_PendingVersionEnded_owner :
    let v := proposal .terminal t03 (plainTable 4)
    ReadyRunning .terminal [0x37] t07Proposed ∧ ReadyRunning .ship [0x37] t07Proposed
      ∧ (t07Proposed.slot (.shore 6)).pending = some v ∧ v.assembly = none ∧ v.proposer = .terminal :=
  ⟨readyRunning_of (by decide +kernel), readyRunning_of (by decide +kernel), by decide +kernel⟩

/-- The premises of a segment `g` for T07 of `p` points after `n` segments. -/
def SegmentMet (p n : Nat) (g : SegmentLayout) : Prop :=
  let s := t07After p n
  let payload := segmentPayload (.shore 6) g.number g.points
  ReadyRunning .terminal payload s ∧ ∃ v, (s.slot (.shore 6)).pending = some v
    ∧ (parseSegment payload = some g ∧ slotOfCode g.identifier = some (.shore 6) ∧ (tankOfSlot (.shore 6)).isSome = true
      ∧ v.assembly = some { start := 90, duration := 600 } ∧ v.proposer = .terminal ∧ g.number = v.received + 1
      ∧ (g.number < v.expected → g.points.length = 24))

theorem witness_SegmentTaken_fault :
    SegmentMet 4 0 ⟨0x37, 1, (plainTable 4).reverse⟩ ∧ segmentFault none (plainTable 4).reverse = some .firstLevel :=
  ⟨⟨readyRunning_of (by decide +kernel), _, rfl, by decide +kernel⟩, by decide⟩

theorem witness_SegmentTaken_middle :
    SegmentMet 50 0 ⟨0x37, 1, plainTable 24⟩ ∧ segmentFault none (plainTable 24) = none ∧ 1 < segmentCount 50 :=
  ⟨⟨readyRunning_of (by decide +kernel), _, rfl, by decide +kernel⟩, by decide +kernel⟩

theorem witness_SegmentTaken_point_count :
    SegmentMet 4 0 ⟨0x37, 1, plainTable 3⟩ ∧ segmentFault none (plainTable 3) = none ∧ ¬1 < segmentCount 4
      ∧ (plainTable 3).length ≠ 4 - 24 * (segmentCount 4 - 1) :=
  ⟨⟨readyRunning_of (by decide +kernel), _, rfl, by decide +kernel⟩, by decide⟩

theorem witness_SegmentTaken_digest :
    SegmentMet 4 0 ⟨0x37, 1, [⟨0, 0⟩, ⟨1, 1⟩, ⟨2, 2⟩, ⟨3, 4⟩]⟩
      ∧ segmentFault none [⟨0, 0⟩, ⟨1, 1⟩, ⟨2, 2⟩, ⟨3, 4⟩] = none ∧ ¬1 < segmentCount 4
      ∧ [(⟨0, 0⟩ : Breakpoint), ⟨1, 1⟩, ⟨2, 2⟩, ⟨3, 4⟩].length = 4 - 24 * (segmentCount 4 - 1)
      ∧ recordDigest t03 [⟨0, 0⟩, ⟨1, 1⟩, ⟨2, 2⟩, ⟨3, 4⟩] ≠ recordDigest t03 (plainTable 4) :=
  ⟨⟨readyRunning_of (by decide +kernel), _, rfl, by decide +kernel⟩, by decide +kernel⟩

theorem witness_SegmentTaken_last :
    SegmentMet 4 0 ⟨0x37, 1, plainTable 4⟩ ∧ segmentFault none (plainTable 4) = none ∧ ¬1 < segmentCount 4
      ∧ (plainTable 4).length = 4 - 24 * (segmentCount 4 - 1) :=
  ⟨⟨readyRunning_of (by decide +kernel), _, rfl, by decide +kernel⟩, by decide⟩

/-- The premises of the refusals of a PROPOSE SEGMENT `g` on `l`. -/
def SegmentRefused (l : Link) (g : SegmentLayout) (k : RecordSlot) (s : State) : Prop :=
  let payload := segmentPayload k g.number g.points
  ReadyRunning l payload s ∧ parseSegment payload = some g ∧ slotOfCode g.identifier = some k

theorem witness_SegmentTaken_format_range :
    ReadyRunning .terminal [0x37, 1, 0] run ∧ parseSegment [0x37, 1, 0] = none
      ∧ ReadyRunning .terminal [0x41, 1, 1, 0, 0, 0, 0, 0, 0] run
      ∧ (parseSegment [0x41, 1, 1, 0, 0, 0, 0, 0, 0]).map (fun g => slotOfCode g.identifier) = some none
      ∧ SegmentRefused .terminal ⟨slotCode .vessel, 1, plainTable 1⟩ .vessel run ∧ tankOfSlot .vessel = none :=
  ⟨readyRunning_of (by decide), by decide, readyRunning_of (by decide), by decide,
    ⟨readyRunning_of (by decide +kernel), by decide +kernel⟩, rfl⟩

theorem witness_SegmentTaken_state :
    SegmentRefused .terminal ⟨0x37, 1, plainTable 1⟩ (.shore 6) t07Proposed
      ∧ (t07Proposed.slot (.shore 6)).pending = some (proposal .terminal t03 (plainTable 4))
      ∧ (proposal .terminal t03 (plainTable 4)).assembly = none :=
  ⟨⟨readyRunning_of (by decide +kernel), by decide +kernel⟩, by decide +kernel, rfl⟩

theorem witness_SegmentTaken_refused (l : Link) :
    SegmentRefused l ⟨0x37, 1, plainTable 1⟩ (.shore 6) (t07After 50 0)
      ∧ SegmentRefused l ⟨0x37, 3, plainTable 1⟩ (.shore 6) (t07After 50 0)
      ∧ ((t07After 50 0).slot (.shore 6)).pending.map
          (fun v => (v.assembly.isSome, v.proposer, v.received + 1, v.expected)) = some (true, .terminal, 1, 3) := by
  cases l <;>
    exact ⟨⟨readyRunning_of (by decide +kernel), by decide +kernel⟩,
      ⟨readyRunning_of (by decide +kernel), by decide +kernel⟩, by decide +kernel⟩

/-- The premises of an endorsement by the ship of the version pending in slot `k`. -/
def EndorseMet (k : RecordSlot) (v : PendingVersion) (s : State) : Prop :=
  let payload := endorsePayload k v.declaredDigest
  ReadyRunning .ship payload s
    ∧ (parseEndorse payload = some (slotCode k, v.declaredDigest) ∧ slotOfCode (slotCode k) = some k
      ∧ (s.slot k).pending = some v ∧ v.assembly = none ∧ v.proposer ≠ .ship ∧ contentFits k v.content = true)
    ∧ (s.inUse k = false ∨ (s.slot k).current = none ∨ (v.restoring = true ∧ s.isSuspect k = true))

theorem witness_EndorsedEntersForce_vessel :
    EndorseMet .vessel (proposal .terminal vessel []) (propose .vessel (proposal .terminal vessel []) records) :=
  ⟨readyRunning_of (by decide +kernel), by decide +kernel, .inl (by decide +kernel)⟩

theorem witness_EndorsedEntersForce_tank :
    EndorseMet (.shore 2) (proposal .terminal t03 t03Table) (propose (.shore 2) (proposal .terminal t03 t03Table) records) :=
  ⟨readyRunning_of (by decide +kernel), by decide +kernel, .inl (by decide +kernel)⟩

theorem witness_EndorsedEntersForce_meter :
    EndorseMet (.meter 2) (proposal .terminal m3 []) (propose (.meter 2) (proposal .terminal m3 []) records) :=
  ⟨readyRunning_of (by decide +kernel), by decide +kernel, .inl (by decide +kernel)⟩

theorem witness_EndorsedEntersForce_settings :
    EndorseMet .settings (proposal .terminal (.settings defaultSettings) [])
      (propose .settings (proposal .terminal (.settings defaultSettings) []) records) :=
  ⟨readyRunning_of (by decide +kernel), by decide +kernel, .inr (.inl (by decide +kernel))⟩

theorem witness_EndorsedEntersForce_parcel :
    EndorseMet (.parcel 2) (proposal .terminal p2 []) proposedP3 ∧ (proposedP3.parcel 2).state = .proposed :=
  ⟨⟨readyRunning_of (by decide +kernel), by decide +kernel, .inr (.inl (by decide +kernel))⟩, by decide +kernel⟩

theorem witness_EndorsedEntersForce_restoring :
    let v := { proposal .terminal p2 [] with restoring := true }
    EndorseMet (.parcel 1) v (propose (.parcel 1) v suspectP2)
      ∧ ((propose (.parcel 1) v suspectP2).parcel 1).state ≠ .proposed :=
  ⟨⟨readyRunning_of (by decide +kernel), by decide +kernel, .inr (.inr (by decide +kernel))⟩, by decide +kernel⟩

theorem witness_EndorsedEntersForce_format_range :
    ReadyRunning .ship [0x37] run ∧ parseEndorse [0x37] = none ∧ ReadyRunning .ship [0x41, 0, 0, 0, 0] run
      ∧ parseEndorse [0x41, 0, 0, 0, 0] = some (0x41, 0) ∧ slotOfCode 0x41 = none :=
  ⟨readyRunning_of (by decide), by decide, readyRunning_of (by decide), by decide⟩

theorem witness_EndorsedEntersForce_state :
    ReadyRunning .ship (endorsePayload (.shore 6) 0) run ∧ (run.slot (.shore 6)).pending = none
      ∧ parseEndorse (endorsePayload (.shore 6) 0) = some (0x37, 0) ∧ slotOfCode 0x37 = some (.shore 6) :=
  ⟨readyRunning_of (by decide), by decide +kernel⟩

theorem witness_EndorsedEntersForce_owner :
    ReadyRunning .terminal (endorsePayload (.shore 6) 0) t07Proposed
      ∧ (t07Proposed.slot (.shore 6)).pending = some (proposal .terminal t03 (plainTable 4))
      ∧ (proposal .terminal t03 (plainTable 4)).proposer = .terminal :=
  ⟨readyRunning_of (by decide +kernel), by decide +kernel, rfl⟩

theorem witness_EndorsedEntersForce_in_use :
    let v := proposal .terminal t03 t03Table
    let s := propose (.shore 2) v (voyage .defined)
    ReadyRunning .ship (endorsePayload (.shore 2) 0) s ∧ (s.slot (.shore 2)).pending = some v ∧ v.assembly = none
      ∧ v.proposer ≠ .ship ∧ s.inUse (.shore 2) = true ∧ (s.slot (.shore 2)).current ≠ none ∧ v.restoring = false :=
  ⟨readyRunning_of (by decide +kernel), by decide +kernel⟩

/-- The premises of a withdrawal of the current version of slot `k`, which is not a parcel slot. -/
def WithdrawMet (l : Link) (k : RecordSlot) (v : CurrentVersion) (s : State) : Prop :=
  ReadyRunning l [slotCode k] s
    ∧ (slotOfCode (slotCode k) = some k ∧ (s.slot k).current = some v ∧ ownsKind l k = true)
    ∧ (k = .settings ∨ s.inUse k = false)

theorem witness_CurrentWithdrawn_tank : WithdrawMet .ship (.ship 4) (inForceVersion s05 s05Table) records :=
  ⟨readyRunning_of (by decide +kernel), by decide +kernel, .inr (by decide +kernel)⟩

theorem witness_CurrentWithdrawn_vessel : WithdrawMet .ship .vessel (inForceVersion vessel []) (voyage .defined) :=
  ⟨readyRunning_of (by decide +kernel), by decide +kernel, .inr (by decide +kernel)⟩

theorem witness_CurrentWithdrawn_meter : WithdrawMet .terminal (.meter 2) (inForceVersion m3 []) records :=
  ⟨readyRunning_of (by decide +kernel), by decide +kernel, .inr (by decide +kernel)⟩

theorem witness_CurrentWithdrawn_settings :
    WithdrawMet .terminal .settings (inForceVersion (.settings defaultSettings) [])
      (enforce .settings (.settings defaultSettings) [] run) :=
  ⟨readyRunning_of (by decide +kernel), by decide +kernel, .inl rfl⟩

theorem witness_CurrentWithdrawn_parcel :
    ReadyRunning .ship [0x62] (voyage .defined) ∧ slotOfCode 0x62 = some (.parcel 1)
      ∧ ((voyage .defined).slot (.parcel 1)).current = some (inForceVersion p2 [])
      ∧ (inForceVersion p2 []).content = .parcel p2Record ∧ ((voyage .defined).parcel 1).state = .defined :=
  ⟨readyRunning_of (by decide +kernel), by decide +kernel⟩

theorem witness_CurrentWithdrawn_state :
    ReadyRunning .ship [0x62] run ∧ slotOfCode 0x62 = some (.parcel 1) ∧ (run.slot (.parcel 1)).current = none
      ∧ ReadyRunning .ship [0x62] (voyage .transfer) ∧ ((voyage .transfer).slot (.parcel 1)).current ≠ none
      ∧ ((voyage .transfer).parcel 1).state ≠ .defined :=
  ⟨readyRunning_of (by decide), by decide, by decide +kernel, readyRunning_of (by decide +kernel), by decide +kernel⟩

theorem witness_CurrentWithdrawn_owner_bound :
    let b := slotCode (.ship 4)
    let s := voyage .defined
    ReadyRunning .terminal [b] s ∧ ownsKind .terminal (.ship 4) = false ∧ ReadyRunning .ship [b] s
      ∧ slotOfCode b = some (.ship 4) ∧ (s.slot (.ship 4)).current ≠ none ∧ ownsKind .ship (.ship 4) = true
      ∧ s.inUse (.ship 4) = true :=
  ⟨readyRunning_of (by decide +kernel), rfl, readyRunning_of (by decide +kernel), by decide +kernel⟩

theorem witness_ParcelEnds (st : ParcelState) (h : st = .defined ∨ st = .closed ∨ st = .abandoned) :
    ((voyage st).slot (.parcel 1)).current = some (inForceVersion p2 [])
      ∧ (inForceVersion p2 []).content = .parcel p2Record
      ∧ (((voyage st).parcel 1).state = .defined ∨ ((voyage st).parcel 1).state = .closed
        ∨ ((voyage st).parcel 1).state = .abandoned) := by
  rcases h with rfl | rfl | rfl <;> decide +kernel

theorem witness_ParcelEnds_restoring :
    let s := propose (.parcel 1) { proposal .terminal p2 [] with restoring := true } (voyage .closed)
    (s.slot (.parcel 1)).current = some (inForceVersion p2 []) ∧ (s.slot (.parcel 1)).pending.isSome = true
      ∧ (s.parcel 1).state = .closed := by decide +kernel

theorem witness_AuditSteps_timer :
    let s := { records with auditTimer := some { start := 0, duration := 3140 } }
    let early := atClock 3139 s
    (s.auditTimer = some ⟨0, 3140⟩ ∧ s.walk = none ∧ 3140 ≤ (s.clock - 0).toNat)
      ∧ early.auditTimer = some ⟨0, 3140⟩ ∧ early.walk = none ∧ (early.clock - 0).toNat < 3140 := by decide +kernel

theorem witness_AuditSteps_walk :
    ({ records with walk := some 58 } : State).walk = some 58 ∧ (58 : Fin 60) ≠ 59
      ∧ ({ records with walk := some 59 } : State).walk = some 59 := by decide +kernel

theorem witness_AuditSteps_none : records.inForce (.meter 3) = none := by decide +kernel

theorem witness_AuditSteps_equal :
    records.inForce .vessel = some (inForceVersion vessel [])
      ∧ recordDigest (inForceVersion vessel []).content (inForceVersion vessel []).points
        = (inForceVersion vessel []).digest := by decide +kernel

theorem witness_AuditSteps_unequal :
    let v := { inForceVersion vessel [] with digest := 0 }
    let s := setSlot .vessel { current := some v, pending := none, last := .none } records
    s.inForce .vessel = some v ∧ recordDigest v.content v.points ≠ v.digest := by decide +kernel

theorem witness_AuditSteps_settings :
    let c : Content := .settings { defaultSettings with silenceLimit := 300 }
    let v := { inForceVersion c [] with digest := 0 }
    let s := setSlot .settings { current := some v, pending := none, last := .none } records
    s.inForce .settings = some v ∧ recordDigest v.content v.points ≠ v.digest := by decide +kernel

theorem witness_AuditSteps_parcel :
    let v := { inForceVersion p2 [] with digest := 0 }
    let s := setSlot (.parcel 1) { current := some v, pending := none, last := .none } (voyage .transfer)
    s.inForce (.parcel 1) = some v ∧ recordDigest v.content v.points ≠ v.digest ∧ v.content = .parcel p2Record
      ∧ .ship 4 ∈ tanksNamed p2Record := by decide +kernel

/-! ### Parcels -/

def settling : State := setParcel 1 { parcelIn .settling with settle := some ⟨2140, 100, false⟩ } records

/-- P2's payload byte. -/
theorem p2_named : parcelOfByte 2 = some 1 := by decide

theorem witness_FirstDeclaration_open :
    ReadyRunning .ship [2, 0] (voyage .defined) ∧ ((voyage .defined).parcel 1).state = .defined
      ∧ (voyage .defined).shipStop = false ∧ (voyage .defined).terminalStop = false
      ∧ (voyage .defined).entry (.parcel 1) .opening = none :=
  ⟨readyRunning_of (by decide +kernel), by decide +kernel⟩

theorem witness_FirstDeclaration_resume :
    ReadyRunning .ship [2, 0] (voyage .suspended)
      ∧ (((voyage .suspended).parcel 1).state = .suspended ∨ ((voyage .suspended).parcel 1).state = .settling)
      ∧ (voyage .suspended).shipStop = false ∧ (voyage .suspended).terminalStop = false
      ∧ (voyage .suspended).entry (.parcel 1) .resume = none :=
  ⟨readyRunning_of (by decide +kernel), by decide +kernel⟩

theorem witness_FirstDeclaration_close :
    ReadyRunning .ship [2, 0] (voyage .settling) ∧ ((voyage .settling).parcel 1).state = .settling
      ∧ ∃ t, ((voyage .settling).parcel 1).settle = some t ∧ t.expired = true :=
  ⟨readyRunning_of (by decide +kernel), by decide +kernel, ⟨2000, 100, true⟩, by decide +kernel⟩

theorem witness_FirstDeclaration_abandon :
    ReadyRunning .ship [3, 0] proposedP3 ∧ parcelOfByte 3 = some 2 ∧ (proposedP3.parcel 2).state = .proposed
      ∧ ReadyRunning .ship [2, 0] (voyage .settling) ∧ isLive ((voyage .settling).parcel 1).state = true :=
  ⟨readyRunning_of (by decide +kernel), by decide, by decide +kernel, readyRunning_of (by decide +kernel), by decide +kernel⟩

theorem witness_FirstDeclaration_release :
    ReadyRunning .ship [2, 0] (voyage .abandoned) ∧ ((voyage .abandoned).parcel 1).state = .abandoned :=
  ⟨readyRunning_of (by decide +kernel), by decide +kernel⟩

theorem witness_FirstDeclaration_callClear :
    ReadyRunning .ship [0, 0] (voyage .closed)
      ∧ ∀ q, ((voyage .closed).parcel q).state = .free ∨ ((voyage .closed).parcel q).state = .closed
        ∨ ((voyage .closed).parcel q).state = .abandoned :=
  ⟨readyRunning_of (by decide +kernel), by decide +kernel⟩

theorem witness_FirstDeclaration_duplicate :
    ∃ e, (declared (.parcel 1) .opening .ship (voyage .defined)).entry (.parcel 1) .opening = some e ∧ e.first = .ship :=
  ⟨⟨.parcel 1, .opening, .ship, 3000, 900⟩, by decide +kernel⟩

theorem witness_FirstDeclaration_format_range :
    ReadyRunning .ship [2] run ∧ ([2] : List Byte).length ≠ 2 ∧ ReadyRunning .ship [2, 1] run
      ∧ ¬((1 : Byte) = 0 ∨ ((1 : Byte) = 1 ∧ (DeclKind.closing = .abandon ∨ DeclKind.closing = .release)))
      ∧ ReadyRunning .ship [7, 0] run ∧ parcelOfByte 7 = none :=
  ⟨readyRunning_of (by decide), by decide, readyRunning_of (by decide), by decide, readyRunning_of (by decide), by decide⟩

theorem witness_FirstDeclaration_state :
    ReadyRunning .ship [2, 0] run ∧ (run.parcel 1).state = .free ∧ ReadyRunning .ship [0, 0] (voyage .transfer)
      ∧ ((voyage .transfer).parcel 1).state = .transfer :=
  ⟨readyRunning_of (by decide), by decide +kernel, readyRunning_of (by decide +kernel), by decide +kernel⟩

theorem witness_FirstDeclaration_stop_active :
    let s := setStopLine .terminal true (voyage .defined)
    ReadyRunning .ship [2, 0] s ∧ (s.parcel 1).state = .defined ∧ s.terminalStop = true :=
  ⟨readyRunning_of (by decide +kernel), by decide +kernel⟩

theorem witness_FirstDeclaration_settling :
    ReadyRunning .ship [2, 0] settling ∧ (settling.parcel 1).state = .settling
      ∧ (settling.parcel 1).settle = some ⟨2140, 100, false⟩ :=
  ⟨readyRunning_of (by decide +kernel), by decide +kernel⟩

/-- P2 DEFINED with the terminal's OPEN standing: `gauged` has fresh figures, `voyage` none. -/
theorem witness_OpenStepTaken :
    let s := declared (.parcel 1) .opening .terminal (gauged .defined)
    ReadyRunning .ship [2, 0] s
      ∧ ((s.parcel 1).state = .defined ∧ s.shipStop = false ∧ s.terminalStop = false
        ∧ s.entry (.parcel 1) .opening = some ⟨.parcel 1, .opening, .terminal, 3000, 900⟩
        ∧ s.parcelRecord 1 = some p2Record)
      ∧ (∀ x ∈ tanksNamed p2Record, (s.tank x).figure.status = .current
        ∧ (s.tank x).figure.marks.tableHeld = false ∧ s.tankStale x = false)
      ∧ s.shipCondition ≠ none ∧ ∀ m, p2Record.meter = some m → s.meterInForce m ≠ none := by
  refine ⟨readyRunning_of (by decide +kernel), by decide +kernel, by decide +kernel, by decide +kernel, ?_⟩
  intro m h
  cases h
  decide +kernel

theorem witness_OpenStepTaken_not_ready :
    let s := declared (.parcel 1) .opening .terminal (voyage .defined)
    ReadyRunning .ship [2, 0] s
      ∧ ((s.parcel 1).state = .defined ∧ s.shipStop = false ∧ s.terminalStop = false
        ∧ s.entry (.parcel 1) .opening = some ⟨.parcel 1, .opening, .terminal, 3000, 900⟩
        ∧ s.parcelRecord 1 = some p2Record)
      ∧ ¬s.shipCondition ≠ none := ⟨readyRunning_of (by decide +kernel), by decide +kernel, by decide +kernel⟩

theorem witness_ResumeStepTaken :
    let s := declared (.parcel 1) .resume .terminal (voyage .settling)
    ReadyRunning .ship [2, 0] s
      ∧ ((s.parcel 1).state = .suspended ∨ (s.parcel 1).state = .settling)
      ∧ s.entry (.parcel 1) .resume = some ⟨.parcel 1, .resume, .terminal, 3000, 900⟩
      ∧ s.shipStop = false ∧ s.terminalStop = false := ⟨readyRunning_of (by decide +kernel), by decide +kernel⟩

theorem witness_ResumeStepTaken_stopped :
    let s := { declared (.parcel 1) .resume .terminal (voyage .suspended) with terminalStop := true }
    ReadyRunning .ship [2, 0] s ∧ (s.parcel 1).state = .suspended
      ∧ s.entry (.parcel 1) .resume = some ⟨.parcel 1, .resume, .terminal, 3000, 900⟩
      ∧ (s.shipStop = true ∨ s.terminalStop = true) := ⟨readyRunning_of (by decide +kernel), by decide +kernel⟩

theorem witness_CloseStepTaken :
    let s := declared (.parcel 1) .closing .terminal (gauged .settling)
    (ReadyRunning .ship [2, 0] s
      ∧ ((s.parcel 1).state = .settling ∧ (s.parcel 1).settle = some ⟨2000, 100, true⟩
        ∧ s.entry (.parcel 1) .closing = some ⟨.parcel 1, .closing, .terminal, 3000, 900⟩
        ∧ s.parcelRecord 1 = some p2Record ∧ (s.parcel 1).opening = (parcelIn .settling).opening
        ∧ ∀ x ∈ tanksNamed p2Record, (s.tank x).figure.status = .current
          ∧ (s.tank x).figure.marks.tableHeld = false ∧ s.tankStale x = false)
      ∧ (∃ k, (s.tank (.ship 4)).reading = some k ∧ laterThan k.arrival 2000 = true)
      ∧ (∃ k, (s.tank (.shore 2)).reading = some k ∧ laterThan k.arrival 2000 = true)
      ∧ ∃ c, s.shipCondition = some c ∧ laterThan c.arrival 2000 = true) :=
  ⟨readyRunning_of (by decide +kernel), by decide +kernel, ⟨⟨s05Fields, 3130⟩, by decide +kernel⟩,
    ⟨⟨t03Fields, 3130⟩, by decide +kernel⟩, ⟨⟨condition, 3130⟩, by decide +kernel⟩⟩

theorem witness_CloseStepTaken_sample :
    let s := declared (.parcel 1) .closing .terminal (gauged .settling)
    p2Record.meter = some 2 ∧ s.channelMode 2 = .running ∧ s.meterParcel 2 = some 1 ∧ s.meterInForce 2 = some m3Record
      ∧ s.parcelInForce 1 = some p2Record ∧ (s.channel 2).accumulators = some (zeroAccumulators 1)
      ∧ (s.parcel 1).comparisons = some (freshItems p2Record) := by decide +kernel

theorem witness_CloseStepTaken_waiting :
    let s := setSlot (.meter 2) { current := some { inForceVersion m3 [] with suspect := true }, pending := none,
                                  last := .suspect } (declared (.parcel 1) .closing .terminal (gauged .settling))
    p2Record.meter = some 2 ∧ s.channelMode 2 = .waiting ∧ (s.parcel 1).comparisons = some (freshItems p2Record) := by
  decide +kernel

theorem witness_CloseStepTaken_not_ready :
    let s := declared (.parcel 1) .closing .terminal (voyage .settling)
    ReadyRunning .ship [2, 0] s
      ∧ ((s.parcel 1).state = .settling ∧ (s.parcel 1).settle = some ⟨2000, 100, true⟩
        ∧ s.entry (.parcel 1) .closing = some ⟨.parcel 1, .closing, .terminal, 3000, 900⟩
        ∧ s.parcelRecord 1 = some p2Record ∧ (s.parcel 1).opening = (parcelIn .settling).opening)
      ∧ ¬∃ c, s.shipCondition = some c ∧ laterThan c.arrival 2000 = true := by
  refine ⟨readyRunning_of (by decide +kernel), by decide +kernel, ?_⟩
  rintro ⟨c, h, _⟩
  cases h

theorem witness_EndingSteps_release :
    let s := declared (.parcel 1) .release .terminal (voyage .closed)
    ReadyRunning .ship [2, 0] s ∧ (s.parcel 1).state = .closed
      ∧ ∃ e, s.entry (.parcel 1) .release = some e ∧ e.first = otherLink .ship :=
  ⟨readyRunning_of (by decide +kernel), by decide +kernel, ⟨.parcel 1, .release, .terminal, 3000, 900⟩, by decide +kernel⟩

theorem witness_EndingSteps_abandon_proposed :
    let s := declared (.parcel 2) .abandon .terminal proposedP3
    ReadyRunning .ship [3, 0] s ∧ (s.parcel 2).state = .proposed
      ∧ ∃ e, s.entry (.parcel 2) .abandon = some e ∧ e.first = otherLink .ship :=
  ⟨readyRunning_of (by decide +kernel), by decide +kernel, ⟨.parcel 2, .abandon, .terminal, 3000, 900⟩, by decide +kernel⟩

/-- The terminal's link LOST. -/
def terminalLost (s : State) : State := setLink .terminal { LinkUnit.reset with state := .lost } s

theorem witness_EndingSteps_unilateral :
    let s := terminalLost (voyage .transfer)
    ReadyRunning .ship [2, 1] s ∧ isLive (s.parcel 1).state = true ∧ s.entry (.parcel 1) .abandon = none
      ∧ (s.link (otherLink .ship)).state = .lost := ⟨readyRunning_of (by decide +kernel), by decide +kernel⟩

theorem witness_EndingSteps_counterpart_present :
    let s := voyage .abandoned
    ReadyRunning .ship [2, 1] s ∧ (s.parcel 1).state = .abandoned ∧ s.entry (.parcel 1) .release = none
      ∧ (s.link (otherLink .ship)).state ≠ .lost := ⟨readyRunning_of (by decide +kernel), by decide +kernel⟩

theorem witness_CallClearTaken :
    let s := declared .unit .callClear .terminal (voyage .closed)
    ReadyRunning .ship [0, 0] s
      ∧ (∀ q, (s.parcel q).state = .free ∨ (s.parcel q).state = .closed ∨ (s.parcel q).state = .abandoned)
      ∧ s.entry .unit .callClear = some ⟨.unit, .callClear, .terminal, 3000, 900⟩
      ∧ s.parcelRecord 1 = some p2Record ∧ (s.parcel 1).state = .closed ∧ 2 ∈ p2Record.shoreTanks :=
  ⟨readyRunning_of (by decide +kernel), by decide +kernel⟩

theorem witness_SuspendTaken :
    ReadyRunning .ship [2] (voyage .transfer) ∧ ((voyage .transfer).parcel 1).state = .transfer
      ∧ ReadyRunning .ship [2] (voyage .suspended) ∧ ((voyage .suspended).parcel 1).state ≠ .transfer :=
  ⟨readyRunning_of (by decide +kernel), by decide +kernel, readyRunning_of (by decide +kernel), by decide +kernel⟩

theorem witness_TransferEndTaken :
    ReadyRunning .ship [2] (voyage .suspended) ∧ ((voyage .suspended).parcel 1).state = .suspended
      ∧ ReadyRunning .ship [2] (voyage .settling)
      ∧ ¬(((voyage .settling).parcel 1).state = .transfer ∨ ((voyage .settling).parcel 1).state = .suspended) :=
  ⟨readyRunning_of (by decide +kernel), by decide +kernel, readyRunning_of (by decide +kernel), by decide +kernel⟩

/-- P2 settling since 214.0 s for 100 s. -/
theorem witness_ParcelTimers_settle :
    (settling.parcel 1).settle = some ⟨2140, 100, false⟩ ∧ 10 * 100 ≤ (settling.clock - 2140).toNat
      ∧ ((atClock 3139 settling).parcel 1).settle = some ⟨2140, 100, false⟩
      ∧ ((atClock 3139 settling).clock - 2140).toNat < 10 * 100 := by decide +kernel

theorem witness_ParcelTimers_lapse :
    let s := declared (.parcel 1) .opening .ship (voyage .defined)
    s.entry (.parcel 1) .opening = some ⟨.parcel 1, .opening, .ship, 3000, 900⟩
      ∧ 10 * 900 < ((atClock 12001 s).clock - 3000).toNat ∧ ((atClock 12000 s).clock - 3000).toNat ≤ 10 * 900 := by
  decide +kernel

theorem witness_StopLines_starting :
    State.reset.unit = .starting ∧ State.reset.stopLine .ship = false
      ∧ (setStopLine .ship true State.reset).unit = .starting
      ∧ (setStopLine .ship true State.reset).stopLine .ship = true := by decide

theorem witness_StopLines_running :
    (voyage .transfer).unit = .running ∧ (voyage .transfer).stopLine .ship = false
      ∧ ((voyage .transfer).parcel 1).state = .transfer ∧ ((voyage .transfer).parcel 0).state ≠ .transfer
      ∧ (setStopLine .ship true (voyage .transfer)).unit = .running
      ∧ (setStopLine .ship true (voyage .transfer)).stopLine .ship = true := by decide +kernel

theorem witness_StopLines_none_in_transfer :
    run.unit = .running ∧ run.stopLine .ship = false ∧ ∀ q, (run.parcel q).state ≠ .transfer := by decide +kernel

theorem witness_ParcelsMoveAsAllowed :
    let c := Instr.suspend .ship 0 [2]
    (voyage .transfer).unit = .running ∧ exec c (voyage .transfer) = .next (after c (voyage .transfer))
      ∧ (after c (voyage .transfer)).unit = .running := ⟨by decide +kernel, rfl, by decide +kernel⟩

theorem witness_OpeningFiguresStand :
    let c := Instr.suspend .ship 0 [2]
    (voyage .transfer).unit = .running ∧ exec c (voyage .transfer) = .next (after c (voyage .transfer))
      ∧ (after c (voyage .transfer)).unit = .running ∧ isOpened ((voyage .transfer).parcel 1).state = true
      ∧ ((voyage .transfer).parcel 1).opening = (parcelIn .transfer).opening
      ∧ (parcelIn .transfer).opening.isSome = true :=
  ⟨by decide +kernel, rfl, by decide +kernel, by decide +kernel, by decide +kernel, rfl⟩

/-! ### Meters and reconciliation -/

theorem witness_Meters_running :
    let s := sampling .transfer
    (s.channel 2).timer = some 10100 ∧ 100 ≤ (s.clock - 10100).toNat ∧ s.channelMode 2 = .running
      ∧ s.meterParcel 2 = some 1 ∧ s.meterInForce 2 = some m3Record ∧ s.parcelInForce 1 = some p2Record
      ∧ (s.channel 2).accumulators = some (zeroAccumulators 1) := by decide +kernel

theorem witness_Meters_idle_and_early :
    (sampling .defined).channelMode 2 = .idle ∧ ¬100 ≤ ((atClock 10199 (sampling .defined)).clock - 10100).toNat := by
  decide +kernel

theorem witness_Meters_waiting :
    let s := setSlot (.meter 2) { current := some { inForceVersion m3 [] with suspect := true }, pending := none,
                                  last := .suspect } (sampling .transfer)
    (s.channel 2).timer = some 10100 ∧ s.channelMode 2 = .waiting := by decide +kernel

theorem witness_Meters_pulse : run.unit ≠ .inactive ∧ (1 : Fin 4) ≠ 0 := by decide

theorem witness_IntervalEvaluated :
    let s := { gauged .transfer with intervalTimer := some { start := 2540, duration := 600 } }
    s.intervalTimer = some ⟨2540, 600⟩ ∧ 600 ≤ (s.clock - 2540).toNat ∧ isLive (s.parcel 1).state = true
      ∧ isLive (s.parcel 0).state = false ∧ ((atClock 3139 s).clock - 2540).toNat < 600 := by decide +kernel

theorem witness_IntervalEvaluated_evaluation :
    let s := gauged .transfer
    isLive (s.parcel 1).state = true ∧ s.parcelRecord 1 = some p2Record
      ∧ (s.parcel 1).opening = (parcelIn .transfer).opening ∧ (parcelIn .transfer).opening.isSome = true := by
  decide +kernel

/-- A comparison whose history is full of `n` OUTSIDE entries after WITHIN ones. -/
def history (n : Nat) : Comparison :=
  { freshComparison with
    history := List.replicate (10 - n) ⟨.within, 0⟩ ++ List.replicate n ⟨.outside, 0⟩ }

theorem witness_ComparisonEvaluated :
    (history 7).history.length ≤ 10 ∧ clearCountOf p2Record < declareCountOf p2Record
      ∧ (shipOutcome p2Record (quantitiesOf p2Record p2Opening 8492747 12067300)).result = .graded .outside
      ∧ (incompleteOutcome).result = .notEvaluated .incomplete := by decide

theorem witness_ComparisonEvaluated_counts :
    let v := fun n => evaluated (some p2Record) true 0
      (shipOutcome p2Record (quantitiesOf p2Record p2Opening 8492747 12067300)) (history n)
    declareCountOf p2Record ≤ ((v 7).history.filter fun e => e.grade == .outside).length
      ∧ ((v 1).history.filter fun e => e.grade == .outside).length ≤ clearCountOf p2Record
      ∧ clearCountOf p2Record < ((v 2).history.filter fun e => e.grade == .outside).length
      ∧ ((v 6).history.filter fun e => e.grade == .outside).length < declareCountOf p2Record := by decide +kernel

theorem witness_RatiosGraded : 2000 ≤ 5000 ∧ ((baseMinimumOf p2Record : Nat) : Int) ≤ 50000 := by decide

/-! ### Reads -/

theorem witness_ReadsAnswered :
    ReadyRunning .ship [2] (voyage .transfer) ∧ slotOfCode 2 = some (.ship 1) ∧ tankOfCode 2 = some (.ship 1)
      ∧ parcelOfByte 2 = some 1 ∧ ((voyage .transfer).parcel 1).state ≠ .closed :=
  ⟨readyRunning_of (by decide +kernel), by decide, by decide, by decide, by decide +kernel⟩

theorem witness_ReadsAnswered_holding :
    let s := after (.responseSent .ship) (after (.responseSend .ship) (after (.hold .ship 0 []) (voyage .transfer)))
    ReadyRunning .ship [2] s ∧ (s.link .ship).hold.isSome = true ∧ parcelOfByte 2 = some 1 :=
  ⟨readyRunning_of (by decide +kernel), by decide +kernel⟩

theorem witness_ReadsAnswered_range :
    ReadyRunning .ship [0x41] run ∧ slotOfCode 0x41 = none ∧ tankOfCode 0x41 = none ∧ tankOfCode 0 = none
      ∧ parcelOfByte 0x41 = none := ⟨readyRunning_of (by decide), by decide⟩

theorem witness_ReadsAnswered_final :
    let s := after (.declareClose .ship 0 [2, 0]) (declared (.parcel 1) .closing .terminal (gauged .settling))
    let s := after (.responseSent .ship) (after (.responseSend .ship) s)
    ReadyRunning .ship [2] s ∧ (s.parcel 1).state = .closed ∧ (s.parcel 1).final.isSome = true :=
  ⟨readyRunning_of (by decide +kernel), by decide +kernel⟩

theorem witness_ReadsAnswered_closing :
    let s := after (.declareClose .ship 0 [2, 0]) (declared (.parcel 1) .closing .terminal (gauged .settling))
    let s := after (.responseSent .ship) (after (.responseSend .ship) s)
    ReadyRunning .ship [2] s ∧ (s.closingReported 1).isSome = true :=
  ⟨readyRunning_of (by decide +kernel), by decide +kernel⟩

theorem witness_ReadsAnswered_format : ReadyRunning .ship [] run ∧ ([] : List Byte).length ≠ 1 :=
  ⟨readyRunning_of (by decide), by decide⟩

theorem trailing_in_order : TrailInOrder trailing := by unfold TrailInOrder; decide +kernel

theorem witness_TrailRead :
    ReadyRunning .ship [41, 0, 0, 0, 4] trailing ∧ TrailInOrder trailing
      ∧ parseReadTrail [41, 0, 0, 0, 4] = some (41, 4) ∧ 1 ≤ 4 ∧ 4 ≤ 4 ∧ 41 ≤ trailing.newest + 1 :=
  ⟨readyRunning_of (by decide +kernel), trailing_in_order, by decide +kernel⟩

theorem witness_TrailRead_end :
    ReadyRunning .ship [45, 1, 0, 0, 1] trailing ∧ parseReadTrail [45, 1, 0, 0, 1] = some (301, 1)
      ∧ 301 ≤ trailing.newest + 1 := ⟨readyRunning_of (by decide +kernel), by decide +kernel⟩

theorem witness_TrailRead_ahead :
    ReadyRunning .ship [46, 1, 0, 0, 1] trailing ∧ parseReadTrail [46, 1, 0, 0, 1] = some (302, 1)
      ∧ trailing.newest + 1 < 302 := ⟨readyRunning_of (by decide +kernel), by decide +kernel⟩

theorem witness_TrailRead_range :
    ReadyRunning .ship [41, 0, 0, 0, 5] trailing ∧ parseReadTrail [41, 0, 0, 0, 5] = some (41, 5)
      ∧ ¬(1 ≤ 5 ∧ 5 ≤ 4) ∧ parseReadTrail [41, 0, 0, 0, 0] = some (41, 0) :=
  ⟨readyRunning_of (by decide +kernel), by decide +kernel⟩

theorem witness_TrailRead_format : ReadyRunning .ship [41, 0, 0, 0] trailing ∧ ([41, 0, 0, 0] : List Byte).length ≠ 5 :=
  ⟨readyRunning_of (by decide +kernel), by decide⟩

/-! ### Full reset and the store -/

/-- The write in flight of P2's checkpoint, with one waiting. -/
def writing : State :=
  giveWrite (.linkParameters .ship) .removal (giveWrite (.checkpoint 1) .removal run)

theorem witness_FullReset_idle : run.unit ≠ .inactive ∧ run.inFlight = none := by decide

theorem witness_FullReset_writing :
    writing.unit ≠ .inactive ∧ writing.inFlight = some ⟨.checkpoint 1, .removal⟩ ∧ writing.writeQueue.length = 1 := by
  decide +kernel

theorem witness_FullReset_inactive : ({ State.reset with unit := .inactive } : State).unit = .inactive := rfl

/-- An object of the store whose one copy passes, of generation 1. -/
def stored (o : StoreObject) (c : StoredContent) (s : State) : State :=
  setPlaces o
    { first := .copy { generation := 1, headerCheck := headerCheckOf o 1, content := c }, second := .empty } s

/-- An object of the store whose one copy fails its check. -/
def spoiled (o : StoreObject) (s : State) : State := setPlaces o { first := .failing, second := .empty } s

theorem stored_found {o : StoreObject} {c : StoredContent} (s : State) (h : contentPasses o c = true) :
    storedCopy o ((stored o c s).places o)
      = some (true, { generation := 1, headerCheck := headerCheckOf o 1, content := c }) := by
  simp [stored, storedCopy, passingCopy, copyPasses, h]

/-- The load stands at phase `l`. -/
def loading (l : LoadPhase) (s : State) : State := { s with unit := .starting, load := l }

theorem witness_RecordsLoaded_start : State.reset.unit = .starting ∧ State.reset.load = .start := by decide

theorem witness_RecordsLoaded_none :
    let s := loading (.records 59) State.reset
    s.unit = .starting ∧ s.load = .records 59
      ∧ storedCopy (.record (slotAt 59)) (s.places (.record (slotAt 59))) = none
      ∧ holdsCopies (s.places (.record (slotAt 59))) = false := by decide +kernel

theorem witness_RecordsLoaded_fails :
    let s := spoiled (.record .vessel) (loading (.records 0) State.reset)
    s.unit = .starting ∧ s.load = .records 0
      ∧ storedCopy (.record (slotAt 0)) (s.places (.record (slotAt 0))) = none
      ∧ holdsCopies (s.places (.record (slotAt 0))) = true := by decide +kernel

theorem witness_RecordsLoaded_removal :
    let s := stored (.record .vessel) .removal (loading (.records 0) State.reset)
    s.unit = .starting ∧ s.load = .records 0 ∧ slotAt 0 = .vessel
      ∧ storedCopy (.record .vessel) (s.places (.record .vessel)) = some (true, ⟨1, headerCheckOf (.record .vessel) 1, .removal⟩) :=
  ⟨rfl, rfl, by decide, stored_found _ rfl⟩

/-- The stored record of S05, whose table has four points. -/
def storedTank : StoredContent := .record (recordDigest s05 s05Table) s05 s05Table

theorem storedTank_passes : contentPasses (.record (.ship 4)) storedTank = true := by decide +kernel

/-- There is room for exactly its points, and room for one less. -/
theorem witness_RecordsLoaded_room :
    let s := fun n => stored (.record (.ship 4)) storedTank (setPoolFree n (loading (.records 5) State.reset))
    (∀ n, (s n).unit = .starting ∧ (s n).load = .records 5
      ∧ storedCopy (.record (.ship 4)) ((s n).places (.record (.ship 4)))
        = some (true, ⟨1, headerCheckOf (.record (.ship 4)) 1, storedTank⟩))
      ∧ slotAt 5 = .ship 4 ∧ s05Table.length ≤ (s 4).poolFree ∧ (s 3).poolFree < s05Table.length
      ∧ (5 : Fin 60) ≠ 59 :=
  ⟨fun _ => ⟨rfl, rfl, stored_found _ storedTank_passes⟩, by decide, by decide, by decide, by decide⟩

theorem witness_LoadOfLinks_found :
    let c := StoredContent.linkParameters 63 600 (linkParametersCheck 63 600)
    let s := stored (.linkParameters .terminal) c (loading (.linkParameters .terminal) State.reset)
    s.unit = .starting ∧ s.load = .linkParameters .terminal
      ∧ storedCopy (.linkParameters .terminal) (s.places (.linkParameters .terminal))
        = some (true, ⟨1, headerCheckOf (.linkParameters .terminal) 1, c⟩) :=
  ⟨rfl, rfl, stored_found _ (by decide +kernel)⟩

theorem witness_LoadOfLinks_none :
    let s := loading (.linkParameters .ship) State.reset
    s.unit = .starting ∧ s.load = .linkParameters .ship
      ∧ storedCopy (.linkParameters .ship) (s.places (.linkParameters .ship)) = none := by decide +kernel

theorem witness_LoadOfLinks_removal :
    let s := stored (.linkParameters .ship) .removal (loading (.linkParameters .ship) State.reset)
    s.unit = .starting ∧ s.load = .linkParameters .ship
      ∧ storedCopy (.linkParameters .ship) (s.places (.linkParameters .ship))
        = some (true, ⟨1, headerCheckOf (.linkParameters .ship) 1, .removal⟩) :=
  ⟨rfl, rfl, stored_found _ rfl⟩

/-- P2's checkpoint in state `st`, held beside the record of the voyage. -/
def checkpoint (st : ParcelState) : Checkpoint :=
  { state := st, recordDigest := some (recordDigest p2 []), reason := none, suspensions := some 65535, opening := none,
    closing := none, final := none, accumulators := none, comparisons := none }

/-- The load at P2's checkpoint in state `st`, over the records of `s`. -/
def checkpointed (st : ParcelState) (s : State) : State :=
  stored (.checkpoint 1) (.checkpoint (checkpoint st) (checkpointCheck (checkpoint st))) (loading (.checkpoints 1) s)

theorem checkpointed_found (st : ParcelState) (s : State) :
    (checkpointed st s).foundCheckpoint 1 = .passes (checkpoint st) := by
  simp only [State.foundCheckpoint, checkpointed]
  rw [stored_found _ (by simp [contentPasses])]

/-- The records of the voyage without P2's. -/
def withoutRecord : State := setSlot (.parcel 1) .reset records

theorem witness_Checkpoints_phases :
    (loading (.checkpoints 4) records).load = .checkpoints 4 ∧ (4 : Fin 6) ≠ 5
      ∧ (loading (.checkpoints 5) records).load = .checkpoints 5 ∧ (loading (.checkpoints 5) records).unit = .starting
      ∧ ((loading (.checkpoints 5) records).parcel 5).state = .free := by decide +kernel

theorem witness_Checkpoints_not_stored :
    let s := loading (.checkpoints 1) withoutRecord
    let t := loading (.checkpoints 1) records
    (s.foundCheckpoint 1 = .notStored ∧ s.parcelInForce 1 = none ∧ (s.parcel 1).state = .free)
      ∧ t.foundCheckpoint 1 = .notStored ∧ t.parcelInForce 1 ≠ none := by decide +kernel

theorem witness_Checkpoints_fails :
    let s := spoiled (.checkpoint 1) (loading (.checkpoints 1) records)
    s.foundCheckpoint 1 = .fails ∧ (s.slot (.parcel 1)).current ≠ none ∧ (s.parcel 1).state = .free := by decide +kernel

theorem witness_Checkpoints_proposed_without_record :
    (checkpointed .proposed withoutRecord).foundCheckpoint 1 = .passes (checkpoint .proposed)
      ∧ (checkpoint .proposed).state = .proposed ∧ (checkpointed .proposed withoutRecord).parcelInForce 1 = none :=
  ⟨checkpointed_found _ _, rfl, by decide +kernel⟩

theorem witness_Checkpoints_proposed :
    (checkpointed .proposed records).foundCheckpoint 1 = .passes (checkpoint .proposed)
      ∧ (checkpoint .proposed).state = .proposed ∧ (checkpointed .proposed records).parcelInForce 1 = some p2Record
      ∧ (checkpointed .proposed records).boundElsewhere 1 p2Record = false :=
  ⟨checkpointed_found _ _, rfl, by decide +kernel⟩

theorem witness_Checkpoints_as_stored (st : ParcelState) (h : st = .defined ∨ st = .closed ∨ st = .abandoned) :
    (checkpointed st records).foundCheckpoint 1 = .passes (checkpoint st)
      ∧ ((checkpoint st).state = .defined ∨ (checkpoint st).state = .closed ∨ (checkpoint st).state = .abandoned)
      ∧ (checkpointed st records).parcelInForce 1 = some p2Record
      ∧ (checkpointed st records).boundElsewhere 1 p2Record = false
      ∧ (checkpointed st records).recordMatches 1 (checkpoint st) = true := by
  refine ⟨checkpointed_found _ _, h, ?_⟩
  rcases h with rfl | rfl | rfl <;> decide +kernel

theorem witness_Checkpoints_live :
    let s := checkpointed .settling records
    s.foundCheckpoint 1 = .passes (checkpoint .settling) ∧ isLive (checkpoint .settling).state = true
      ∧ s.parcelInForce 1 = some p2Record ∧ s.boundElsewhere 1 p2Record = false
      ∧ s.recordMatches 1 (checkpoint .settling) = true := ⟨checkpointed_found _ _, by decide +kernel⟩

theorem witness_Checkpoints_record_removed :
    let s := checkpointed .closed (stored (.record (.parcel 1)) .removal withoutRecord)
    s.foundCheckpoint 1 = .passes (checkpoint .closed) ∧ (checkpoint .closed).state = .closed
      ∧ s.parcelInForce 1 = none ∧ s.recordRemoved 1 = true := by
  refine ⟨checkpointed_found _ _, rfl, by decide +kernel, ?_⟩
  have h : (checkpointed .closed (stored (.record (.parcel 1)) .removal withoutRecord)).places (.record (.parcel 1))
      = (stored (.record (.parcel 1)) .removal withoutRecord).places (.record (.parcel 1)) := by
    rw [checkpointed, stored, State.places, setPlaces, State.places]
    exact Vector.getElem_set_ne (objectIndex (.checkpoint 1)).isLt (objectIndex (.record (.parcel 1))).isLt (by decide)
  simp only [State.recordRemoved]
  rw [h, stored_found _ rfl]
  decide

/-- Another parcel names the same tanks. -/
theorem witness_Checkpoints_bound :
    let s := checkpointed .defined (setParcel 0 (parcelIn .transfer) (enforce (.parcel 0) p2 [] records))
    s.foundCheckpoint 1 = .passes (checkpoint .defined) ∧ s.parcelInForce 1 = some p2Record
      ∧ s.boundElsewhere 1 p2Record = true ∧ (s.parcel 1).state = .free := ⟨checkpointed_found _ _, by decide +kernel⟩

theorem witness_Checkpoints_dropped :
    let s := checkpointed .transfer withoutRecord
    s.foundCheckpoint 1 = .passes (checkpoint .transfer) ∧ (checkpoint .transfer).state ≠ .proposed
      ∧ s.parcelInForce 1 = none ∧ isLive (checkpoint .transfer).state = true
      ∧ (checkpointed .defined withoutRecord).recordRemoved 1 = false :=
  ⟨checkpointed_found _ _, by decide +kernel, by decide +kernel, by decide, by decide +kernel⟩

theorem witness_WritesComplete :
    run.inFlight = none ∧ writing.inFlight = some ⟨.checkpoint 1, .removal⟩
      ∧ writing.writeQueue = [⟨.linkParameters .ship, .removal⟩] := by decide +kernel

/-! ### What every state of a run keeps -/

/-- A unit RUNNING with a command of every trail, table and writer effect in front: P2's SUSPEND. -/
def kept : State := { voyage .transfer with pending := [.suspend .ship 0 [2]] }

/-- Every slot of `kept`: nothing pending, points in tanks only, and the digests of the contents. -/
theorem kept_slots (k : RecordSlot) :
    (kept.slot k).pending = none ∧ ((tankOfSlot k).isNone → heldPoints (kept.slot k) = 0)
      ∧ (match (kept.slot k).current with
        | some v => v.suspect = false ∧ recordDigest v.content v.points = v.digest
        | none => True) := by
  have h : ∀ i : Fin 60, (kept.slot (slotAt i)).pending = none
      ∧ ((tankOfSlot (slotAt i)).isNone → heldPoints (kept.slot (slotAt i)) = 0)
      ∧ ((kept.slot (slotAt i)).current.all fun v => !v.suspect && recordDigest v.content v.points == v.digest) = true := by
    decide +kernel
  obtain ⟨h1, h2, h3⟩ := h (slotIndex k)
  rw [slotAt_slotIndex] at h1 h2 h3
  refine ⟨h1, h2, ?_⟩
  split
  · rename_i v hv
    simpa [hv] using h3
  · trivial

theorem kept_digests : DigestsHold kept := by
  refine ⟨fun k v h => ?_, fun k q h => ?_⟩
  · have := (kept_slots k).2.2
    rw [h] at this
    exact this
  · rw [(kept_slots k).1] at h
    cases h

theorem witness_PoolStaysAccounted :
    PoolAccounted kept ∧ step kept = .next (after (.suspend .ship 0 [2]) (voyage .transfer)) := by
  refine ⟨⟨by decide +kernel, fun k => ⟨(kept_slots k).2.1, fun q h => ?_⟩, fun k h => h.elim, fun _ => rfl, fun h => ?_⟩, rfl⟩
  · rw [(kept_slots k).1] at h
    cases h
  · cases h

theorem witness_TrailStaysInOrder : TrailInOrder trailing ∧ step trailing = .next (tickClock trailing) :=
  ⟨trailing_in_order, rfl⟩

theorem witness_AlarmKeepsStanding :
    AlarmStands kept ∧ step kept = .next (after (.suspend .ship 0 [2]) (voyage .transfer)) :=
  ⟨⟨fun _ => by decide +kernel, fun _ => by decide +kernel, fun h => absurd rfl h⟩, rfl⟩

theorem witness_AlarmKeepsStanding_counts :
    CountsSound kept ∧ step kept = .next (after (.suspend .ship 0 [2]) (voyage .transfer)) := by
  have h : ∀ p : Fin 6, ((kept.parcel p).comparisons = none ∨ (kept.parcel p).comparisons = some (freshItems p2Record))
      ∧ ((kept.parcel p).suspensions = none ∨ (kept.parcel p).suspensions = some 0)
      ∧ (kept.restoredItems p).comparisons = none := by decide +kernel
  have hk : ∀ i : Fin 60, ((kept.slot (slotAt i)).current.all fun v => decide (v.auditCount ≤ 65535)) = true := by
    decide +kernel
  refine ⟨⟨fun p i e => ?_, fun p n e => ?_, fun p i e => ?_, fun k v e => ?_, fun w e => ?_, fun w e => ?_, fun o => ?_⟩,
    rfl⟩
  · rcases (h p).1 with h | h <;> rw [h] at e <;> cases e
    refine ⟨by unfold ComparisonSound; decide, fun c e => ?_, by decide, by decide⟩
    cases e
    unfold ComparisonSound; decide
  · rcases (h p).2.1 with h | h <;> rw [h] at e <;> cases e
    decide
  · rw [(h p).2.2] at e; cases e
  · have := hk (slotIndex k)
    rw [slotAt_slotIndex, e] at this
    simpa using this
  · cases e
  · cases e
  · have e : kept.places o = .reset := vector_get_replicate _ _
    rw [e]; exact ⟨trivial, trivial⟩

theorem witness_TableStaysAllowed_bindings :
    PoolAccounted kept ∧ DigestsHold kept ∧ BindingSound kept
      ∧ step kept = .next (after (.suspend .ship 0 [2]) (voyage .transfer)) := by
  have h : ∀ p : Fin 6, kept.boundRecord p = if p = 1 then some p2Record else none := by decide +kernel
  refine ⟨witness_PoolStaysAccounted.1, kept_digests, ⟨fun p q r o n e e' => ?_, fun p e => ?_, fun e => e.elim⟩, rfl⟩
  · rw [h] at e e'
    split at e
    · split at e'
      · rename_i h1 h2; exact absurd (h1.trans h2.symm) n
      · cases e'
    · cases e
  · exact absurd (kept_slots (.parcel p)).1 e

theorem witness_TableStaysAllowed :
    let s := declared (.parcel 1) .closing .terminal (voyage .settling)
    TableAllowed s ∧ step s = .next (tickClock s) := by
  refine ⟨⟨?_, by decide +kernel, fun h => absurd rfl h⟩, rfl⟩
  intro e he
  obtain rfl : e = _ := List.mem_singleton.mp he
  show kindAllowed .closing _ = true
  decide +kernel

theorem witness_DigestsStayTrue :
    DigestsHold kept ∧ step kept = .next (after (.suspend .ship 0 [2]) (voyage .transfer)) := ⟨kept_digests, rfl⟩

theorem witness_LinksAndWriterStaySound :
    LinksSound writing ∧ WriterSound writing ∧ step writing = .next (tickClock writing) := by
  refine ⟨⟨?_, ?_⟩, ⟨by decide +kernel, by decide +kernel⟩, rfl⟩ <;> unfold LinkSound <;> decide +kernel

end Sys2Proof.Tests
end

section
/-! Rounding of quotients (R1, R74). -/

namespace Sys2Proof.Machine

open Sys2Proof

/-- `q` is the integer nearest to `n / d`, and of two equally near the one away from zero (R1). -/
def RoundsTo (n : Int) (d : Nat) (q : Int) : Prop :=
  2 * (n - d * q).natAbs ≤ d
    ∧ (2 * (n - d * q).natAbs = d → (0 ≤ n → n ≤ d * q) ∧ (n ≤ 0 → (d : Int) * q ≤ n))

/-- Rounding treats both signs alike. -/
theorem RoundsTo.neg {n : Int} {d : Nat} {q : Int} (h : RoundsTo n d q) : RoundsTo (-n) d (-q) := by
  obtain ⟨near, tie⟩ := h
  have distance : (-n - d * -q).natAbs = (n - d * q).natAbs := by rw [← Int.natAbs_neg]; congr 1; ring
  rw [RoundsTo, distance, Int.mul_neg]
  refine ⟨near, fun halfway => ?_⟩
  obtain ⟨up, down⟩ := tie halfway
  exact ⟨fun h => neg_le_neg (down (by omega)), fun h => neg_le_neg (up (by omega))⟩

theorem roundDiv_of_nonneg {n : Int} {d : Nat} (hn : 0 ≤ n) : roundDiv n d = (2 * n + d) / (2 * d) :=
  if_pos hn

theorem roundDiv_of_neg {n : Int} {d : Nat} (hn : n < 0) : roundDiv n d = -roundDiv (-n) d := by
  rw [roundDiv_of_nonneg (n := -n) (by omega), roundDiv, if_neg (by omega)]

/-- At or above zero the remainder lies from half the divisor below, the tie that is rounded up, to less than half above. -/
theorem roundDiv_remainder {n : Int} {d : Nat} (hd : 0 < d) (hn : 0 ≤ n) :
    -(d : Int) ≤ 2 * (n - d * roundDiv n d) ∧ 2 * (n - d * roundDiv n d) < d := by
  have positive : (0 : Int) < 2 * d := by omega
  have lower := Int.mul_ediv_self_le (x := 2 * n + d) positive.ne'
  have upper := Int.lt_mul_ediv_self_add (x := 2 * n + d) positive
  rw [← roundDiv_of_nonneg hn, Int.mul_assoc] at lower upper
  omega

theorem roundDiv_zero_left {d : Nat} (hd : 0 < d) : roundDiv 0 d = 0 := by
  rw [roundDiv_of_nonneg le_rfl]
  exact Int.ediv_eq_zero_of_lt (by omega) (by omega)

theorem roundsTo_roundDiv_of_nonneg {n : Int} {d : Nat} (hd : 0 < d) (hn : 0 ≤ n) : RoundsTo n d (roundDiv n d) := by
  obtain ⟨below, above⟩ := roundDiv_remainder hd hn
  refine ⟨by omega, fun halfway => ⟨fun _ => by omega, fun nonpos => ?_⟩⟩
  obtain rfl : n = 0 := le_antisymm nonpos hn
  rw [roundDiv_zero_left hd, Int.mul_zero]

theorem roundsTo_roundDiv {n : Int} {d : Nat} (hd : 0 < d) : RoundsTo n d (roundDiv n d) := by
  rcases le_or_gt 0 n with nonneg | negative
  · exact roundsTo_roundDiv_of_nonneg hd nonneg
  · have mirrored := (roundsTo_roundDiv_of_nonneg hd (n := -n) (by omega)).neg
    rwa [← roundDiv_of_neg negative, Int.neg_neg] at mirrored

/-- Settles O20: the case at or above zero by the bounds of the remainder, the negative one by its mirror image. -/
theorem quotientsRounded : Obligations.QuotientsRounded :=
  ⟨fun _ _ hd => roundsTo_roundDiv hd, by decide, by decide, by decide, by decide, fun _ => rfl⟩

end Sys2Proof.Machine
end

section
/-! What an invariant of every step comes to, command by command: the owners of requests, and the steps of
declarations. -/

namespace Sys2Proof.Machine

open Sys2Proof

/-- Whatever next state the outcome gives has the property. -/
def NextIs (P : State → Prop) (o : Host.Outcome State Fault Refusal) : Prop := ∀ t, o = .next t → P t

@[simp] theorem nextIs_next (P : State → Prop) (s : State) : NextIs P (.next s) ↔ P s :=
  ⟨fun h => h s rfl, fun h _ e => by cases e; exact h⟩

/-- What every command keeps, and the change of the queue and of the clock, every step keeps. -/
theorem step_keeps {P : State → Prop} (hexec : ∀ c s, P s → NextIs P (exec c s))
    (hpending : ∀ cs s, P s → P (setPendingCommands cs s)) (htick : ∀ s, P s → P (tickClock s)) {s t : State}
    (hs : P s) (h : step s = .next t) : P t := by
  unfold step at h
  split at h
  · exact hexec _ _ (hpending _ _ hs) t h
  · cases h; exact htick _ hs

/-- A request keeps what links, trail and its owner keep; the owner of a request that waits for the load decides in a
RUNNING unit. -/
theorem takeRequest_keeps {P : State → Prop} (hlink : ∀ l u s, P s → P (setLink l u s))
    (htrail : ∀ b s, P s → P (appendTrail b s)) {owner : State → State × Reply} {ready : Readiness}
    (howner : ∀ s, (ready = .whenRunning → s.unit = .running) → P s → P (owner s).1) (l : Link) (code tag : Byte)
    (payload : List Byte) (counted : Bool) {s : State} (hs : P s) :
    P (takeRequest l code tag payload counted ready owner s) := by
  have hintact : P (intactFrame l s) := by
    simp only [intactFrame]
    split
    · exact hlink _ _ _ hs
    · exact hlink _ _ _ hs
    · split
      · exact htrail _ _ (hlink _ _ _ hs)
      · exact hlink _ _ _ hs
  have hframe : P (takeFrame l counted s) := by
    unfold takeFrame
    split
    · exact hlink _ _ _ hintact
    · exact hintact
  have hdecided : P (ownerDecides ready owner (takeFrame l counted s)).1 := by
    cases ready with
    | always => exact howner _ (fun h => by cases h) hframe
    | whenRunning =>
      simp only [ownerDecides]
      split
      next running => exact howner _ (fun _ => running) hframe
      next => exact hframe
  unfold takeRequest
  split
  · exact hs
  · split
    · exact hlink _ _ _ hs
    · split
      · exact hlink _ _ _ hs
      · exact hlink _ _ _ hdecided

/-- A request that names a record slot keeps what its effect on each slot keeps. -/
theorem onSlot_keeps {P : State → Prop} {f : RecordSlot → State → State × Reply} {s : State} (hs : P s)
    (hf : ∀ k, P (f k s).1) (identifier : Option Byte) : P (onSlot identifier f s).1 := by
  unfold onSlot
  split
  · exact hs
  · split
    · exact hs
    · exact hf _

/-- A request that names a parcel slot keeps what its effect on each slot keeps. -/
theorem onParcel_keeps {P : State → Prop} {f : Fin 6 → State → State × Reply} {s : State} (hs : P s)
    (hf : ∀ p, P (f p s).1) (payload : List Byte) : P (onParcel payload f s).1 := by
  unfold onParcel
  split
  · exact hs
  · split
    · exact hs
    · exact hf _

/-- A decided declaration keeps what the table's change keeps, and its step after it. -/
theorem decideDeclaration_keeps {P : State → Prop} {subject : Subject} {kind : DeclKind} {l : Link}
    {unilateral met : Bool} {step : Bool → State → State} {s : State} (hs : P s)
    (htable : ∀ es, P (setConcurrence es s)) (hstep : ∀ b es, P (step b (setConcurrence es s))) :
    P (decideDeclaration subject kind l unilateral met step s).1 := by
  have hunilateral : P (decideDeclaration.unilateralStep subject kind l step s).1 := by
    unfold decideDeclaration.unilateralStep
    split
    · exact hstep _ _
    · exact hs
  unfold decideDeclaration
  split
  · split
    · split
      · exact hstep _ _
      · exact hs
    · split
      · exact hunilateral
      · exact hs
  · split
    · exact hunilateral
    · exact htable _

theorem declareParcel_keeps {P : State → Prop} {kind : DeclKind} {l : Link} {payload : List Byte}
    {met : State → Fin 6 → Bool} {step : Fin 6 → Bool → State → State} {s : State} (hs : P s)
    (htable : ∀ es, P (setConcurrence es s)) (hstep : ∀ p b es, P (step p b (setConcurrence es s))) :
    P (declareParcel kind l payload met step s).1 := by
  unfold declareParcel
  split
  · split
    · split
      · exact hs
      · split
        · exact hs
        · exact decideDeclaration_keeps hs htable (hstep _)
    · exact hs
  · exact hs

theorem declareUnit_keeps {P : State → Prop} {l : Link} {payload : List Byte} {s : State} (hs : P s)
    (htable : ∀ es, P (setConcurrence es s)) (hclear : ∀ es, P (callClear (setConcurrence es s))) :
    P (declareUnit l payload s).1 := by
  unfold declareUnit
  split
  · split
    · split
      · split
        · exact decideDeclaration_keeps hs htable fun _ => hclear
        · exact hs
      · exact hs
    · exact hs
  · exact hs

/-- A property that each step of a fold keeps, the fold keeps. -/
theorem foldl_keeps {α : Type} {P : State → Prop} {f : State → α → State} (hf : ∀ s a, P s → P (f s a)) (xs : List α)
    {s : State} (hs : P s) : P (xs.foldl f s) := by
  induction xs generalizing s with
  | nil => exact hs
  | cons a xs ih => exact ih (hf s a hs)

end Sys2Proof.Machine
end

section
/-! The account of the table pool (R12, R13, R16, R19): what it rests on, and the rule for a change of one slot. -/

namespace Sys2Proof.Machine

open Sys2Proof

/-- What the account of the pool rests on. -/
def State.account (s : State) : UnitState × LoadPhase × Vector Slot 60 × Nat := (s.unit, s.load, s.slots, s.poolFree)

theorem PoolAccounted.congr {s t : State} (hs : PoolAccounted s) (e : t.account = s.account) : PoolAccounted t := by
  simp only [State.account, Prod.mk.injEq] at e
  obtain ⟨hunit, hload, hslots, hpool⟩ := e
  unfold PoolAccounted State.pointsHeld State.awaitsLoad State.slot at hs ⊢
  rwa [hunit, hload, hslots, hpool]

/-! ### Operations that leave the account as it stands -/

@[simp] theorem setLink_account (l : Link) (u : LinkUnit) (s : State) : (setLink l u s).account = s.account := by
  simp [State.account]
@[simp] theorem setTank_account (x : TankId) (v : Tank) (s : State) : (setTank x v s).account = s.account := rfl
@[simp] theorem setChannel_account (m : Fin 4) (v : Channel) (s : State) : (setChannel m v s).account = s.account := rfl
@[simp] theorem setParcel_account (p : Fin 6) (v : Parcel) (s : State) : (setParcel p v s).account = s.account := rfl
@[simp] theorem setRestored_account (p : Fin 6) (v : RestoredItems) (s : State) :
    (setRestored p v s).account = s.account := rfl
@[simp] theorem setPlaces_account (o : StoreObject) (v : ObjectPlaces) (s : State) :
    (setPlaces o v s).account = s.account := rfl
@[simp] theorem setStopLine_account (l : Link) (b : Bool) (s : State) : (setStopLine l b s).account = s.account := by
  simp [State.account]
@[simp] theorem setConcurrence_account (es : List Concurrence) (s : State) :
    (setConcurrence es s).account = s.account := rfl
@[simp] theorem setAlarm_account (s : State) : (setAlarm s).account = s.account := rfl
@[simp] theorem setShipCondition_account (c : Option ShipCondition) (s : State) :
    (setShipCondition c s).account = s.account := rfl
@[simp] theorem setPowered_account (b : Bool) (s : State) : (setPowered b s).account = s.account := rfl
@[simp] theorem setPendingCommands_account (cs : List Instr) (s : State) :
    (setPendingCommands cs s).account = s.account := rfl
@[simp] theorem setWalk_account (w : Option (Fin 60)) (s : State) : (setWalk w s).account = s.account := rfl
@[simp] theorem setAuditTimer_account (t : Option Timer) (s : State) : (setAuditTimer t s).account = s.account := rfl
@[simp] theorem appendTrail_account (b : TrailBody) (s : State) : (appendTrail b s).account = s.account := by
  simp [State.account]
@[simp] theorem giveWrite_account (o : StoreObject) (c : StoredContent) (s : State) :
    (giveWrite o c s).account = s.account := by simp [State.account]
@[simp] theorem startWrite_account (s : State) : (startWrite s).account = s.account := by simp [State.account]
@[simp] theorem silenceTest_account (l : Link) (s : State) : (silenceTest l s).account = s.account := by
  simp [State.account]
@[simp] theorem settingsChanged_account (s : State) : (settingsChanged s).account = s.account := by simp [State.account]
@[simp] theorem computeTank_account (x : TankId) (s : State) : (computeTank x s).account = s.account := by
  simp [State.account]
@[simp] theorem computeTanks_account (xs : List TankId) (s : State) : (computeTanks xs s).account = s.account := by
  simp [State.account]
@[simp] theorem holdTanks_account (xs : List TankId) (s : State) : (holdTanks xs s).account = s.account := by
  simp [State.account]
@[simp] theorem clearTanks_account (xs : List TankId) (s : State) : (clearTanks xs s).account = s.account := by
  simp [State.account]
@[simp] theorem announce_account (p : Fin 6) (d : StateDetail) (s : State) : (announce p d s).account = s.account := by
  simp [State.account]
@[simp] theorem announceFree_account (p : Fin 6) (b : Bool) (s : State) : (announceFree p b s).account = s.account := by
  simp [State.account]
@[simp] theorem emptyParcel_account (p : Fin 6) (m : Option (Fin 4)) (s : State) :
    (emptyParcel p m s).account = s.account := by simp [State.account]
@[simp] theorem completeWrite_account (s : State) : (completeWrite s).account = s.account := by
  unfold completeWrite
  split
  · rfl
  · rw [startWrite_account]; rfl

/-- A set outcome changes the slot alone of what the account rests on. -/
theorem setOutcome_account (k : RecordSlot) (o : LastOutcome) (s : State) :
    (setOutcome k o s).account = (setSlot k { s.slot k with last := o } s).account := by
  cases o <;> simp [setOutcome]

/-! ### The points a slot holds -/

/-- The points a pending version holds (R12). -/
def pendingPoints (v : Slot) : Nat :=
  match v.pending with
  | some q => q.declaredPoints
  | none => 0

theorem heldPoints_eq (v : Slot) : heldPoints v = currentPoints v + pendingPoints v := rfl

@[simp] theorem currentPoints_some (c : CurrentVersion) (q : Option PendingVersion) (o : LastOutcome) :
    currentPoints ⟨some c, q, o⟩ = c.points.length := rfl
@[simp] theorem currentPoints_none (q : Option PendingVersion) (o : LastOutcome) : currentPoints ⟨none, q, o⟩ = 0 := rfl
@[simp] theorem pendingPoints_some (c : Option CurrentVersion) (q : PendingVersion) (o : LastOutcome) :
    pendingPoints ⟨c, some q, o⟩ = q.declaredPoints := rfl
@[simp] theorem pendingPoints_none (c : Option CurrentVersion) (o : LastOutcome) : pendingPoints ⟨c, none, o⟩ = 0 := rfl

/-- A slot's own points, and those of the others, which a change of the slot leaves. -/
theorem pointsHeld_setSlot (k : RecordSlot) (v : Slot) (s : State) :
    (setSlot k v s).pointsHeld + heldPoints (s.slot k) = s.pointsHeld + heldPoints v := by
  have total : ∀ w : State, w.pointsHeld = ∑ i, heldPoints (w.slots.get i) := fun w => (Fin.sum_univ_def _).symm
  have others : ∀ i ∈ Finset.univ.erase (slotIndex k),
      heldPoints ((setSlot k v s).slots.get i) = heldPoints (s.slots.get i) := by
    intro i hi
    rw [setSlot_slots, vector_get_set, if_neg (Finset.ne_of_mem_erase hi)]
  have own : heldPoints ((setSlot k v s).slots.get (slotIndex k)) = heldPoints v := by
    rw [setSlot_slots, vector_get_set, if_pos rfl]
  rw [total, total, ← Finset.add_sum_erase _ _ (Finset.mem_univ (slotIndex k)),
    ← Finset.add_sum_erase _ _ (Finset.mem_univ (slotIndex k)), Finset.sum_congr rfl others, own]
  unfold State.slot
  omega

/-- A change of one slot that settles its points with the pool keeps the account (R12). -/
theorem PoolAccounted.setSlot {s : State} (h : PoolAccounted s) {k : RecordSlot} {v : Slot} {n : Nat}
    (hpoints : n + heldPoints v = s.poolFree + heldPoints (s.slot k)) (hsound : SlotSound k v)
    (hawaits : s.awaitsLoad k → v.current = none) : PoolAccounted (setPoolFree n (setSlot k v s)) := by
  obtain ⟨account, sound, awaits, running, inactive⟩ := h
  have total : n + (Machine.setSlot k v s).pointsHeld = 8192 := by
    have := pointsHeld_setSlot k v s
    omega
  have slot : ∀ j, (setPoolFree n (Machine.setSlot k v s)).slot j = if j = k then v else s.slot j :=
    fun j => setSlot_slot k j v s
  refine ⟨total, fun j => ?_, fun j hj => ?_, running, inactive⟩
  · rw [slot]; split
    next e => exact e ▸ hsound
    next => exact sound j
  · rw [slot]; split
    next e => exact hawaits (e ▸ hj)
    next => exact awaits j hj

/-- A change of one slot that leaves its points keeps the account. -/
theorem PoolAccounted.setSlot_points {s : State} (h : PoolAccounted s) {k : RecordSlot} {v : Slot}
    (hpoints : heldPoints v = heldPoints (s.slot k)) (hsound : SlotSound k v)
    (hawaits : s.awaitsLoad k → v.current = none) : PoolAccounted (Machine.setSlot k v s) :=
  h.setSlot (n := s.poolFree) (by rw [hpoints]) hsound hawaits

/-- While the unit is RUNNING the load awaits no slot. -/
theorem PoolAccounted.not_awaits {s : State} (h : PoolAccounted s) (hr : s.unit = .running) (k : RecordSlot) :
    ¬s.awaitsLoad k := by
  obtain ⟨-, -, -, running, -⟩ := h
  simp [State.awaitsLoad, running hr]

theorem PoolAccounted.sound {s : State} (h : PoolAccounted s) (k : RecordSlot) : SlotSound k (s.slot k) := h.2.1 k

/-- A slot of a kind without a table holds no points. -/
theorem PoolAccounted.no_points {s : State} (h : PoolAccounted s) {k : RecordSlot} (hk : tankOfSlot k = none) :
    heldPoints (s.slot k) = 0 := (h.sound k).1 (by simp [hk])

/-- A current version leaves its slot and nothing comes into its place. -/
theorem SlotSound.dropCurrent {k : RecordSlot} {v : Slot} (h : SlotSound k v) (o : LastOutcome) :
    SlotSound k { v with current := none, last := o } := by
  obtain ⟨empty, pending⟩ := h
  refine ⟨fun hk => ?_, pending⟩
  obtain ⟨-, own⟩ := Nat.add_eq_zero_iff.1 (empty hk)
  exact (Nat.zero_add _).trans own

theorem SlotSound.dropPending {k : RecordSlot} {v : Slot} (h : SlotSound k v) (o : LastOutcome) :
    SlotSound k { v with pending := none, last := o } := by
  obtain ⟨empty, -⟩ := h
  refine ⟨fun hk => ?_, fun q hq => by simp at hq⟩
  exact (Nat.add_eq_zero_iff.1 (empty hk)).1

theorem slotSound_reset (k : RecordSlot) : SlotSound k .reset := ⟨fun _ => rfl, fun q hq => by simp [Slot.reset] at hq⟩

end Sys2Proof.Machine
end

section
/-! The operations on record slots against the account of the pool (R13, R16, R19, R26 to R29, R36, R112). -/

namespace Sys2Proof.Machine

open Sys2Proof

/-! ### What the operations leave of the account beyond their slot -/

@[simp] theorem leaveProposed_account (p : Fin 6) (m : Option (Fin 4)) (b : Bool) (s : State) :
    (leaveProposed p m b s).account = s.account := by simp [leaveProposed, removeCheckpoint]

@[simp] theorem enterProposed_account (p : Fin 6) (r : ParcelRecord) (s : State) :
    (enterProposed p r s).account = s.account := by
  simp only [enterProposed, announce_account]
  cases r.meter <;> simp [setAccumulators]

@[simp] theorem enterDefined_account (p : Fin 6) (r : ParcelRecord) (s : State) :
    (enterDefined p r s).account = s.account := by simp [enterDefined]

@[simp] theorem tellEntered_account (k : RecordSlot) (c : Content) (s : State) :
    (tellEntered k c s).account = s.account := by
  unfold tellEntered
  repeat' split
  all_goals simp

@[simp] theorem tellWithdrawn_account (k : RecordSlot) (s : State) : (tellWithdrawn k s).account = s.account := by
  cases k <;> simp [tellWithdrawn, clearTank]

@[simp] theorem tellSuspect_account (k : RecordSlot) (s : State) : (tellSuspect k s).account = s.account := by
  cases k <;> simp [tellSuspect, holdTank]

@[simp] theorem tellReloaded_account (k : RecordSlot) (s : State) : (tellReloaded k s).account = s.account := by
  cases k <;> simp [tellReloaded]

@[simp] theorem endParcel_account (p : Fin 6) (b : Bool) (s : State) :
    (endParcel p b s).account = (removeParcelVersions p s).account := by
  simp [endParcel, removeCheckpoint, removeRecord]

/-- A rejected version leaves its slot and gives its points back. -/
theorem rejectPending_account {k : RecordSlot} {s : State} {v : PendingVersion} (hv : (s.slot k).pending = some v)
    (d : RejectDetail) (b : Bool) :
    (rejectPending k d b s).account =
      (setPoolFree (s.poolFree + v.declaredPoints)
        (setSlot k { s.slot k with pending := none, last := .rejected d } s)).account := by
  simp only [rejectPending, hv]
  trans (setOutcome k (.rejected d) (setPoolFree (s.poolFree + v.declaredPoints)
      (setSlot k { s.slot k with pending := none } s))).account
  · cases k <;> simp only [clearTank] <;> split <;> simp
  · rw [setOutcome_account]
    simp [State.account]

/-- A version that enters force takes the slot and gives the points of the one it supersedes back. -/
theorem enterForce_account (k : RecordSlot) (v : PendingVersion) (s : State) :
    (enterForce k v s).account =
      (setPoolFree (s.poolFree + currentPoints (s.slot k))
        (setSlot k ⟨some (enteredVersion v), none, s.entryOutcome k v⟩ s)).account := by
  simp only [enterForce, tellEntered_account, giveRecordWrite, giveWrite_account, setOutcome_account, supersede]
  simp [State.account]

theorem withdrawRecord_account {k : RecordSlot} (hk : ∀ p, k ≠ .parcel p) (s : State) :
    (withdrawRecord k s).account = (setOutcome k .removed (dropCurrent k s)).account := by
  cases k
  case parcel p => exact absurd rfl (hk p)
  all_goals simp [withdrawRecord, removeRecord]

/-! ### The account kept -/

theorem PoolAccounted.setOutcome {s : State} (h : PoolAccounted s) (k : RecordSlot) (o : LastOutcome) :
    PoolAccounted (Machine.setOutcome k o s) :=
  (h.setSlot_points (k := k) (v := { s.slot k with last := o }) rfl (h.sound k) (h.2.2.1 k)).congr
    (setOutcome_account k o s)

theorem PoolAccounted.dropCurrent {s : State} (h : PoolAccounted s) (k : RecordSlot) :
    PoolAccounted (Machine.dropCurrent k s) := by
  refine h.setSlot ?_ ((h.sound k).dropCurrent _) fun _ => rfl
  show s.poolFree + currentPoints (s.slot k) + (0 + pendingPoints (s.slot k)) = _
  rw [heldPoints_eq]
  omega

/-- A slot of a kind without a table loses its current version. -/
theorem PoolAccounted.clearCurrent {s : State} (h : PoolAccounted s) {k : RecordSlot} (hk : tankOfSlot k = none)
    (o : LastOutcome) : PoolAccounted (Machine.setSlot k { s.slot k with current := none, last := o } s) := by
  have sound := (h.sound k).dropCurrent o
  refine h.setSlot_points ?_ sound fun _ => rfl
  rw [h.no_points hk, sound.1 (by simp [hk])]

/-- A slot of a kind without a table loses its pending version. -/
theorem PoolAccounted.clearPending {s : State} (h : PoolAccounted s) {k : RecordSlot} (hk : tankOfSlot k = none)
    (o : LastOutcome) : PoolAccounted (Machine.setSlot k { s.slot k with pending := none, last := o } s) := by
  have sound := (h.sound k).dropPending o
  refine h.setSlot_points ?_ sound (h.2.2.1 k)
  rw [h.no_points hk, sound.1 (by simp [hk])]

theorem PoolAccounted.rejectPending {s : State} (h : PoolAccounted s) (k : RecordSlot) (d : RejectDetail) (b : Bool) :
    PoolAccounted (Machine.rejectPending k d b s) := by
  cases hv : (s.slot k).pending with
  | none => simpa only [Machine.rejectPending, hv] using h
  | some v =>
    refine (h.setSlot ?_ ((h.sound k).dropPending _) (h.2.2.1 k)).congr (rejectPending_account hv d b)
    have own : pendingPoints (s.slot k) = v.declaredPoints := by simp [pendingPoints, hv]
    show s.poolFree + v.declaredPoints + currentPoints (s.slot k) = _
    rw [heldPoints_eq, own]
    omega

theorem PoolAccounted.removeParcelVersions {s : State} (h : PoolAccounted s) (p : Fin 6) :
    PoolAccounted (Machine.removeParcelVersions p s) := by
  have removed := (h.clearCurrent (k := .parcel p) rfl (s.slot (.parcel p)).last).setOutcome (.parcel p) .removed
  simp only [Machine.removeParcelVersions]
  split
  · exact (removed.clearPending (k := .parcel p) rfl _).setOutcome _ _
  · exact removed

theorem PoolAccounted.withdrawRecord {s : State} (h : PoolAccounted s) (k : RecordSlot) :
    PoolAccounted (Machine.withdrawRecord k s) := by
  by_cases hk : ∃ p, k = .parcel p
  · obtain ⟨p, rfl⟩ := hk
    exact (h.removeParcelVersions p).congr (endParcel_account p false s)
  · exact ((h.dropCurrent k).setOutcome k .removed).congr (withdrawRecord_account (fun p e => hk ⟨p, e⟩) s)

/-- A PROPOSED version that enters force holds the points it declared (R29, R36). -/
theorem PoolAccounted.enterForce {s : State} (h : PoolAccounted s) (hr : s.unit = .running) {k : RecordSlot}
    {v : PendingVersion} (hv : (s.slot k).pending = some v) (hp : v.assembly = none) :
    PoolAccounted (Machine.enterForce k v s) := by
  have complete : v.points.length = v.declaredPoints := by
    have := (h.sound k).2 v hv
    simpa only [PendingSound, hp] using this
  have own : heldPoints (s.slot k) = currentPoints (s.slot k) + v.points.length := by
    rw [heldPoints_eq, complete, pendingPoints, hv]
  refine (h.setSlot ?_ ⟨fun hk => ?_, fun q hq => by simp at hq⟩
    fun ha => absurd ha (h.not_awaits hr k)).congr (enterForce_account k v s)
  · show s.poolFree + currentPoints (s.slot k) + v.points.length = _
    omega
  · show v.points.length = 0
    have := (h.sound k).1 hk
    omega

/-- A tank's pending version comes into its slot with the points it declares, which leave the pool (R13, R26). -/
theorem PoolAccounted.beginAssembly {s : State} (h : PoolAccounted s) {l : Link} {k : RecordSlot} {b : BeginLayout}
    {c : Content} (hk : (tankOfSlot k).isSome) (hp : (s.slot k).pending = none) (hlow : 0 < b.points)
    (hroom : b.points ≤ s.poolFree) : PoolAccounted (Machine.beginAssembly l k b c s) := by
  have own : heldPoints (s.slot k) = currentPoints (s.slot k) := by rw [heldPoints_eq, pendingPoints, hp]; rfl
  refine h.setSlot ?_ ⟨fun hn => ?_, fun q hq => ?_⟩ (h.2.2.1 k)
  · show s.poolFree - b.points + (currentPoints (s.slot k) + b.points) = _
    omega
  · simp [Option.isSome_iff_ne_none.1 hk] at hn
  · cases hq
    refine ⟨rfl, ?_, rfl⟩
    show 0 < (b.points + 23) / 24
    omega

/-- A version of a kind without a table declares no points (R15, R27). -/
theorem PoolAccounted.setPending_whole {s : State} (h : PoolAccounted s) {k : RecordSlot} {q : PendingVersion}
    (hk : tankOfSlot k = none) (hq : q.assembly = none) (hd : q.declaredPoints = 0) (hl : q.points = []) :
    PoolAccounted (setPending k (some q) s) := by
  have empty : heldPoints { s.slot k with pending := some q } = 0 := by
    have := h.no_points hk
    rw [heldPoints_eq] at this
    show currentPoints (s.slot k) + q.declaredPoints = 0
    omega
  refine h.setSlot_points (by rw [empty, h.no_points hk]) ⟨fun _ => empty, fun r hr => ?_⟩ (h.2.2.1 k)
  cases hr
  simp [PendingSound, hq, hl, hd]

/-- A segment joins its assembly, which goes on, or ends with the points declared (R28, R29). -/
theorem PoolAccounted.joinSegment {s : State} (h : PoolAccounted s) {k : RecordSlot} {v : PendingVersion}
    {g : SegmentLayout} {timer : Option Timer} (hv : (s.slot k).pending = some v)
    (hsound : PendingSound (Machine.joinSegment v g timer)) :
    PoolAccounted (setPending k (some (Machine.joinSegment v g timer)) s) := by
  have own : heldPoints { s.slot k with pending := some (Machine.joinSegment v g timer) } = heldPoints (s.slot k) := by
    rw [heldPoints_eq, heldPoints_eq (s.slot k), pendingPoints, pendingPoints, hv]; rfl
  refine h.setSlot_points own ⟨fun hk => ?_, fun q hq => ?_⟩ (h.2.2.1 k)
  · rw [own]; exact (h.sound k).1 hk
  · cases hq; exact hsound

theorem PoolAccounted.auditStep {s : State} (h : PoolAccounted s) (k : RecordSlot) :
    PoolAccounted (Machine.auditStep k s) := by
  unfold Machine.auditStep
  split
  · exact h
  next v hv =>
    have current : (s.slot k).current = some v := by
      unfold State.inForce at hv
      grind
    have replaced : ∀ c : CurrentVersion, c.points = v.points →
        PoolAccounted (Machine.setSlot k { s.slot k with current := some c } s) := by
      intro c hc
      have own : heldPoints { s.slot k with current := some c } = heldPoints (s.slot k) := by
        show c.points.length + pendingPoints (s.slot k) = _
        rw [heldPoints_eq, currentPoints, current, hc]
      obtain ⟨empty, pending⟩ := h.sound k
      refine h.setSlot_points own ⟨fun hk => by rw [own]; exact empty hk, pending⟩ fun ha => ?_
      rw [h.2.2.1 k ha] at current
      cases current
    split
    · exact replaced _ rfl
    · exact ((replaced { v with suspect := true } rfl).setOutcome k .suspect).congr (by simp [markSuspect])

/-! ### CALL CLEAR (R16, R20, R131) -/

theorem PoolAccounted.callClearParcel {s : State} (h : PoolAccounted s) (p : Fin 6) :
    PoolAccounted (Machine.callClearParcel p s) := by
  have removed : PoolAccounted (callClearParcel.removed p s) := by
    refine (h.setSlot_points (k := .parcel p) ?_ (slotSound_reset _) fun _ => rfl).congr ?_
    · rw [h.no_points rfl]; rfl
    · simp [callClearParcel.removed, removeCheckpoint, removeRecord]
  unfold Machine.callClearParcel
  split
  · exact removed
  · exact removed
  · exact h

theorem PoolAccounted.emptySlot {s : State} (h : PoolAccounted s) (k : RecordSlot) :
    PoolAccounted (Machine.emptySlot k s) :=
  h.setSlot (n := s.poolFree + heldPoints (s.slot k)) rfl (slotSound_reset k) fun _ => rfl

theorem PoolAccounted.callClear {s : State} (h : PoolAccounted s) : PoolAccounted (Machine.callClear s) := by
  have parcels : PoolAccounted (allParcels.foldl (fun w p => Machine.callClearParcel p w) s) :=
    foldl_keeps (P := PoolAccounted) (fun _ p hw => hw.callClearParcel p) allParcels h
  have record : ∀ (w : State) k, PoolAccounted w → PoolAccounted (removeRecord k (Machine.emptySlot k w)) :=
    fun w k hw => (hw.emptySlot k).congr (giveWrite_account _ _ _)
  have records := foldl_keeps (P := PoolAccounted) record vesselSlots parcels
  have intake : ∀ l (w : State), (emptyIntake l w).account = w.account := by
    intro l w
    simp only [emptyIntake]
    split <;> simp
  exact records.congr (by simp [Machine.callClear, dropHold, intake])

end Sys2Proof.Machine
end

section
/-! The account of the pool along every command, and so along every step (R12, R13, R16, R19). -/

namespace Sys2Proof.Machine

open Sys2Proof

/-! ### Refusals -/

/-- Nothing is refused exactly when every check holds. -/
theorem firstRefusal_eq_none {cs : List (Bool × ResultCode)} : firstRefusal cs = none ↔ ∀ c ∈ cs, c.1 = true := by
  induction cs with
  | nil => simp [firstRefusal]
  | cons c cs ih =>
    obtain ⟨holds, code⟩ := c
    cases holds <;> simp [firstRefusal, ih]

/-- What the checks of R25 leave of a proposal that passes them all. -/
theorem beginRefusal_eq_none {s : State} {l : Link} {k : RecordSlot} {b : BeginLayout} {h : Header}
    (hr : s.beginRefusal l k b h = none) :
    s.proposalRefusal l k (s.isRestoring k b.digest) = none ∧ headerRefusal h = none ∧ pointsRefusal k b.points = none
      ∧ s.bindingRefusal k (s.isRestoring k b.digest) (headerContent h) = none ∧ s.poolRefusal k b.points = none := by
  unfold State.beginRefusal at hr
  grind

theorem pending_of_proposalRefusal {s : State} {l : Link} {k : RecordSlot} {restoring : Bool}
    (h : s.proposalRefusal l k restoring = none) : (s.slot k).pending = none := by
  unfold State.proposalRefusal at h
  simpa using (firstRefusal_eq_none.1 h) ((s.slot k).pending.isNone, .state) (by simp)

/-! ### Proposals and their assembly (R25 to R29) -/

/-- The pending points of a slot without a pending version are none, whatever the version a whole proposal brings. -/
theorem PoolAccounted.takeProposal {s : State} (h : PoolAccounted s) {l : Link} {k : RecordSlot} {b : BeginLayout}
    (c : Content) (hk : tankOfSlot k = none) (hb : b.points = 0) : PoolAccounted (Machine.takeProposal l k b c s) := by
  have whole : PoolAccounted (setPending k (some (s.newPending l k b c none)) s) :=
    h.setPending_whole hk rfl hb rfl
  simp only [Machine.takeProposal]
  repeat' split
  · exact whole
  · exact whole.congr (enterProposed_account _ _ _)
  · exact whole

theorem PoolAccounted.proposeBegin {s : State} (h : PoolAccounted s) (l : Link) (payload : List Byte) :
    PoolAccounted (proposeBeginOwner l payload s).1 := by
  unfold proposeBeginOwner
  split
  · exact h
  next b _ =>
    refine onSlot_keeps (P := PoolAccounted) h (fun k => ?_) _
    split
    · exact h
    next header _ =>
      split
      · exact h
      next refusal =>
        obtain ⟨proposal, -, points, -, pool⟩ := beginRefusal_eq_none refusal
        have pending := pending_of_proposalRefusal proposal
        unfold decideProposal
        by_cases hk : (tankOfSlot k).isSome
        · rw [if_pos hk]
          rw [pointsRefusal, if_pos hk, firstRefusal_eq_none] at points
          rw [State.poolRefusal, if_pos hk, firstRefusal_eq_none] at pool
          have count : 2 ≤ b.points ∧ b.points ≤ 240 := by simpa [inRange] using points
          exact h.beginAssembly hk pending (by omega) (by simpa using pool)
        · rw [if_neg hk]
          rw [pointsRefusal, if_neg hk, firstRefusal_eq_none] at points
          split
          · exact h.takeProposal _ (by simpa using hk) (by simpa using points)
          · exact h.setOutcome k _

/-- What the checks of R28 leave of a segment that passes them. -/
theorem segmentRefusal_eq_none {l : Link} {v : PendingVersion} {g : SegmentLayout}
    (h : segmentRefusal l (some v) g = none) :
    v.assembly.isSome ∧ v.proposer = l ∧ g.number = v.received + 1
      ∧ (v.expected ≤ g.number ∨ g.points.length = 24) := by
  rw [segmentRefusal, firstRefusal_eq_none] at h
  simpa using h

theorem PoolAccounted.proposeSegment {s : State} (h : PoolAccounted s) (l : Link) (payload : List Byte) :
    PoolAccounted (proposeSegmentOwner l payload s).1 := by
  unfold proposeSegmentOwner
  split
  · exact h
  next g _ =>
    refine onSlot_keeps (P := PoolAccounted) h (fun k => ?_) _
    split
    · exact h
    split
    · exact h
    next v refusal hv =>
      obtain ⟨assembling, -, number, length⟩ := segmentRefusal_eq_none (hv ▸ refusal)
      have sound := (h.sound k).2 v hv
      obtain ⟨timer, hassembly⟩ := Option.isSome_iff_exists.1 assembling
      simp only [PendingSound, hassembly, segmentCount] at sound
      obtain ⟨held, more, expected⟩ := sound
      unfold decideSegment
      split
      · exact h.rejectPending k _ _
      split
      next before =>
        refine h.joinSegment hv ?_
        simp only [PendingSound, Machine.joinSegment, List.length_append, segmentCount]
        omega
      next last =>
        show PoolAccounted (completeAssembly k v g s)
        unfold completeAssembly
        split
        · exact h.rejectPending k _ _
        next count =>
          split
          · refine h.joinSegment hv ?_
            simp only [PendingSound, Machine.joinSegment, List.length_append]
            simp only [lastSegmentPoints, not_not] at count
            omega
          · exact h.rejectPending k _ _
    · exact h

/-! ### Endorsement, decline and withdrawal (R34 to R39) -/

/-- A slot that holds a PROPOSED version. -/
theorem hasProposed_iff {s : State} {k : RecordSlot} :
    s.hasProposed k = true ↔ ∃ v, (s.slot k).pending = some v ∧ v.assembly = none := by
  unfold State.hasProposed
  cases (s.slot k).pending <;> simp

theorem PoolAccounted.endorse {s : State} (h : PoolAccounted s) (hr : s.unit = .running) (l : Link)
    (payload : List Byte) : PoolAccounted (endorseOwner l payload s).1 := by
  unfold endorseOwner
  split
  · exact h
  · refine onSlot_keeps (P := PoolAccounted) h (fun k => ?_) _
    split
    · exact h
    next refusal =>
      rw [State.endorseRefusal, firstRefusal_eq_none] at refusal
      obtain ⟨v, hv, proposed⟩ := hasProposed_iff.1 (refusal (s.hasProposed k, .state) (by simp))
      show PoolAccounted (compareEndorsement k _ s)
      simp only [compareEndorsement, hv]
      split
      · exact h.enterForce hr hv proposed
      · exact h.rejectPending k _ _

theorem PoolAccounted.decline {s : State} (h : PoolAccounted s) (l : Link) (payload : List Byte) :
    PoolAccounted (declineOwner l payload s).1 := by
  refine onSlot_keeps (P := PoolAccounted) h (fun k => ?_) _
  split
  · exact h
  · exact h.rejectPending k _ _

theorem PoolAccounted.withdrawPending {s : State} (h : PoolAccounted s) (l : Link) (payload : List Byte) :
    PoolAccounted (withdrawPendingOwner l payload s).1 := by
  refine onSlot_keeps (P := PoolAccounted) h (fun k => ?_) _
  split
  · exact h
  · exact h.rejectPending k _ _

theorem PoolAccounted.withdrawCurrent {s : State} (h : PoolAccounted s) (l : Link) (payload : List Byte) :
    PoolAccounted (withdrawCurrentOwner l payload s).1 := by
  refine onSlot_keeps (P := PoolAccounted) h (fun k => ?_) _
  split
  · exact h
  · exact h.withdrawRecord k

theorem PoolAccounted.readRecordState {s : State} (h : PoolAccounted s) (l : Link) (payload : List Byte) :
    PoolAccounted (readRecordStateOwner l payload s).1 := by
  refine onSlot_keeps (P := PoolAccounted) h (fun k => ?_) _
  exact h

/-! ### The steps of declarations (R119 to R131) -/

theorem openParcel_account (p : Fin 6) (s : State) : (openParcel p s).account = s.account := by
  unfold openParcel
  split
  · rfl
  · split <;> simp [openChannel]

theorem resumeParcel_account (p : Fin 6) (s : State) : (resumeParcel p s).account = s.account := by
  simp [resumeParcel]

theorem suspendParcel_account (p : Fin 6) (r : SuspendReason) (s : State) :
    (suspendParcel p r s).account = s.account := by simp [suspendParcel]

theorem settleParcel_account (p : Fin 6) (s : State) : (settleParcel p s).account = s.account := by simp [settleParcel]

theorem closingSample_account (m : Fin 4) (s : State) : (closingSample m s).account = s.account := by
  unfold closingSample
  repeat' split
  all_goals rfl

theorem closeParcel_account (p : Fin 6) (s : State) : (closeParcel p s).account = s.account := by
  unfold closeParcel sampleAtClose
  repeat' split
  all_goals simp [closingSample_account]

theorem PoolAccounted.abandonParcel {s : State} (h : PoolAccounted s) (p : Fin 6) (b : Bool) :
    PoolAccounted (Machine.abandonParcel p b s) := by
  unfold Machine.abandonParcel
  split
  · exact h.rejectPending _ _ _
  · exact h.congr (by simp)

theorem PoolAccounted.releaseParcel {s : State} (h : PoolAccounted s) (p : Fin 6) (b : Bool) :
    PoolAccounted (Machine.releaseParcel p b s) := (h.removeParcelVersions p).congr (endParcel_account p b s)

/-- A declaration whose step keeps the account keeps it. -/
theorem PoolAccounted.declareParcel {s : State} (h : PoolAccounted s) {kind : DeclKind} {l : Link} {payload : List Byte}
    {met : State → Fin 6 → Bool} {step : Fin 6 → Bool → State → State}
    (hstep : ∀ (w : State) p b, PoolAccounted w → PoolAccounted (step p b w)) :
    PoolAccounted (Machine.declareParcel kind l payload met step s).1 :=
  declareParcel_keeps h (fun _ => h.congr rfl) fun p b _ => hstep _ p b (h.congr rfl)

/-! ### The other owners -/

theorem postReadings_account (l : Link) (payload : List Byte) (s : State) :
    (postReadingsOwner l payload s).1.account = s.account := by
  unfold postReadingsOwner
  repeat' split
  all_goals simp [refuseWith, queueReadings]

theorem setLinkParameters_account (l : Link) (payload : List Byte) (s : State) :
    (setLinkParametersOwner l payload s).1.account = s.account := by
  unfold setLinkParametersOwner
  repeat' split
  all_goals simp [refuseWith, setLinkParameters]

theorem suspend_account (l : Link) (payload : List Byte) (s : State) :
    (suspendOwner l payload s).1.account = s.account :=
  onParcel_keeps (P := fun w => w.account = s.account) rfl
    (fun p => by split; exacts [suspendParcel_account _ _ _, rfl]) payload

theorem transferEnd_account (payload : List Byte) (s : State) :
    (transferEndOwner payload s).1.account = s.account :=
  onParcel_keeps (P := fun w => w.account = s.account) rfl
    (fun p => by split; exacts [settleParcel_account _ _, rfl]) payload

theorem readParcel_account (l : Link) (part : Fin 7) (payload : List Byte) (s : State) :
    (readParcelOwner l part payload s).1.account = s.account :=
  onParcel_keeps (P := fun w => w.account = s.account) rfl (fun _ => rfl) payload

theorem readFinal_account (part : Fin 4) (payload : List Byte) (s : State) :
    (readFinalOwner part payload s).1.account = s.account := by
  refine onParcel_keeps (P := fun w => w.account = s.account) rfl (fun p => ?_) payload
  repeat' split
  all_goals rfl

theorem readTank_account (l : Link) (payload : List Byte) (s : State) :
    (readTankOwner l payload s).1.account = s.account := by
  unfold readTankOwner
  repeat' split
  all_goals rfl

theorem readTrail_account (payload : List Byte) (s : State) : (readTrailOwner payload s).1.account = s.account := by
  unfold readTrailOwner
  repeat' split
  all_goals rfl

theorem status_account (payload : List Byte) (s : State) : (statusOwner payload s).1.account = s.account := by
  unfold statusOwner
  split <;> rfl

theorem counterReset_account (l : Link) (payload : List Byte) (s : State) :
    (counterResetOwner l payload s).1.account = s.account := by
  unfold counterResetOwner
  split <;> simp [refuseWith]

theorem hold_account (l : Link) (payload : List Byte) (s : State) : (holdOwner l payload s).1.account = s.account := by
  unfold holdOwner
  split <;> simp [refuseWith]

theorem releaseHold_account (l : Link) (payload : List Byte) (s : State) :
    (releaseHoldOwner l payload s).1.account = s.account := by
  unfold releaseHoldOwner
  repeat' split
  all_goals simp [refuseWith, dropHold]

/-! ### Commands that leave the account as it stands -/

theorem faultyFrame_account (l : Link) (f : FrameFault) (s : State) : (faultyFrame l f s).account = s.account := by
  cases f <;> simp [faultyFrame]

theorem takeSample_account (m : Fin 4) (s : State) : (takeSample m s).account = s.account := by
  unfold takeSample
  split
  · rfl
  · exact closingSample_account m s
  · rfl

theorem evaluateParcels_account (ps : List (Fin 6)) (s : State) : (evaluateParcels ps s).account = s.account := by
  refine foldl_keeps (P := fun w => w.account = s.account) (fun w p hw => ?_) ps rfl
  rw [← hw]
  unfold evaluateParcel
  split <;> simp [giveCheckpoint]

theorem stopTransfers_account (line : Link) (s : State) : (stopTransfers line s).account = s.account := by
  rw [stopTransfers, appendTrail_account]
  refine foldl_keeps (P := fun w => w.account = s.account) (fun w p hw => ?_) allParcels rfl
  rw [← hw]
  unfold suspendByLine
  split
  · exact suspendParcel_account _ _ _
  · rfl

theorem takeTank_account (l : Link) (x : TankId) (f : TankFields) (arrival : Clock) (s : State) :
    (takeTank l x f arrival s).account = s.account := by
  unfold takeTank
  split <;> simp [keepReading, reportDiscard, updateReport]

theorem takeLine_account (l : Link) (m : Fin 4) (t : Int) (arrival : Clock) (s : State) :
    (takeLine l m t arrival s).account = s.account := by
  unfold takeLine
  split <;> simp [reportDiscard, updateReport]

theorem removeHead_account (l : Link) (s : State) : (removeHead l s).account = s.account := by
  show (setLink l _ s).account = _
  exact setLink_account _ _ _

end Sys2Proof.Machine
end

section
/-! The account of the pool along the store load and a full reset, and the account kept by every step (R12, R19, R203,
R205). -/

namespace Sys2Proof.Machine

open Sys2Proof

/-! ### Phases of the load and of the unit -/

/-- The account stands at another phase that awaits no slot more. -/
theorem PoolAccounted.advance {s t : State} (h : PoolAccounted s) (hslots : t.slots = s.slots)
    (hpool : t.poolFree = s.poolFree) (hawaits : ∀ k, t.awaitsLoad k → s.awaitsLoad k)
    (hrunning : t.unit = .running → t.load = .complete) (hinactive : t.unit = .inactive → t.load = .start) :
    PoolAccounted t := by
  obtain ⟨account, sound, awaits, -, -⟩ := h
  have slot : ∀ k, t.slot k = s.slot k := fun k => by unfold State.slot; rw [hslots]
  have held : t.pointsHeld = s.pointsHeld := by unfold State.pointsHeld; rw [hslots]
  refine ⟨by rw [hpool, held, account], fun k => ?_, fun k hk => ?_, hrunning, hinactive⟩
  · rw [slot]; exact sound k
  · rw [slot]; exact awaits k (hawaits k hk)

theorem reset_slot (k : RecordSlot) : State.reset.slot k = .reset := vector_get_replicate Slot.reset _

theorem poolAccounted_reset : PoolAccounted State.reset := by
  have held : State.reset.pointsHeld = 0 := by
    refine List.sum_eq_zero fun n hn => ?_
    obtain ⟨i, -, rfl⟩ := List.mem_map.1 hn
    exact congrArg heldPoints (vector_get_replicate Slot.reset i)
  refine ⟨by rw [held]; rfl, fun k => ?_, fun k _ => ?_, (by simp [State.reset]), by simp [State.reset]⟩
  · rw [reset_slot]; exact slotSound_reset k
  · rw [reset_slot]; rfl

theorem poolAccounted_beginReset (cause : ResetCause) (s : State) : PoolAccounted (beginReset cause s) :=
  poolAccounted_reset.advance rfl rfl (fun _ h => h) (fun h => by cases h) fun _ => rfl

/-! ### The records of the load (R19, R205) -/

theorem passingCopy_passes {o : StoreObject} {x : Place} {c : StoreCopy} (h : passingCopy o x = some c) :
    copyPasses o c = true := by
  unfold passingCopy at h
  grind

theorem storedCopy_passes {o : StoreObject} {v : ObjectPlaces} {first : Bool} {c : StoreCopy}
    (h : storedCopy o v = some (first, c)) : copyPasses o c = true := by
  have first_passes := @passingCopy_passes o v.first
  have second_passes := @passingCopy_passes o v.second
  unfold storedCopy at h
  grind

/-- The stored copy of a record of a kind without a table holds no points (R198). -/
theorem points_of_storedCopy {k : RecordSlot} {v : ObjectPlaces} {first : Bool} {c : StoreCopy} {d : Digest}
    {content : Content} {points : List Breakpoint} (h : storedCopy (.record k) v = some (first, c))
    (hc : c.content = .record d content points) (hk : (tankOfSlot k).isNone) : points = [] := by
  have passes := storedCopy_passes h
  simp_all [copyPasses, contentPasses]

theorem afterRecord_awaits {i : Fin 60} {s : State} {k : RecordSlot} (h : (setLoad (afterRecord i) s).awaitsLoad k) :
    i < slotIndex k := by
  simp only [State.awaitsLoad, setLoad_load, afterRecord] at h
  split at h
  next e => split at e <;> cases e
  next e =>
    split at e
    · cases e
      exact Fin.lt_def.2 (Nat.lt_of_succ_le (Fin.le_def.1 h))
    · cases e
  · cases h

theorem PoolAccounted.afterRecord {s : State} (h : PoolAccounted s) (hs : s.unit = .starting) {i : Fin 60}
    (hi : s.load = .records i) : PoolAccounted (setLoad (Machine.afterRecord i) s) := by
  refine h.advance rfl rfl (fun k hk => ?_) (fun e => ?_) fun e => ?_
  · simp only [State.awaitsLoad, hi]
    exact le_of_lt (afterRecord_awaits hk)
  · rw [setLoad_unit, hs] at e; cases e
  · rw [setLoad_unit, hs] at e; cases e

theorem setLoad_account_congr {v w : State} (h : v.account = w.account) (p : LoadPhase) :
    (setLoad p v).account = (setLoad p w).account := by
  simp only [State.account, Prod.mk.injEq] at h ⊢
  obtain ⟨hunit, -, hslots, hpool⟩ := h
  exact ⟨hunit, rfl, hslots, hpool⟩

@[simp] theorem dropRecord_account (k : RecordSlot) (r : DropReason) (s : State) :
    (dropRecord k r s).account = s.account := by simp [dropRecord, removeRecord]

/-- A record placed takes its points from the pool into a slot that was empty (R19). -/
theorem PoolAccounted.placeRecord {s : State} (h : PoolAccounted s) {k : RecordSlot} {d : Digest} {c : Content}
    {points : List Breakpoint} (hempty : (s.slot k).current = none) (hawaits : ¬s.awaitsLoad k)
    (hpoints : (tankOfSlot k).isNone → points = []) : PoolAccounted (Machine.placeRecord k d c points s) := by
  unfold Machine.placeRecord
  split
  next room =>
    have own : heldPoints (s.slot k) = pendingPoints (s.slot k) := by
      rw [heldPoints_eq, currentPoints, hempty]
      exact Nat.zero_add _
    obtain ⟨none, pending⟩ := h.sound k
    refine h.setSlot ?_ ⟨fun hk => ?_, pending⟩ fun ha => absurd ha hawaits
    · show s.poolFree - points.length + (points.length + pendingPoints (s.slot k)) = _
      omega
    · show points.length + pendingPoints (s.slot k) = 0
      rw [hpoints hk, ← own, none hk]; rfl
  · exact h.congr (by simp)

theorem placeRecord_setLoad_account (k : RecordSlot) (d : Digest) (c : Content) (points : List Breakpoint)
    (p : LoadPhase) (s : State) :
    (setLoad p (placeRecord k d c points s)).account = (placeRecord k d c points (setLoad p s)).account := by
  unfold placeRecord
  rw [setLoad_poolFree]
  split
  · rfl
  · rw [setLoad_account_congr (dropRecord_account _ _ _), dropRecord_account]

theorem PoolAccounted.loadRecord {s : State} (h : PoolAccounted s) (hs : s.unit = .starting) {i : Fin 60}
    (hi : s.load = .records i) : PoolAccounted (setLoad (Machine.afterRecord i) (Machine.loadRecord (slotAt i) s)) := by
  have after := h.afterRecord hs hi
  have empty : (s.slot (slotAt i)).current = none := by
    refine h.2.2.1 _ ?_
    simp [State.awaitsLoad, hi]
  have same : ∀ w : State, w.account = s.account → PoolAccounted (setLoad (Machine.afterRecord i) w) :=
    fun w hw => after.congr (setLoad_account_congr hw _)
  unfold Machine.loadRecord
  dsimp only
  split
  next first c copy =>
    split
    next d content points hc =>
      have placed := after.placeRecord (k := slotAt i) (d := d) (c := content) (points := points) empty
        (fun ha => by simpa using afterRecord_awaits ha) (points_of_storedCopy copy hc)
      refine placed.congr ?_
      rw [setLoad_account_congr (tellReloaded_account _ _)]
      exact placeRecord_setLoad_account _ _ _ _ _ _
    · exact same _ rfl
  · split
    · exact same _ (dropRecord_account _ _ _)
    · exact same _ rfl

/-! ### The checkpoints of the load (R206 to R208) -/

theorem PoolAccounted.discardReloaded {s : State} (h : PoolAccounted s) (p : Fin 6) :
    PoolAccounted (Machine.discardReloaded p s) := by
  simp only [Machine.discardReloaded]
  split
  · exact (h.clearCurrent (k := .parcel p) rfl .none).congr (by simp [removeRecord])
  · exact h

theorem PoolAccounted.dropParcel {s : State} (h : PoolAccounted s) (p : Fin 6) :
    PoolAccounted (Machine.dropParcel p s) := by
  have dropped : PoolAccounted (removeCheckpoint p (appendTrail (.storeDrop (.parcel p) .checkpointFailed) s)) :=
    h.congr (by simp [removeCheckpoint])
  exact dropped.discardReloaded p

theorem freeParcel_account (p : Fin 6) (s : State) : (freeParcel p s).account = s.account := by
  simp [freeParcel, removeCheckpoint]

@[simp] theorem restoreAccumulators_account (r : ParcelRecord) (a : Option AccumulatorSet) (s : State) :
    (restoreAccumulators r a s).account = s.account := by
  unfold restoreAccumulators
  split <;> simp [setAccumulators]

@[simp] theorem bringUp_account (p : Fin 6) (v : Parcel) (s : State) : (bringUp p v s).account = s.account := by
  simp [bringUp]

@[simp] theorem announceRestored_account (p : Fin 6) (d : StateDetail) (s : State) :
    (announceRestored p d s).account = s.account := by simp [announceRestored, giveRestoredCheckpoint]

/-- What the load's step for a parcel slot can come to (R206, R207). -/
theorem loadCheckpoint_cases (p : Fin 6) (s : State) :
    loadCheckpoint p s = s ∨ loadCheckpoint p s = dropParcel p s ∨ loadCheckpoint p s = freeParcel p s
      ∨ (∃ r, loadCheckpoint p s = restoreDefined p r s) ∨ (∃ r c, loadCheckpoint p s = restoreSuspended p r c s)
      ∨ ∃ r c, loadCheckpoint p s = restoreAsStored p r c s := by
  unfold loadCheckpoint restoreParcel restoreWithoutRecord
  repeat' split
  all_goals grind

theorem PoolAccounted.loadCheckpoint {s : State} (h : PoolAccounted s) (p : Fin 6) :
    PoolAccounted (Machine.loadCheckpoint p s) := by
  obtain e | e | e | ⟨r, e⟩ | ⟨r, c, e⟩ | ⟨r, c, e⟩ := loadCheckpoint_cases p s <;> rw [e]
  · exact h
  · exact h.dropParcel p
  · exact h.congr (freeParcel_account p s)
  · exact h.congr (by simp [restoreDefined])
  · exact h.congr (by simp [restoreSuspended])
  · exact h.congr (by simp [restoreAsStored])

theorem loadCheckpoint_unit (p : Fin 6) (s : State) : (loadCheckpoint p s).unit = s.unit := by
  have accumulators : ∀ r a w, (restoreAccumulators r a w).unit = w.unit := fun r a w =>
    congrArg Prod.fst (restoreAccumulators_account r a w)
  have discarded : ∀ w, (discardReloaded p w).unit = w.unit := fun w => by
    simp only [discardReloaded]
    split <;> simp [removeRecord]
  obtain e | e | e | ⟨r, e⟩ | ⟨r, c, e⟩ | ⟨r, c, e⟩ := loadCheckpoint_cases p s <;> rw [e]
  · simp [dropParcel, discarded, removeCheckpoint]
  · simp [freeParcel, removeCheckpoint]
  · simp [restoreDefined, announceRestored, giveRestoredCheckpoint, accumulators, bringUp]
  · simp [restoreSuspended, announceRestored, giveRestoredCheckpoint, accumulators, bringUp]
  · simp [restoreAsStored, accumulators, bringUp]

@[simp] theorem startInterval_account (s : State) : (startInterval s).account = s.account := rfl

theorem reportStopLine_account (l : Link) (s : State) : (reportStopLine l s).account = s.account := by
  unfold reportStopLine
  split <;> simp

theorem startSampleTimers_account (s : State) : (startSampleTimers s).account = s.account :=
  foldl_keeps (P := fun w => w.account = s.account) (fun _ _ hw => hw) allMeters rfl

/-- The completed load leaves the record set and the pool, the unit RUNNING. -/
theorem completeLoad_account (s : State) : (completeLoad s).account = (.running, .complete, s.slots, s.poolFree) := by
  unfold completeLoad
  rw [reportStopLine_account, reportStopLine_account, startSampleTimers_account]
  rfl

theorem PoolAccounted.completeLoad {s : State} (h : PoolAccounted s) : PoolAccounted (Machine.completeLoad s) := by
  have complete : PoolAccounted { s with unit := .running, load := .complete } :=
    h.advance rfl rfl (fun _ hk => hk.elim) (fun _ => rfl) fun e => by cases e
  exact complete.congr (completeLoad_account s)

/-! ### Every command and every step -/

/-- A request keeps the account where its owner does. -/
theorem PoolAccounted.request {s : State} (h : PoolAccounted s) {owner : State → State × Reply} {ready : Readiness}
    (howner : ∀ w : State, (ready = .whenRunning → w.unit = .running) → PoolAccounted w → PoolAccounted (owner w).1)
    (l : Link) (code tag : Byte) (payload : List Byte) (counted : Bool) :
    PoolAccounted (takeRequest l code tag payload counted ready owner s) :=
  takeRequest_keeps (P := PoolAccounted) (fun _ _ _ hw => hw.congr (setLink_account _ _ _))
    (fun _ _ hw => hw.congr (appendTrail_account _ _)) howner l code tag payload counted h

/-- A request keeps the account where its owner leaves it as it stands. -/
theorem PoolAccounted.request_same {s : State} (h : PoolAccounted s) {owner : State → State × Reply}
    (howner : ∀ w, (owner w).1.account = w.account) (l : Link) (code tag : Byte) (payload : List Byte) (counted : Bool)
    (ready : Readiness) : PoolAccounted (takeRequest l code tag payload counted ready owner s) :=
  h.request (fun w _ hw => hw.congr (howner w)) l code tag payload counted

/-- A command that takes a reading leaves the account as it stands. -/
theorem takeReading_keepsPool {s : State} (h : PoolAccounted s) :
    NextIs PoolAccounted (execTakeTankReading s) ∧ NextIs PoolAccounted (execTakeShipCondition s)
      ∧ NextIs PoolAccounted (execTakeLineConditions s) := by
  have head : ∀ l, PoolAccounted (removeHead l s) := fun l => h.congr (removeHead_account l s)
  refine ⟨?_, ?_, ?_⟩
  · unfold execTakeTankReading
    repeat' split
    all_goals rw [nextIs_next]
    · exact (head _).congr (takeTank_account _ _ _ _ _)
    · exact (head _).congr (takeTank_account _ _ _ _ _)
    · exact h
    · exact h
  · unfold execTakeShipCondition
    repeat' split
    all_goals rw [nextIs_next]
    next l _ _ _ _ _ => exact (head l).congr (by simp [takeCondition])
    · exact h
    · exact h
  · unfold execTakeLineConditions
    repeat' split
    all_goals rw [nextIs_next]
    · exact (head _).congr (takeLine_account _ _ _ _ _)
    · exact h
    · exact h

/-- The load's steps keep the account (R205 to R208). -/
theorem storeLoad_keepsPool {s : State} (h : PoolAccounted s) :
    NextIs PoolAccounted (execStoreLoadStart s) ∧ NextIs PoolAccounted (execStoreLoadRecord s)
      ∧ NextIs PoolAccounted (execStoreLoadLinkParameters s) ∧ NextIs PoolAccounted (execStoreLoadCheckpoint s) := by
  refine ⟨?_, ?_, ?_, ?_⟩
  · unfold execStoreLoadStart
    rw [nextIs_next]
    split
    next at_start =>
      simp only [State.loadsAt, Bool.and_eq_true, beq_iff_eq] at at_start
      obtain ⟨starting, start⟩ := at_start
      refine h.advance (by simp) (by simp) (fun k _ => by simp [State.awaitsLoad, start]) ?_ ?_
        <;> simp [starting]
    next => exact h
  · unfold execStoreLoadRecord
    split
    next starting =>
      split
      next i hi => rw [nextIs_next]; exact h.loadRecord starting hi
      next => rw [nextIs_next]; exact h
    next => rw [nextIs_next]; exact h
  · unfold execStoreLoadLinkParameters
    split
    next starting =>
      split
      next l hl =>
        rw [nextIs_next]
        have loaded : (loadLinkParameters l s).account = s.account := by
          unfold loadLinkParameters
          repeat' split
          all_goals simp
        refine (h.advance (t := setLoad (afterLink l) s) rfl rfl (fun k hk => ?_) ?_ ?_).congr
          (setLoad_account_congr loaded _)
        · cases l <;> exact hk.elim
        · simp [starting]
        · simp [starting]
      next => rw [nextIs_next]; exact h
    next => rw [nextIs_next]; exact h
  · unfold execStoreLoadCheckpoint
    split
    next starting =>
      split
      next p hp =>
        rw [nextIs_next]
        have loaded := h.loadCheckpoint p
        unfold afterCheckpoint
        split
        · exact loaded.advance rfl rfl (fun _ hk => hk.elim) (by simp [loadCheckpoint_unit, starting])
            (by simp [loadCheckpoint_unit, starting])
        · exact loaded.completeLoad
      next => rw [nextIs_next]; exact h
    next => rw [nextIs_next]; exact h

theorem PoolAccounted.declareUnit {s : State} (h : PoolAccounted s) (l : Link) (payload : List Byte) :
    PoolAccounted (Machine.declareUnit l payload s).1 := by
  have table : ∀ es, PoolAccounted (setConcurrence es s) := fun es => h.congr (setConcurrence_account es s)
  exact declareUnit_keeps (P := PoolAccounted) h table fun es => (table es).callClear

/-- Every command that takes a request keeps the account. -/
theorem request_keepsPool {s : State} (h : PoolAccounted s) {c : Instr} {r : Request} (hc : requestOf c = some r) :
    NextIs PoolAccounted (exec c s) := by
  cases c
  case status l tag payload =>
    exact (nextIs_next _ _).2 (h.request_same (status_account payload) l _ tag payload _ _)
  case counterReset l tag payload =>
    exact (nextIs_next _ _).2 (h.request_same (counterReset_account l payload) l _ tag payload _ _)
  case setLinkParameters l tag payload =>
    exact (nextIs_next _ _).2 (h.request_same (setLinkParameters_account l payload) l _ tag payload _ _)
  case postReadings l tag payload =>
    exact (nextIs_next _ _).2 (h.request_same (postReadings_account l payload) l _ tag payload _ _)
  case proposeBegin l tag payload =>
    exact (nextIs_next _ _).2 (h.request (fun _ _ hw => hw.proposeBegin l payload) l _ tag payload _)
  case proposeSegment l tag payload =>
    exact (nextIs_next _ _).2 (h.request (fun _ _ hw => hw.proposeSegment l payload) l _ tag payload _)
  case endorse l tag payload =>
    exact (nextIs_next _ _).2 (h.request (fun _ hr hw => hw.endorse (hr rfl) l payload) l _ tag payload _)
  case decline l tag payload =>
    exact (nextIs_next _ _).2 (h.request (fun _ _ hw => hw.decline l payload) l _ tag payload _)
  case withdrawPending l tag payload =>
    exact (nextIs_next _ _).2 (h.request (fun _ _ hw => hw.withdrawPending l payload) l _ tag payload _)
  case withdrawCurrent l tag payload =>
    exact (nextIs_next _ _).2 (h.request (fun _ _ hw => hw.withdrawCurrent l payload) l _ tag payload _)
  case readRecordState l tag payload =>
    exact (nextIs_next _ _).2 (h.request (fun _ _ hw => hw.readRecordState l payload) l _ tag payload _)
  case declareOpen l tag payload =>
    exact (nextIs_next _ _).2 (h.request (fun _ _ hw =>
      hw.declareParcel fun _ p _ hv => hv.congr (openParcel_account p _)) l _ tag payload _)
  case declareResume l tag payload =>
    exact (nextIs_next _ _).2 (h.request (fun _ _ hw =>
      hw.declareParcel fun _ p _ hv => hv.congr (resumeParcel_account p _)) l _ tag payload _)
  case declareClose l tag payload =>
    exact (nextIs_next _ _).2 (h.request (fun _ _ hw =>
      hw.declareParcel fun _ p _ hv => hv.congr (closeParcel_account p _)) l _ tag payload _)
  case declareAbandon l tag payload =>
    exact (nextIs_next _ _).2 (h.request (fun _ _ hw =>
      hw.declareParcel fun _ p b hv => hv.abandonParcel p b) l _ tag payload _)
  case declareRelease l tag payload =>
    exact (nextIs_next _ _).2 (h.request (fun _ _ hw =>
      hw.declareParcel fun _ p b hv => hv.releaseParcel p b) l _ tag payload _)
  case declareCallClear l tag payload =>
    exact (nextIs_next _ _).2 (h.request (fun _ _ hw =>
hw.declareUnit l payload) l _ tag payload _)
  case suspend l tag payload =>
    exact (nextIs_next _ _).2 (h.request_same (suspend_account l payload) l _ tag payload _ _)
  case transferEnd l tag payload =>
    exact (nextIs_next _ _).2 (h.request_same (transferEnd_account payload) l _ tag payload _ _)
  case readTank l tag payload =>
    exact (nextIs_next _ _).2 (h.request_same (readTank_account l payload) l _ tag payload _ _)
  case readParcel l part tag payload =>
    exact (nextIs_next _ _).2 (h.request_same (readParcel_account l part payload) l _ tag payload _ _)
  case readFinal l part tag payload =>
    exact (nextIs_next _ _).2 (h.request_same (readFinal_account part payload) l _ tag payload _ _)
  case readTrail l tag payload =>
    exact (nextIs_next _ _).2 (h.request_same (readTrail_account payload) l _ tag payload _ _)
  case hold l tag payload =>
    exact (nextIs_next _ _).2 (h.request_same (hold_account l payload) l _ tag payload _ _)
  case releaseHold l tag payload =>
    exact (nextIs_next _ _).2 (h.request_same (releaseHold_account l payload) l _ tag payload _ _)
  case unknownRequest l code selector tag payload =>
    simp only [exec, execUnknownRequest]
    split
    · exact (nextIs_next _ _).2 h
    · exact (nextIs_next _ _).2 (h.request_same (fun _ => rfl) l code tag payload _ _)
  all_goals cases hc

theorem PoolAccounted.advanceWalk {s : State} (h : PoolAccounted s) (i : Fin 60) :
    PoolAccounted (Machine.advanceWalk i s) := by
  unfold Machine.advanceWalk
  split <;> exact h.congr rfl

/-! ### Events of a link (R172, R174, R178 to R185) -/

theorem PoolAccounted.execDamagedFrame {s : State} (h : PoolAccounted s) (l : Link) (f : FrameFault) :
    NextIs PoolAccounted (Machine.execDamagedFrame l f s) := by
  refine (nextIs_next _ _).2 ?_
  split
  · exact h.congr (faultyFrame_account l f s)
  · exact h

theorem PoolAccounted.execOverrun {s : State} (h : PoolAccounted s) (l : Link) :
    NextIs PoolAccounted (Machine.execOverrun l s) := by
  refine (nextIs_next _ _).2 ?_
  split
  · exact h.congr (setLink_account _ _ _)
  · exact h

theorem PoolAccounted.execIdleGapInFrame {s : State} (h : PoolAccounted s) (l : Link) :
    NextIs PoolAccounted (Machine.execIdleGapInFrame l s) := by
  unfold Machine.execIdleGapInFrame
  repeat' split
  all_goals rw [nextIs_next]
  · exact h
  · exact h.congr (setLink_account _ _ _)
  · exact h.congr ((setLink_account _ _ _).trans (faultyFrame_account l .length s))

theorem PoolAccounted.execIdleGap {s : State} (h : PoolAccounted s) (l : Link) :
    NextIs PoolAccounted (Machine.execIdleGap l s) := by
  unfold Machine.execIdleGap
  split <;> rw [nextIs_next]
  · exact h
  · exact h.congr (setLink_account _ _ _)

theorem PoolAccounted.execResponseSend {s : State} (h : PoolAccounted s) (l : Link) :
    NextIs PoolAccounted (Machine.execResponseSend l s) := by
  unfold Machine.execResponseSend
  split <;> rw [nextIs_next]
  · exact h.congr (setLink_account _ _ _)
  · exact h

theorem PoolAccounted.execResponseSent {s : State} (h : PoolAccounted s) (l : Link) :
    NextIs PoolAccounted (Machine.execResponseSent l s) := by
  unfold Machine.execResponseSent
  split <;> rw [nextIs_next]
  · exact h.congr (setLink_account _ _ _)
  · exact h

theorem PoolAccounted.execHoldTimerExpiry {s : State} (h : PoolAccounted s) (l : Link) :
    NextIs PoolAccounted (Machine.execHoldTimerExpiry l s) := by
  unfold Machine.execHoldTimerExpiry
  split <;> rw [nextIs_next]
  · exact h.congr (by simp [updateReport, dropHold])
  · exact h

theorem PoolAccounted.execSilenceTimeout {s : State} (h : PoolAccounted s) (l : Link) :
    NextIs PoolAccounted (Machine.execSilenceTimeout l s) := by
  unfold Machine.execSilenceTimeout
  split <;> rw [nextIs_next]
  · exact h
  · exact h.congr (silenceTest_account l s)

/-- Every command that is no request keeps the account. -/
theorem event_keepsPool {s : State} (h : PoolAccounted s) {c : Instr} (hc : requestOf c = none) :
    NextIs PoolAccounted (exec c s) := by
  obtain ⟨tankReading, shipCondition, lineConditions⟩ := takeReading_keepsPool h
  obtain ⟨loadStart, loadRecord, loadLinks, loadCheckpoint⟩ := storeLoad_keepsPool h
  cases c
  case damagedFrame l f => exact h.execDamagedFrame l f
  case overrun l => exact h.execOverrun l
  case idleGapInFrame l => exact h.execIdleGapInFrame l
  case idleGap l => exact h.execIdleGap l
  case responseSend l => exact h.execResponseSend l
  case responseSent l => exact h.execResponseSent l
  case holdTimerExpiry l => exact h.execHoldTimerExpiry l
  case silenceTimeout l => exact h.execSilenceTimeout l
  case takeTankReading => exact tankReading
  case takeShipCondition => exact shipCondition
  case takeLineConditions => exact lineConditions
  case assemblyTimeout k =>
    refine (nextIs_next _ _).2 ?_
    split
    · exact h.rejectPending k _ _
    · exact h
  case auditTimerExpiry =>
    refine (nextIs_next _ _).2 ?_
    split
    · exact ((h.congr (setAuditTimer_account none s)).auditStep .vessel).advanceWalk 0
    · exact h
  case auditWalkStep =>
    refine (nextIs_next _ _).2 ?_
    split
    next i _ => exact (h.auditStep (slotAt i)).advanceWalk i
    next => exact h
  case sampleTimerExpiry m =>
    refine (nextIs_next _ _).2 ?_
    split
    · exact h.congr ((setChannel_account _ _ _).trans (takeSample_account m s))
    · exact h
  case intervalTimerExpiry =>
    refine (nextIs_next _ _).2 ?_
    split
    · exact h.congr (by simp [evaluateParcels_account])
    · exact h
  case settleTimerExpiry p =>
    simp only [exec, execSettleTimerExpiry]
    split <;> rw [nextIs_next]
    · exact h.congr (setParcel_account _ _ _)
    · exact h
  case declarationLapse subject kind =>
    simp only [exec, execDeclarationLapse]
    split <;> rw [nextIs_next]
    · exact h.congr (appendTrail_account _ _)
    · exact h
  case meterPulse m =>
    simp only [exec, execMeterPulse]
    split <;> rw [nextIs_next]
    · exact h
    · exact h.congr (setChannel_account _ _ _)
  case stopLineAsserted l =>
    simp only [exec, execStopLineAsserted]
    split <;> rw [nextIs_next]
    · exact h
    · split
      · exact h.congr ((stopTransfers_account l _).trans (setStopLine_account l true s))
      · exact h.congr (setStopLine_account l true s)
  case stopLineCleared l =>
    simp only [exec, execStopLineCleared]
    split <;> rw [nextIs_next]
    · exact h
    · split
      · exact h.congr ((appendTrail_account _ _).trans (setStopLine_account l false s))
      · exact h.congr (setStopLine_account l false s)
  case fullResetBegin cause =>
    refine (nextIs_next _ _).2 ?_
    split
    · exact h.congr (setPowered_account _ _)
    · exact poolAccounted_beginReset cause s
  case fullResetEnd =>
    refine (nextIs_next _ _).2 ?_
    split
    · exact h.advance rfl rfl (fun _ hk => hk) (fun e => by cases e) fun e => by cases e
    · exact h
  case storeLoadStart => exact loadStart
  case storeLoadRecord => exact loadRecord
  case storeLoadLinkParameters => exact loadLinks
  case storeLoadCheckpoint => exact loadCheckpoint
  case storeWriteComplete => exact (nextIs_next _ _).2 (h.congr (completeWrite_account s))
  case unknownRequest l code selector tag payload =>
    simp only [requestOf] at hc
    simp only [exec, execUnknownRequest]
    split at hc
    next defined => rw [if_pos defined, nextIs_next]; exact h
    next => cases hc
  all_goals cases hc

theorem exec_keepsPool (c : Instr) (s : State) (h : PoolAccounted s) : NextIs PoolAccounted (exec c s) := by
  cases hc : requestOf c with
  | some r => exact request_keepsPool h hc
  | none => exact event_keepsPool h hc

theorem PoolAccounted.tickClock {s : State} (h : PoolAccounted s) : PoolAccounted (Machine.tickClock s) := by
  unfold Machine.tickClock
  split
  · exact h
  · exact h.congr rfl

/-- Settles O54: every command settles with the pool what it changes of a slot. -/
theorem poolStaysAccounted : Obligations.PoolStaysAccounted := fun _ _ hs h =>
  step_keeps exec_keepsPool (fun _ _ hw => hw.congr rfl) (fun _ hw => hw.tickClock) hs h

end Sys2Proof.Machine
end

section
/-! The state after a full reset (R203): every part of it, and every invariant it meets. -/

namespace Sys2Proof.Machine

open Sys2Proof

/-! ### The parts of the reset state -/

theorem reset_link (l : Link) : State.reset.link l = .reset := by cases l <;> rfl

theorem reset_tank (x : TankId) : State.reset.tank x = .reset := vector_get_replicate Tank.reset _

theorem reset_channel (m : Fin 4) : State.reset.channel m = .reset := vector_get_replicate Channel.reset m

theorem reset_parcel (p : Fin 6) : State.reset.parcel p = .reset := vector_get_replicate Parcel.reset p

theorem reset_restoredItems (p : Fin 6) : State.reset.restoredItems p = .empty :=
  vector_get_replicate RestoredItems.empty p

theorem reset_places (o : StoreObject) : State.reset.places o = .reset := vector_get_replicate ObjectPlaces.reset _

/-- A FREE slot binds nothing. -/
theorem boundRecord_free {s : State} {p : Fin 6} (h : (s.parcel p).state = .free) : s.boundRecord p = none := by
  simp [State.boundRecord, h]

/-! ### The invariants -/

theorem alarmStands_reset : AlarmStands State.reset := by
  refine ⟨fun h => ?_, fun _ => ⟨rfl, rfl⟩, fun _ => ⟨rfl, rfl, fun k => ?_⟩⟩
  · cases h
  · rw [reset_slot]; rfl

theorem digestsHold_reset : DigestsHold State.reset := by
  constructor
  · intro k v hv
    rw [reset_slot] at hv
    cases hv
  · intro k q hq
    rw [reset_slot] at hq
    cases hq

theorem linkSound_reset : LinkSound LinkUnit.reset := by
  unfold LinkSound
  decide

theorem countsSound_reset : CountsSound State.reset := by
  refine ⟨fun p i hi => ?_, fun p n hn => ?_, fun p i hi => ?_, fun k v hv => ?_, fun w hw => ?_, fun w hw => ?_,
    fun o => ?_⟩
  · rw [reset_parcel] at hi; cases hi
  · rw [reset_parcel] at hn; cases hn
  · rw [reset_restoredItems] at hi; cases hi
  · rw [reset_slot] at hv; cases hv
  · cases hw
  · cases hw
  · rw [reset_places]; exact ⟨trivial, trivial⟩

theorem bindingSound_reset : BindingSound State.reset := by
  have free : ∀ p, (State.reset.parcel p).state = .free := fun p => by rw [reset_parcel]; rfl
  refine ⟨fun p q r o _ hp _ => ?_, fun p hp => ?_, fun _ => free⟩
  · rw [boundRecord_free (free p)] at hp; cases hp
  · rw [reset_slot] at hp; exact absurd rfl hp

/-- Settles O3, part by part. -/
theorem resetLeaves : Obligations.ResetLeaves :=
  ⟨rfl, rfl, rfl, rfl, reset_link, rfl, reset_slot, rfl, rfl, rfl, fun x => by rw [reset_tank]; exact ⟨rfl, rfl⟩, rfl,
    reset_channel, reset_parcel, reset_restoredItems, rfl, rfl, rfl, rfl, rfl, rfl, rfl, rfl, rfl⟩

/-- Settles O60, invariant by invariant. -/
theorem resetMeetsInvariants : Obligations.ResetMeetsInvariants := by
  refine ⟨poolAccounted_reset, ⟨?_, ?_, ?_, rfl⟩, alarmStands_reset, ⟨?_, .nil, fun _ => rfl⟩, digestsHold_reset,
    ⟨linkSound_reset, linkSound_reset⟩, ⟨.nil, fun _ => rfl⟩, countsSound_reset, bindingSound_reset⟩
  · exact Nat.zero_le _
  · exact Nat.le_refl _
  · exact Nat.zero_le _
  · intro e he
    cases he

end Sys2Proof.Machine
end

section
/-! Level tables and figures (R9, R10, R71 to R80): the rounding keeps order, a valid table never decreases, and the
bounds of what is computed from one. -/

namespace Sys2Proof.Machine

open Sys2Proof

/-! ### Rounding keeps order (R1) -/

theorem roundDiv_nonneg {n : Int} {d : Nat} (hn : 0 ≤ n) : 0 ≤ roundDiv n d := by
  rw [roundDiv_of_nonneg hn]
  exact Int.ediv_nonneg (by omega) (by omega)

theorem roundDiv_mono {m n : Int} {d : Nat} (hd : 0 < d) (h : m ≤ n) : roundDiv m d ≤ roundDiv n d := by
  have upward : ∀ a b : Int, 0 ≤ a → a ≤ b → roundDiv a d ≤ roundDiv b d := by
    intro a b ha hab
    rw [roundDiv_of_nonneg ha, roundDiv_of_nonneg (ha.trans hab)]
    exact Int.ediv_le_ediv (by omega) (by omega)
  rcases le_or_gt 0 m with hm | hm
  · exact upward m n hm h
  rw [roundDiv_of_neg hm]
  rcases le_or_gt 0 n with hn | hn
  · have := roundDiv_nonneg (n := -m) (d := d) (by omega)
    have := roundDiv_nonneg hn (d := d)
    omega
  · rw [roundDiv_of_neg hn]
    exact Int.neg_le_neg (upward (-n) (-m) (by omega) (by omega))

/-- An exact quotient is not rounded. -/
theorem roundDiv_mul {d : Nat} (hd : 0 < d) (c : Int) : roundDiv (c * d) d = c := by
  have exact_of_nonneg : ∀ a : Int, 0 ≤ a → roundDiv (a * d) d = a := by
    intro a ha
    obtain ⟨below, above⟩ := roundDiv_remainder hd (n := a * d) (by positivity)
    have : (d : Int) * (a - roundDiv (a * d) d) = a * d - d * roundDiv (a * d) d := by ring
    rw [← this] at below above
    nlinarith
  rcases le_or_gt 0 c with hc | hc
  · exact exact_of_nonneg c hc
  · have negative : c * d < 0 := Int.mul_neg_of_neg_of_pos hc (by omega)
    rw [roundDiv_of_neg negative, ← Int.neg_mul, exact_of_nonneg (-c) (by omega), Int.neg_neg]

/-- A quotient between two integers is rounded to between them. -/
theorem roundDiv_between {n lo hi : Int} {d : Nat} (hd : 0 < d) (hlo : lo * d ≤ n) (hhi : n ≤ hi * d) :
    lo ≤ roundDiv n d ∧ roundDiv n d ≤ hi := by
  have below := roundDiv_mono hd hlo
  have above := roundDiv_mono hd hhi
  rw [roundDiv_mul hd] at below above
  exact ⟨below, above⟩

theorem clampInt_between {lo hi : Int} (h : lo ≤ hi) (v : Int) : lo ≤ clampInt lo hi v ∧ clampInt lo hi v ≤ hi := by
  unfold clampInt
  repeat' split
  all_goals omega

/-! ### Valid tables (R9, R10) -/

/-- The next breakpoint lies higher and holds no less (R9). -/
def Rises (p q : Breakpoint) : Prop := p.level < q.level ∧ p.volume ≤ q.volume

theorem breakpointFault_after {p q : Breakpoint} (h : breakpointFault (some p) q = none) : Rises p q := by
  grind [breakpointFault, Rises]

theorem breakpointFault_first {p : Breakpoint} (h : breakpointFault none p = none) : p.level = 0 := by
  grind [breakpointFault]

theorem segmentFault_cons {before : Option Breakpoint} {p : Breakpoint} {rest : List Breakpoint}
    (h : segmentFault before (p :: rest) = none) :
    breakpointFault before p = none ∧ segmentFault (some p) rest = none := by
  unfold segmentFault at h
  split at h
  · cases h
  · exact ⟨‹_›, h⟩

/-- Breakpoints without a fault rise one after the other. -/
theorem rises_of_segmentFault {p : Breakpoint} {rest : List Breakpoint} (h : segmentFault (some p) rest = none) :
    (p :: rest).IsChain Rises := by
  induction rest generalizing p with
  | nil => exact .singleton p
  | cons q rest ih =>
    obtain ⟨own, others⟩ := segmentFault_cons h
    exact (ih others).cons_cons (breakpointFault_after own)

/-- A valid table begins at level 0 and rises. -/
theorem tableValid_cons {p : Breakpoint} {rest : List Breakpoint} (h : tableValid (p :: rest) = true) :
    p.level = 0 ∧ (p :: rest).IsChain Rises := by
  obtain ⟨own, others⟩ := segmentFault_cons (beq_iff_eq.1 h)
  exact ⟨breakpointFault_first own, rises_of_segmentFault others⟩

/-! ### Volumes of a table that rises (R71) -/

theorem topVolume_cons (p q : Breakpoint) (rest : List Breakpoint) :
    topVolume (p :: q :: rest) = topVolume (q :: rest) := by simp [topVolume]

theorem topLevel_cons (p q : Breakpoint) (rest : List Breakpoint) :
    topLevel (p :: q :: rest) = topLevel (q :: rest) := by simp [topLevel]

/-- The volume between two breakpoints (R71). -/
def interpolated (p q : Breakpoint) (level : Int) : Int :=
  p.volume + roundDiv (((q.volume : Int) - p.volume) * (level - p.level)) (q.level - p.level)

theorem volumeAt_below {p q : Breakpoint} {level : Int} (h : level < q.level) (rest : List Breakpoint) :
    volumeAt (p :: q :: rest) level = interpolated p q level := by rw [volumeAt, if_pos h]; rfl

theorem volumeAt_above {p q : Breakpoint} {level : Int} (h : ¬level < q.level) (rest : List Breakpoint) :
    volumeAt (p :: q :: rest) level = volumeAt (q :: rest) level := by rw [volumeAt, if_neg h]

theorem interpolated_mono {p q : Breakpoint} (h : Rises p q) {low high : Int} (hle : low ≤ high) :
    interpolated p q low ≤ interpolated p q high := by
  obtain ⟨level, volume⟩ := h
  refine Int.add_le_add_left (roundDiv_mono (by omega) ?_) _
  exact Int.mul_le_mul_of_nonneg_left (by omega) (by omega)

theorem interpolated_first {p q : Breakpoint} (h : Rises p q) : interpolated p q p.level = p.volume := by
  obtain ⟨level, -⟩ := h
  rw [interpolated, Int.sub_self, Int.mul_zero, roundDiv_zero_left (by omega), Int.add_zero]

theorem interpolated_last {p q : Breakpoint} (h : Rises p q) : interpolated p q q.level = q.volume := by
  obtain ⟨level, -⟩ := h
  have span : (q.level : Int) - p.level = ((q.level - p.level : Nat) : Int) := by omega
  rw [interpolated, span, roundDiv_mul (by omega)]
  omega

/-- Between its first level and its top level a table that rises holds from its first volume to its top volume. -/
theorem volumeAt_between {p : Breakpoint} {rest : List Breakpoint} (h : (p :: rest).IsChain Rises) {level : Int}
    (hl : (p.level : Int) ≤ level) :
    (p.volume : Int) ≤ volumeAt (p :: rest) level ∧ volumeAt (p :: rest) level ≤ topVolume (p :: rest) := by
  induction rest generalizing p level with
  | nil => exact ⟨le_rfl, le_rfl⟩
  | cons q rest ih =>
    obtain ⟨rises, chain⟩ := List.isChain_cons_cons.1 h
    have volume : (p.volume : Int) ≤ q.volume := by exact_mod_cast rises.2
    rw [topVolume_cons]
    by_cases below : level < q.level
    · rw [volumeAt_below below]
      have top := ih chain (level := q.level) le_rfl
      have lower := interpolated_mono rises hl
      have upper := interpolated_mono rises below.le
      rw [interpolated_first rises] at lower
      rw [interpolated_last rises] at upper
      omega
    · rw [volumeAt_above below]
      have := ih chain (level := level) (by omega)
      omega

theorem volumeAt_mono {p : Breakpoint} {rest : List Breakpoint} (h : (p :: rest).IsChain Rises) {low high : Int}
    (hl : (p.level : Int) ≤ low) (hle : low ≤ high) : volumeAt (p :: rest) low ≤ volumeAt (p :: rest) high := by
  induction rest generalizing p with
  | nil => exact le_rfl
  | cons q rest ih =>
    obtain ⟨rises, chain⟩ := List.isChain_cons_cons.1 h
    by_cases below : high < q.level
    · rw [volumeAt_below below, volumeAt_below (hle.trans_lt below)]
      exact interpolated_mono rises hle
    rw [volumeAt_above below]
    by_cases across : low < q.level
    · rw [volumeAt_below across]
      have lower := interpolated_mono rises across.le
      rw [interpolated_last rises] at lower
      exact lower.trans (volumeAt_between chain (by omega)).1
    · rw [volumeAt_above across]
      exact ih chain (by omega)

theorem volumeAt_top {p : Breakpoint} {rest : List Breakpoint} (h : (p :: rest).IsChain Rises) {level : Int}
    (hl : (topLevel (p :: rest) : Int) ≤ level) : volumeAt (p :: rest) level = topVolume (p :: rest) := by
  have first_le : ∀ (x : Breakpoint) xs, (x :: xs).IsChain Rises → x.level ≤ topLevel (x :: xs) := by
    intro x xs hx
    induction xs generalizing x with
    | nil => exact le_rfl
    | cons y ys ih =>
      obtain ⟨rises, chain⟩ := List.isChain_cons_cons.1 hx
      rw [topLevel_cons]
      exact rises.1.le.trans (ih y chain)
  induction rest generalizing p with
  | nil => rfl
  | cons q rest ih =>
    obtain ⟨rises, chain⟩ := List.isChain_cons_cons.1 h
    rw [topLevel_cons] at hl
    have := first_le q rest chain
    rw [topVolume_cons, volumeAt_above (by omega)]
    exact ih chain hl

theorem volumeAt_breakpoint {p : Breakpoint} {rest : List Breakpoint} (h : (p :: rest).IsChain Rises) {x : Breakpoint}
    (hx : x ∈ p :: rest) : p.level ≤ x.level ∧ volumeAt (p :: rest) x.level = x.volume := by
  induction rest generalizing p with
  | nil =>
    obtain rfl := List.mem_singleton.1 hx
    exact ⟨le_rfl, rfl⟩
  | cons q rest ih =>
    obtain ⟨rises, chain⟩ := List.isChain_cons_cons.1 h
    have higher := rises.1
    rcases List.mem_cons.1 hx with rfl | later
    · rw [volumeAt_below (by omega)]
      exact ⟨le_rfl, interpolated_first rises⟩
    · obtain ⟨level, volume⟩ := ih chain later
      rw [volumeAt_above (by omega)]
      exact ⟨by omega, volume⟩

/-! ### Figures from a valid table (R72 to R80) -/

/-- The volumes of a valid table at levels from 0 up, an empty table among them. -/
theorem volumeAt_valid {table : List Breakpoint} (h : tableValid table = true) {low high : Int} (h0 : 0 ≤ low)
    (hle : low ≤ high) :
    0 ≤ volumeAt table low ∧ volumeAt table low ≤ volumeAt table high ∧ volumeAt table high ≤ topVolume table := by
  cases table with
  | nil => exact ⟨le_rfl, le_rfl, le_rfl⟩
  | cons p rest =>
    obtain ⟨first, chain⟩ := tableValid_cons h
    have below := (volumeAt_between chain (level := low) (by omega)).1
    have above := (volumeAt_between chain (level := high) (by omega)).2
    exact ⟨by omega, volumeAt_mono chain (by omega) hle, above⟩

theorem levelOf_nonneg (g : Geometry) (c : Option ShipCondition) (f : TankFields) : 0 ≤ levelOf g c f := by
  cases g with
  | shore => exact Int.natCast_nonneg _
  | ship ref longitudinal transverse lbp =>
    have := (clampInt_between (lo := 0) (hi := ref) (Int.natCast_nonneg _)
      (correctedUllage f.gauge longitudinal transverse (trimSlope c lbp) (listSlope c))).2
    simp only [levelOf]
    omega

/-- FW lies between 0 and TOV, and TOV at most at the top volume. -/
theorem freeWater_between {table : List Breakpoint} (h : tableValid table = true) (water : Option Nat) {level : Int}
    (h0 : 0 ≤ level) :
    0 ≤ freeWater table water level ∧ freeWater table water level ≤ volumeAt table level
      ∧ volumeAt table level ≤ topVolume table := by
  cases water with
  | none =>
    obtain ⟨nonneg, -, top⟩ := volumeAt_valid h h0 le_rfl
    exact ⟨le_rfl, nonneg, top⟩
  | some w =>
    refine volumeAt_valid h ?_ ?_ <;>
    · unfold waterLevel
      split <;> omega

theorem countedValues_valid {heights : List Nat} {values : List (Option Int)} {level v : Int}
    (h : v ∈ countedValues heights values level) : -4000 ≤ v ∧ v ≤ 15000 := by
  fun_induction countedValues heights values level
  case case1 x valid ih =>
    simp only [Bool.and_eq_true, validTemperature, decide_eq_true_eq] at valid
    rcases List.mem_cons.1 h with rfl | later
    · exact valid.1
    · exact ih later
  case case2 ih => exact ih h
  case case3 ih => exact ih h
  case case4 => cases h

/-- A mean lies where the values lie (R74). -/
theorem meanTemperature_between {vs : List Int} {lo hi : Int} (hne : vs ≠ []) (h : ∀ v ∈ vs, lo ≤ v ∧ v ≤ hi) :
    lo ≤ meanTemperature vs ∧ meanTemperature vs ≤ hi := by
  have sums : lo * vs.length ≤ vs.sum ∧ vs.sum ≤ hi * vs.length := by
    clear hne
    induction vs with
    | nil => simp
    | cons v vs ih =>
      have := h v (List.mem_cons_self ..)
      have := ih fun w hw => h w (List.mem_cons_of_mem _ hw)
      rw [List.sum_cons, List.length_cons]
      push_cast
      constructor <;> linarith
  exact roundDiv_between (List.length_pos_iff.2 hne) sums.1 sums.2

theorem temperatureUsed_valid {counted : List Int} {held : Option Int} {t : Int}
    (hc : ∀ v ∈ counted, -4000 ≤ v ∧ v ≤ 15000) (hh : ∀ t, held = some t → -4000 ≤ t ∧ t ≤ 15000)
    (h : temperatureUsed counted held = some t) : -4000 ≤ t ∧ t ≤ 15000 := by
  unfold temperatureUsed at h
  split at h
  · exact hh t h
  next hne =>
    cases h
    exact meanTemperature_between hne hc

/-- The shell factor of a temperature from -40.00 to 150.00 degrees (R77). -/
theorem shellFactor_between {t : Int} (h : -4000 ≤ t ∧ t ≤ 15000) :
    998680 ≤ shellFactor t ∧ shellFactor t ≤ 1003240 := by
  have := roundDiv_between (n := 24 * (t - 1500)) (lo := -1320) (hi := 3240) (d := 100) (by omega) (by omega) (by omega)
  unfold shellFactor
  omega

theorem figureShell_between {g : Geometry} {posted used : Option Int} {v : Int}
    (hu : ∀ t, used = some t → -4000 ≤ t ∧ t ≤ 15000) (h : figureShell g posted used = some v) :
    998680 ≤ v ∧ v ≤ 1003240 := by
  cases g with
  | ship _ _ _ _ => cases h
  | shore =>
    obtain ⟨t, ht, rfl⟩ := Option.map_eq_some_iff.1 h
    refine shellFactor_between ?_
    unfold shellTemperature at ht
    split at ht
    · split at ht
      next valid => cases ht; simpa [validTemperature] using valid
      next => exact hu t ht
    · exact hu t ht

theorem vcfOf_between (a b : Nat) (t : Int) : 850000 ≤ vcfOf a b t ∧ vcfOf a b t ≤ 1050000 :=
  clampInt_between (by omega) _

theorem gsvOf_nonneg {nov vcf : Int} {shell : Option Int} (hn : 0 ≤ nov) (hv : 0 ≤ vcf)
    (hs : ∀ f, shell = some f → 0 ≤ f) : 0 ≤ gsvOf nov shell vcf := by
  have ppm : ∀ v f : Int, 0 ≤ v → 0 ≤ f → 0 ≤ timesPpm v f := fun v f h1 h2 => roundDiv_nonneg (Int.mul_nonneg h1 h2)
  unfold gsvOf
  split
  next f => exact ppm _ _ (ppm _ _ hn (hs f rfl)) hv
  next => exact ppm _ _ hn hv

/-- The bounds of every field of a figure from a valid table (R72, R75 to R78). -/
theorem computeFigure_bounds (b : TankBasis) (c : Option ShipCondition) (r : TankReading) {held : Option Int}
    (hb : tableValid b.table = true) (hh : ∀ t, held = some t → -4000 ≤ t ∧ t ≤ 15000) :
    (∃ v, (computeFigure b c r held).volumes = some v ∧ 0 ≤ v.fw ∧ v.fw ≤ v.tov ∧ v.tov ≤ topVolume b.table
        ∧ v.nov = v.tov - v.fw)
      ∧ (∀ t, (computeFigure b c r held).temperature = some t → -4000 ≤ t ∧ t ≤ 15000)
      ∧ (∀ v, (computeFigure b c r held).vcf = some v → 850000 ≤ v ∧ v ≤ 1050000)
      ∧ (∀ v, (computeFigure b c r held).shell = some v → 998680 ≤ v ∧ v ≤ 1003240)
      ∧ ∀ v, (computeFigure b c r held).gsv = some v → 0 ≤ v := by
  obtain ⟨fw_nonneg, fw_le, tov_le⟩ := freeWater_between hb r.fields.water (levelOf_nonneg b.geometry c r.fields)
  have used := fun t => temperatureUsed_valid (t := t) (held := held)
    (fun v => countedValues_valid (heights := b.probes) (values := probeValues r.fields)
      (level := levelOf b.geometry c r.fields)) hh
  have shell := fun v => figureShell_between (g := b.geometry) (posted := r.fields.shell) (v := v) used
  unfold computeFigure
  dsimp only
  generalize temperatureUsed _ held = t at used shell ⊢
  cases t with
  | some t =>
    refine ⟨⟨_, rfl, fw_nonneg, fw_le, tov_le, rfl⟩, fun x hx => ?_, fun v hv => ?_, fun v hv => shell v hv,
      fun v hv => ?_⟩
    · cases hx; exact used t rfl
    · cases hv; exact vcfOf_between b.a b.b t
    · cases hv
      have vcf := (vcfOf_between b.a b.b t).1
      exact gsvOf_nonneg (by omega) (by omega) fun f hf => by have := (shell f hf).1; omega
  | none =>
    dsimp only
    split
    · refine ⟨⟨_, rfl, fw_nonneg, fw_le, tov_le, rfl⟩, fun x hx => ?_, fun v hv => ?_, fun v hv => shell v hv,
        fun v hv => ?_⟩
      · cases hx
      · cases hv
      · cases hv; exact le_rfl
    · refine ⟨⟨_, rfl, fw_nonneg, fw_le, tov_le, rfl⟩, fun x hx => ?_, fun v hv => ?_, fun v hv => ?_, fun v hv => ?_⟩
      · cases hx
      · cases hv
      · cases hv
      · cases hv

/-- Settles O19: the table's part along its breakpoints, the figure's field by field, the held one by its definition. -/
theorem volumeWithinTable : Obligations.VolumeWithinTable := by
  refine ⟨fun table first valid hfirst => ?_, fun b c r held hb hh => computeFigure_bounds b c r hb hh, fun f => ?_⟩
  · cases table with
    | nil => cases hfirst
    | cons p rest =>
      cases hfirst
      obtain ⟨zero, chain⟩ := tableValid_cons valid
      exact ⟨fun x hx => (volumeAt_breakpoint chain hx).2, fun level hl => volumeAt_between chain (by omega),
        fun level hl => volumeAt_top chain hl, fun low high h0 hle => volumeAt_mono chain (by omega) hle⟩
  · refine ⟨fun current => ?_, fun other => ?_, rfl⟩
    · simp [holdFigure, current]
    · cases hs : f.status <;> simp_all [holdFigure]

end Sys2Proof.Machine
end

section
/-! The rejection of a pending version (R16, R22, R24, R62, R110, R112). -/

namespace Sys2Proof.Machine

open Sys2Proof

/-! ### Told from a state that agrees -/

theorem SlotBecomes.of_same {k : RecordSlot} {v : Slot} {s t w : State} (h : SlotBecomes k v t w)
    (hs : ∀ j, j ≠ k → t.slot j = s.slot j) : SlotBecomes k v s w := ⟨h.1, fun j hj => (h.2 j hj).trans (hs j hj)⟩

theorem SlotBecomes.congr {k : RecordSlot} {v : Slot} {s t w : State} (h : SlotBecomes k v s t)
    (hs : w.slots = t.slots) : SlotBecomes k v s w := by
  unfold SlotBecomes State.slot at h ⊢
  rwa [hs]

theorem ParcelBecomes.of_same {p : Fin 6} {v : Parcel} {s t w : State} (h : ParcelBecomes p v t w)
    (hs : t.parcels = s.parcels) : ParcelBecomes p v s w := by
  unfold ParcelBecomes State.parcel at h ⊢
  rwa [← hs]

theorem ParcelBecomes.congr {p : Fin 6} {v : Parcel} {s t w : State} (h : ParcelBecomes p v s t)
    (hs : w.parcels = t.parcels) : ParcelBecomes p v s w := by
  unfold ParcelBecomes State.parcel at h ⊢
  rwa [hs]

theorem AccumulatorsBecome.of_same {m : Option (Fin 4)} {a : Option AccumulatorSet} {s t w : State}
    (h : AccumulatorsBecome m a t w) (hs : t.channels = s.channels) : AccumulatorsBecome m a s w := by
  unfold AccumulatorsBecome State.channel at h ⊢
  rwa [← hs]

theorem AccumulatorsBecome.congr {m : Option (Fin 4)} {a : Option AccumulatorSet} {s t w : State}
    (h : AccumulatorsBecome m a s t) (hs : w.channels = t.channels) : AccumulatorsBecome m a s w := by
  unfold AccumulatorsBecome State.channel at h ⊢
  rwa [hs]

/-! ### Outcomes -/

theorem setOutcome_slotBecomes (k : RecordSlot) (o : LastOutcome) (s : State) :
    SlotBecomes k { s.slot k with last := o } s (setOutcome k o s) := by
  have becomes := slotBecomes_setSlot k { s.slot k with last := o } s
  refine becomes.congr ?_
  have := congrArg (fun a => a.2.2.1) (setOutcome_account k o s)
  exact this

/-- The outcomes of an ended or entered version are recorded as such (R24). -/
def Recorded (o : LastOutcome) : Prop := o ≠ .none ∧ o ≠ .suspect

theorem setOutcome_recorded {o : LastOutcome} (h : Recorded o) (k : RecordSlot) (s : State) :
    setOutcome k o s = appendTrail (.recordOutcome k o) (setSlot k { s.slot k with last := o } s) := by
  obtain ⟨hn, hs⟩ := h
  cases o
  case none => exact absurd rfl hn
  case suspect => exact absurd rfl hs
  all_goals rfl

theorem setOutcome_sameTrail {o : LastOutcome} (h : Recorded o) (k : RecordSlot) {s t : State} (ht : SameTrail s t)
    (hc : t.clock = s.clock) : SameTrail (appendTrail (.recordOutcome k o) s) (setOutcome k o t) := by
  rw [setOutcome_recorded h]
  exact SameTrail.append (w := setSlot k { t.slot k with last := o } t) ht hc _

/-! ### A version leaves its slot -/

/-- A slot with its pending version gone, its points in the pool and the outcome recorded (R16, R24). -/
def versionRejected (k : RecordSlot) (d : RejectDetail) (v : PendingVersion) (s : State) : State :=
  setOutcome k (.rejected d)
    (setPoolFree (s.poolFree + v.declaredPoints) (setSlot k { s.slot k with pending := none } s))

theorem versionRejected_slotBecomes (k : RecordSlot) (d : RejectDetail) (v : PendingVersion) (s : State) :
    SlotBecomes k { s.slot k with pending := none, last := .rejected d } s (versionRejected k d v s) := by
  have becomes := setOutcome_slotBecomes k (.rejected d)
    (setPoolFree (s.poolFree + v.declaredPoints) (setSlot k { s.slot k with pending := none } s))
  simp only [setPoolFree_slot, setSlot_slot_same] at becomes
  exact becomes.of_same fun j hj => setSlot_slot_ne hj _ _

theorem versionRejected_sameTrail (k : RecordSlot) (d : RejectDetail) (v : PendingVersion) (s : State) :
    SameTrail (appendTrail (.recordOutcome k (.rejected d)) s) (versionRejected k d v s) :=
  setOutcome_sameTrail ⟨by simp, by simp⟩ k ⟨rfl, rfl⟩ rfl

theorem versionRejected_frame (k : RecordSlot) (d : RejectDetail) (v : PendingVersion) (s : State) :
    versionRejected k d v s =
      { s with
        slots := (versionRejected k d v s).slots, poolFree := s.poolFree + v.declaredPoints
        trail := (versionRejected k d v s).trail, newest := (versionRejected k d v s).newest } := by
  unfold versionRejected
  rw [setOutcome_frame]
  rfl

/-! ### A slot leaves PROPOSED -/

theorem leaveProposed_frame (p : Fin 6) (m : Option (Fin 4)) (b : Bool) (s : State) :
    leaveProposed p m b s =
      { s with
        parcels := (leaveProposed p m b s).parcels, channels := (leaveProposed p m b s).channels
        concurrence := (leaveProposed p m b s).concurrence, trail := (leaveProposed p m b s).trail
        newest := (leaveProposed p m b s).newest, writeQueue := (leaveProposed p m b s).writeQueue
        inFlight := (leaveProposed p m b s).inFlight, alarm := (leaveProposed p m b s).alarm } := by
  unfold leaveProposed setAlarm removeCheckpoint
  rw [giveWrite_frame, announceFree_frame, emptyParcel_frame]
  rfl

/-- What a slot that returns to FREE hands off, from the state before it (R99, R111, R112). -/
theorem announceFree_empty (p : Fin 6) (m : Option (Fin 4)) (b : Bool) (s : State) :
    (announceFree p b (emptyParcel p m s)).concurrence = s.concurrence.filter (entryStays p .free)
      ∧ SameTrail (appendTrail (.parcelState p .free (.unilateral b)) s) (announceFree p b (emptyParcel p m s)) := by
  have free : (emptyParcel p m s).parcel p = .reset := (emptyParcel_parcelBecomes p m s).1
  constructor
  · simp only [announceFree, appendTrail_concurrence, pruneConcurrence, setConcurrence_concurrence,
      emptyParcel_concurrence, free]
    rfl
  · refine SameTrail.append (w := pruneConcurrence p (emptyParcel p m s)) ⟨?_, ?_⟩ ?_ _ <;> simp [pruneConcurrence]

theorem leaveProposed_handedOff (p : Fin 6) (m : Option (Fin 4)) (b : Bool) (s : State) :
    ParcelBecomes p .reset s (leaveProposed p m b s) ∧ AccumulatorsBecome m none s (leaveProposed p m b s)
      ∧ (leaveProposed p m b s).concurrence = s.concurrence.filter (entryStays p .free)
      ∧ SameTrail (appendTrail (.parcelState p .free (.unilateral b)) s) (leaveProposed p m b s)
      ∧ SameWrites (giveWrite (.checkpoint p) .removal s) (leaveProposed p m b s)
      ∧ (leaveProposed p m b s).alarm = (leaveProposed p m b s).alarmDue := by
  obtain ⟨table, trail⟩ := announceFree_empty p m b s
  refine ⟨(emptyParcel_parcelBecomes p m s).congr ?_, (emptyParcel_channels p m s).congr ?_, ?_, trail.trans ⟨?_, ?_⟩,
    ?_, setAlarm_stands _⟩
  · simp [leaveProposed, setAlarm, removeCheckpoint]
  · simp [leaveProposed, setAlarm, removeCheckpoint]
  · simpa [leaveProposed, setAlarm, removeCheckpoint] using table
  · simp [leaveProposed, setAlarm, removeCheckpoint]
  · simp [leaveProposed, setAlarm, removeCheckpoint]
  · exact SameWrites.trans (SameWrites.give (v := s) (w := announceFree p b (emptyParcel p m s)) ⟨by simp, by simp⟩ _ _)
      ⟨rfl, rfl⟩

/-! ### The rejection by kind of slot -/

theorem rejectPending_tank {s : State} {x : TankId} {v : PendingVersion} (h : (s.slot (slotOfTank x)).pending = some v)
    (d : RejectDetail) (b : Bool) :
    rejectPending (slotOfTank x) d b s =
      if (s.slot (slotOfTank x)).current.isNone then clearTank x (versionRejected (slotOfTank x) d v s)
      else versionRejected (slotOfTank x) d v s := by
  cases x <;> simp only [slotOfTank] at h ⊢ <;> simp only [rejectPending, h] <;> rfl

theorem rejectPending_parcel {s : State} {p : Fin 6} {v : PendingVersion} (h : (s.slot (.parcel p)).pending = some v)
    (d : RejectDetail) (b : Bool) :
    rejectPending (.parcel p) d b s =
      if (s.parcel p).state = .proposed then
        leaveProposed p (s.boundMeter p) b (versionRejected (.parcel p) d v s)
      else versionRejected (.parcel p) d v s := by
  simp only [rejectPending, h]
  rfl

theorem rejectPending_other {s : State} {k : RecordSlot} {v : PendingVersion} (h : (s.slot k).pending = some v)
    (ht : tankOfSlot k = none) (hp : ∀ p, k ≠ .parcel p) (d : RejectDetail) (b : Bool) :
    rejectPending k d b s = versionRejected k d v s := by
  cases k
  case ship n => cases ht
  case shore n => cases ht
  case parcel p => exact absurd rfl (hp p)
  all_goals simp only [rejectPending, h]; rfl

theorem slotOfTank_inj {x y : TankId} : slotOfTank x = slotOfTank y ↔ x = y := by
  cases x <;> cases y <;> simp [slotOfTank]

@[simp] theorem tankOfSlot_slotOfTank (x : TankId) : tankOfSlot (slotOfTank x) = some x := by cases x <;> rfl

theorem tankOfSlot_eq_some {k : RecordSlot} {x : TankId} : tankOfSlot k = some x ↔ k = slotOfTank x := by
  cases k <;> cases x <;> simp [tankOfSlot, slotOfTank]

theorem slotOfTank_ne {k : RecordSlot} (h : tankOfSlot k = none) (x : TankId) : slotOfTank x ≠ k := by
  rintro rfl
  rw [tankOfSlot_slotOfTank] at h
  cases h

/-- A slot is a tank's, a parcel's, or one of the vessel, the meters and the settings. -/
theorem slot_kinds (k : RecordSlot) :
    (∃ x, k = slotOfTank x) ∨ (∃ p, k = .parcel p) ∨ tankOfSlot k = none ∧ ∀ p, k ≠ .parcel p := by
  cases k with
  | ship n => exact .inl ⟨.ship n, rfl⟩
  | shore n => exact .inl ⟨.shore n, rfl⟩
  | parcel p => exact .inr (.inl ⟨p, rfl⟩)
  | vessel => exact .inr (.inr ⟨rfl, fun p => by simp⟩)
  | meter m => exact .inr (.inr ⟨rfl, fun p => by simp⟩)
  | settings => exact .inr (.inr ⟨rfl, fun p => by simp⟩)

/-- What the rejection does where no parcel slot returns to FREE with it. -/
theorem versionRejected_alone (k : RecordSlot) (d : RejectDetail) (v : PendingVersion) (s : State) :
    SameTrail (appendTrail (.recordOutcome k (.rejected d)) s) (versionRejected k d v s)
      ∧ versionRejected k d v s =
        { s with
          slots := (versionRejected k d v s).slots, poolFree := (versionRejected k d v s).poolFree
          tanks := (versionRejected k d v s).tanks, trail := (versionRejected k d v s).trail
          newest := (versionRejected k d v s).newest } := by
  refine ⟨versionRejected_sameTrail k d v s, ?_⟩
  rw [versionRejected_frame]

/-- Settles O24, by the kind of the slot: a tank's, a parcel's, any other. -/
theorem rejectionRemoves : Obligations.RejectionRemoves := by
  intro k d unilateral s v hv
  have becomes := versionRejected_slotBecomes k d v s
  have alone := versionRejected_alone k d v s
  have pool : (versionRejected k d v s).poolFree = s.poolFree + v.declaredPoints := by rw [versionRejected_frame]
  have tank : ∀ x, (versionRejected k d v s).tank x = s.tank x := fun x => by rw [versionRejected_frame]; rfl
  obtain ⟨x, rfl⟩ | ⟨p, rfl⟩ | ⟨notTank, notParcel⟩ := slot_kinds k
  · have notParcel : ∀ p, slotOfTank x ≠ .parcel p := by cases x <;> simp [slotOfTank]
    dsimp only
    rw [rejectPending_tank hv]
    split
    next cleared =>
      rw [Option.isNone_iff_eq_none] at cleared
      refine ⟨becomes, pool, fun y => ?_, fun _ => ⟨alone.1, ?_⟩, fun p hp => absurd hp (notParcel p)⟩
      · rw [clearTank, setTank_tank]
        by_cases e : y = x
        · simp [e, cleared, Tank.reset]
        · simp [e, slotOfTank_inj, tank]
      · rw [clearTank, versionRejected_frame]; rfl
    next kept =>
      rw [Option.isNone_iff_eq_none] at kept
      exact ⟨becomes, pool, fun y => by simp [kept, tank], fun _ => alone, fun p hp => absurd hp (notParcel p)⟩
  · have tanks : ∀ w : State, (∀ x, w.tank x = s.tank x) → ∀ x, w.tank x =
        if slotOfTank x = .parcel p ∧ (s.slot (.parcel p)).current = none then
          { reading := none, figure := .cleared } else s.tank x := fun w hw x => by
      rw [if_neg fun h => slotOfTank_ne (k := .parcel p) rfl x h.1, hw]
    dsimp only
    rw [rejectPending_parcel hv]
    split
    next proposed =>
      obtain ⟨parcel, channels, table, trail, writes, alarm⟩ := leaveProposed_handedOff p (s.boundMeter p) unilateral
        (versionRejected (.parcel p) d v s)
      have rest := leaveProposed_frame p (s.boundMeter p) unilateral (versionRejected (.parcel p) d v s)
      have before := versionRejected_frame (.parcel p) d v s
      refine ⟨becomes.congr (by rw [rest]), by rw [rest]; exact pool, tanks _ fun x => by rw [rest]; exact tank x,
        fun h => absurd ⟨p, rfl, proposed⟩ h, fun q hq _ => ?_⟩
      cases hq
      refine ⟨parcel.of_same (by rw [before]), channels.of_same (by rw [before]), by rw [table, before],
        ((versionRejected_sameTrail _ d v s).append ?_ _).trans trail, (SameWrites.give ⟨?_, ?_⟩ _ _).trans writes,
        alarm, ?_⟩
      · rw [before]; simp
      · rw [before]
      · rw [before]
      · rw [rest, before]
    next other =>
      exact ⟨becomes, pool, tanks _ tank, fun _ => alone, fun q hq hs => by cases hq; exact absurd hs other⟩
  · dsimp only
    rw [rejectPending_other hv notTank notParcel]
    refine ⟨becomes, pool, fun y => ?_, fun _ => alone, fun p hp => absurd hp (notParcel p)⟩
    rw [if_neg fun h => slotOfTank_ne notTank y h.1, tank]

end Sys2Proof.Machine
end

section
/-! Requests on record slots (R25, R28, R34, R37 to R39): how each owner decides, and the endings of a pending
version. -/

namespace Sys2Proof.Machine

open Sys2Proof

/-! ### The answer of a decided request -/

/-- A counted request of a RUNNING unit is answered as its owner decides. -/
theorem takeRequest_answers {l : Link} {payload : List Byte} {s : State} (h : ReadyRunning l payload s)
    {owner : State → State × Reply} {w : State} {r : ResultCode} {body : List Byte}
    (ho : owner (takeFrame l true s) = (w, { result := r, body := body })) (code tag : Byte) :
    takeRequest l code tag payload true .whenRunning owner s = answered l code tag r body w := by
  rw [takeRequest_running h, ho]

theorem exec_proposeBegin {l : Link} {tag : Byte} {payload : List Byte} {s w : State} {r : ResultCode}
    {body : List Byte} (h : ReadyRunning l payload s)
    (ho : proposeBeginOwner l payload (takeFrame l true s) = (w, ⟨r, body⟩)) :
    exec (.proposeBegin l tag payload) s = .next (answered l 0x20 tag r body w) :=
  congrArg Host.Outcome.next (takeRequest_answers h ho 0x20 tag)

theorem exec_proposeSegment {l : Link} {tag : Byte} {payload : List Byte} {s w : State} {r : ResultCode}
    {body : List Byte} (h : ReadyRunning l payload s)
    (ho : proposeSegmentOwner l payload (takeFrame l true s) = (w, ⟨r, body⟩)) :
    exec (.proposeSegment l tag payload) s = .next (answered l 0x21 tag r body w) :=
  congrArg Host.Outcome.next (takeRequest_answers h ho 0x21 tag)

theorem exec_endorse {l : Link} {tag : Byte} {payload : List Byte} {s w : State} {r : ResultCode} {body : List Byte}
    (h : ReadyRunning l payload s) (ho : endorseOwner l payload (takeFrame l true s) = (w, ⟨r, body⟩)) :
    exec (.endorse l tag payload) s = .next (answered l 0x22 tag r body w) :=
  congrArg Host.Outcome.next (takeRequest_answers h ho 0x22 tag)

theorem exec_decline {l : Link} {tag : Byte} {payload : List Byte} {s w : State} {r : ResultCode} {body : List Byte}
    (h : ReadyRunning l payload s) (ho : declineOwner l payload (takeFrame l true s) = (w, ⟨r, body⟩)) :
    exec (.decline l tag payload) s = .next (answered l 0x23 tag r body w) :=
  congrArg Host.Outcome.next (takeRequest_answers h ho 0x23 tag)

theorem exec_withdrawPending {l : Link} {tag : Byte} {payload : List Byte} {s w : State} {r : ResultCode}
    {body : List Byte} (h : ReadyRunning l payload s)
    (ho : withdrawPendingOwner l payload (takeFrame l true s) = (w, ⟨r, body⟩)) :
    exec (.withdrawPending l tag payload) s = .next (answered l 0x24 tag r body w) :=
  congrArg Host.Outcome.next (takeRequest_answers h ho 0x24 tag)

theorem exec_withdrawCurrent {l : Link} {tag : Byte} {payload : List Byte} {s w : State} {r : ResultCode}
    {body : List Byte} (h : ReadyRunning l payload s)
    (ho : withdrawCurrentOwner l payload (takeFrame l true s) = (w, ⟨r, body⟩)) :
    exec (.withdrawCurrent l tag payload) s = .next (answered l 0x24 tag r body w) :=
  congrArg Host.Outcome.next (takeRequest_answers h ho 0x24 tag)

/-! ### What the checks read of the state after a frame -/

@[simp] theorem takeFrame_inUse (l : Link) (counted : Bool) (s : State) (k : RecordSlot) :
    (takeFrame l counted s).inUse k = s.inUse k := by rw [takeFrame_frame]; cases k <;> rfl

@[simp] theorem takeFrame_isSuspect (l : Link) (counted : Bool) (s : State) (k : RecordSlot) :
    (takeFrame l counted s).isSuspect k = s.isSuspect k := by rw [takeFrame_frame]; rfl

@[simp] theorem takeFrame_isRestoring (l : Link) (counted : Bool) (s : State) (k : RecordSlot) (d : Digest) :
    (takeFrame l counted s).isRestoring k d = s.isRestoring k d := by rw [takeFrame_frame]; rfl

@[simp] theorem takeFrame_boundElsewhere (l : Link) (counted : Bool) (s : State) (p : Fin 6) (r : ParcelRecord) :
    (takeFrame l counted s).boundElsewhere p r = s.boundElsewhere p r := by rw [takeFrame_frame]; rfl

@[simp] theorem takeFrame_namedInForce (l : Link) (counted : Bool) (s : State) (r : ParcelRecord) :
    (takeFrame l counted s).namedInForce r = s.namedInForce r := by rw [takeFrame_frame]; rfl

@[simp] theorem takeFrame_assemblyTimer (l : Link) (counted : Bool) (s : State) :
    (takeFrame l counted s).assemblyTimer = s.assemblyTimer := by rw [takeFrame_frame]; rfl

/-! ### The checks -/

@[simp] theorem firstRefusal_cons (holds : Bool) (code : ResultCode) (rest : List (Bool × ResultCode)) :
    firstRefusal ((holds, code) :: rest) = if holds then firstRefusal rest else some code := by cases holds <;> rfl

@[simp] theorem firstRefusal_nil : firstRefusal [] = none := rfl

theorem hasProposed_pending {s : State} {k : RecordSlot} {v : PendingVersion} (h : (s.slot k).pending = some v) :
    s.hasProposed k = (v.assembly == none) := by simp [State.hasProposed, h]

theorem proposedBy_pending {s : State} {k : RecordSlot} {v : PendingVersion} (h : (s.slot k).pending = some v)
    (l : Link) : s.proposedBy l k = (v.proposer == l) := by simp [State.proposedBy, h]

theorem counterRefusal_none {s : State} {k : RecordSlot} (h : (s.slot k).pending = none) (l : Link) :
    s.counterRefusal l k = some .state := by simp [State.counterRefusal, State.hasProposed, h]

/-- Checks 3 and 4 of R34 over a pending version. -/
theorem counterRefusal_pending {s : State} {k : RecordSlot} {v : PendingVersion} (h : (s.slot k).pending = some v)
    (l : Link) :
    s.counterRefusal l k =
      if v.assembly = none then if v.proposer = l then some .owner else none else some .state := by
  simp [State.counterRefusal, hasProposed_pending h, proposedBy_pending h]

theorem withdrawPendingRefusal_none {s : State} {k : RecordSlot} (h : (s.slot k).pending = none) (l : Link) :
    s.withdrawPendingRefusal l k = some .state := by simp [State.withdrawPendingRefusal, h]

/-- The checks of R38 over a pending version. -/
theorem withdrawPendingRefusal_pending {s : State} {k : RecordSlot} {v : PendingVersion}
    (h : (s.slot k).pending = some v) (l : Link) :
    s.withdrawPendingRefusal l k = if v.proposer = l then none else some .owner := by
  simp [State.withdrawPendingRefusal, h, proposedBy_pending h]

theorem replaceable_pending {s : State} {k : RecordSlot} {v : PendingVersion} (h : (s.slot k).pending = some v) :
    s.replaceable k = true ↔
      s.inUse k = false ∨ (s.slot k).current = none ∨ v.restoring = true ∧ s.isSuspect k = true := by
  simp [State.replaceable, h, State.restores, or_assoc]

theorem endorseRefusal_none {s : State} {k : RecordSlot} (h : (s.slot k).pending = none) (l : Link) :
    s.endorseRefusal l k = some .state := by simp [State.endorseRefusal, State.hasProposed, h]

/-- Checks 3 to 5 of R34 over a pending version. -/
theorem endorseRefusal_pending {s : State} {k : RecordSlot} {v : PendingVersion} (h : (s.slot k).pending = some v)
    (l : Link) :
    s.endorseRefusal l k =
      if v.assembly = none then
        if v.proposer = l then some .owner else if s.replaceable k = true then none else some .inUse
      else some .state := by
  simp [State.endorseRefusal, hasProposed_pending h, proposedBy_pending h]

/-! ### The owners, payload by payload -/

theorem oneByte_eq_none {payload : List Byte} (h : payload.length ≠ 1) : oneByte payload = none := by
  unfold oneByte
  split
  · exact absurd rfl h
  · rfl

theorem onSlot_none (f : RecordSlot → State → State × Reply) (s : State) : onSlot none f s = (s, bare .format) := rfl

/-- An identifier that names no record slot. -/
theorem onSlot_unknown {b : Byte} (h : slotOfCode b = none) (f : RecordSlot → State → State × Reply) (s : State) :
    onSlot (some b) f s = (s, bare .range) := by simp [onSlot, h, refuseWith]

/-- An owner's answer on a slot: refused with the slot report, or taken. -/
def decided (l : Link) (k : RecordSlot) (refusal : Option ResultCode) (taken : State × Reply) (s : State) :
    State × Reply :=
  match refusal with
  | some c => answerSlot c l k s
  | none => taken

theorem decided_some (l : Link) (k : RecordSlot) (c : ResultCode) (taken : State × Reply) (s : State) :
    decided l k (some c) taken s = (s, ⟨c, s.slotReport l k⟩) := rfl

theorem decided_none (l : Link) (k : RecordSlot) (taken : State × Reply) (s : State) :
    decided l k none taken s = taken := rfl

theorem endorseOwner_slot {payload : List Byte} {b : Byte} {d : Digest} {k : RecordSlot}
    (hp : parseEndorse payload = some (b, d)) (hb : slotOfCode b = some k) (l : Link) (s : State) :
    endorseOwner l payload s =
      decided l k (s.endorseRefusal l k) (answerSlot .done l k (compareEndorsement k d s)) s := by
  simp only [endorseOwner, hp, onSlot_some hb]
  rfl

theorem declineOwner_slot {b : Byte} {k : RecordSlot} (hb : slotOfCode b = some k) (l : Link) (s : State) :
    declineOwner l [b] s =
      decided l k (s.counterRefusal l k) (answerSlot .done l k (rejectPending k .declined false s)) s := by
  simp only [declineOwner, oneByte, onSlot_some hb]
  rfl

theorem withdrawPendingOwner_slot {b : Byte} {k : RecordSlot} (hb : slotOfCode b = some k) (l : Link) (s : State) :
    withdrawPendingOwner l [b] s =
      decided l k (s.withdrawPendingRefusal l k) (answerSlot .done l k (rejectPending k .withdrawn false s)) s := by
  simp only [withdrawPendingOwner, oneByte, onSlot_some hb]
  rfl

theorem withdrawCurrentOwner_slot {b : Byte} {k : RecordSlot} (hb : slotOfCode b = some k) (l : Link) (s : State) :
    withdrawCurrentOwner l [b] s =
      decided l k (s.withdrawCurrentRefusal l k) (answerSlot .done l k (withdrawRecord k s)) s := by
  simp only [withdrawCurrentOwner, oneByte, onSlot_some hb]
  rfl

/-! ### The endings of a pending version (R30, R34, R37, R38) -/

/-- The assembly timer exceeds the timeout it started with (R30). -/
theorem assemblyExpired_iff {s : State} {k : RecordSlot} {v : PendingVersion} {timer : Timer}
    (hv : (s.slot k).pending = some v) (ha : v.assembly = some timer) :
    s.assemblyExpired k = true ↔ timer.duration < (s.clock - timer.start).toNat := by
  simp only [State.assemblyExpired, hv, ha]
  exact decide_eq_true_iff

/-- Settles O25: each ending by what its checks leave over the pending version, each refusal by the check that fails. -/
theorem pendingVersionEnded : Obligations.PendingVersionEnded := by
  refine ⟨fun l tag b s k v hb hv => ?_, fun l tag payload s h => ?_⟩
  · have hu : ((takeFrame l true s).slot k).pending = some v := by rw [takeFrame_slot]; exact hv
    refine ⟨fun payload d h hp proposed counterpart replaceable unequal => ?_, fun h proposed counterpart => ?_,
      fun h proposer => ?_, fun timer assembling => ⟨fun expired => ?_, fun running => ?_⟩⟩
    · refine exec_endorse h ?_
      have mayReplace : (takeFrame l true s).replaceable k = true := by
        rw [replaceable_pending hu, takeFrame_inUse, takeFrame_slot, takeFrame_isSuspect]
        exact replaceable
      rw [endorseOwner_slot hp hb, endorseRefusal_pending hu, if_pos proposed, if_neg counterpart, if_pos mayReplace,
        decided_none]
      simp only [compareEndorsement, hu, if_neg unequal]
      rfl
    · refine exec_decline h ?_
      rw [declineOwner_slot hb, counterRefusal_pending hu, if_pos proposed, if_neg counterpart]
      rfl
    · refine exec_withdrawPending h ?_
      rw [withdrawPendingOwner_slot hb, withdrawPendingRefusal_pending hu, if_pos proposer]
      rfl
    · exact congrArg Host.Outcome.next (if_pos ((assemblyExpired_iff hv assembling).2 expired))
    · refine congrArg Host.Outcome.next (if_neg fun due => ?_)
      have := (assemblyExpired_iff hv assembling).1 due
      omega
  · refine ⟨fun long => ?_, ?_⟩
    · have format := oneByte_eq_none long
      exact ⟨exec_decline h (by rw [declineOwner, format]; rfl), exec_withdrawPending h (by
        rw [withdrawPendingOwner, format]; rfl)⟩
    rintro b rfl
    refine ⟨fun unknown =>
        ⟨exec_decline h (onSlot_unknown unknown _ _), exec_withdrawPending h (onSlot_unknown unknown _ _)⟩,
      fun k hb => ⟨fun absent => ?_, fun v hv => ⟨fun assembling => ?_, fun proposed proposer => ?_,
        fun counterpart => ?_⟩⟩⟩
    · have hu : ((takeFrame l true s).slot k).pending = none := by rw [takeFrame_slot]; exact absent
      exact ⟨exec_decline h (by rw [declineOwner_slot hb, counterRefusal_none hu, decided_some]),
        exec_withdrawPending h (by rw [withdrawPendingOwner_slot hb, withdrawPendingRefusal_none hu, decided_some])⟩
    all_goals have hu : ((takeFrame l true s).slot k).pending = some v := by rw [takeFrame_slot]; exact hv
    · exact exec_decline h (by
        rw [declineOwner_slot hb, counterRefusal_pending hu, if_neg assembling, decided_some])
    · exact exec_decline h (by
        rw [declineOwner_slot hb, counterRefusal_pending hu, if_pos proposed, if_pos proposer, decided_some])
    · exact exec_withdrawPending h (by
        rw [withdrawPendingOwner_slot hb, withdrawPendingRefusal_pending hu, if_neg counterpart, decided_some])

end Sys2Proof.Machine
end

section
/-! Proposals (R25 to R27, R108): the checks in their order, and what the proposal of a tank record takes. -/

namespace Sys2Proof.Machine

open Sys2Proof

/-! ### What is bound (R35, R108) -/

@[simp] theorem mem_allParcels (p : Fin 6) : p ∈ allParcels := by revert p; decide

theorem namesTank_iff (x : TankId) (r : ParcelRecord) : namesTank x r = true ↔ x ∈ tanksNamed r := by
  cases x <;> simp [namesTank, tanksNamed]

theorem namesMeter_iff (m : Fin 4) (r : ParcelRecord) : namesMeter m r = true ↔ r.meter = some m := beq_iff_eq

theorem boundWith_iff {s : State} {q : ParcelRecord → Bool} {p : Fin 6} :
    s.boundWith q p = true ↔ ∃ r, s.boundRecord p = some r ∧ q r = true := by
  unfold State.boundWith
  cases s.boundRecord p <;> simp

theorem recordsOverlap_iff (r o : ParcelRecord) :
    recordsOverlap r o = true ↔
      (∃ x, x ∈ tanksNamed r ∧ x ∈ tanksNamed o) ∨ ∃ m, r.meter = some m ∧ o.meter = some m := by
  unfold recordsOverlap
  cases r.meter <;> simp [namesTank_iff, namesMeter_iff]

/-- A tank or a meter of the record is bound to another parcel (R108). -/
theorem boundElsewhere_iff (s : State) (p : Fin 6) (r : ParcelRecord) :
    s.boundElsewhere p r = true ↔ ∃ q o, q ≠ p ∧ s.boundRecord q = some o
      ∧ ((∃ x, x ∈ tanksNamed r ∧ x ∈ tanksNamed o) ∨ ∃ m, r.meter = some m ∧ o.meter = some m) := by
  simp [State.boundElsewhere, boundWith_iff, recordsOverlap_iff]

theorem namedInForce_iff (s : State) (r : ParcelRecord) :
    s.namedInForce r = true ↔ (∀ x ∈ tanksNamed r, s.inForce (slotOfTank x) ≠ none)
      ∧ ∀ m, r.meter = some m → s.inForce (.meter m) ≠ none := by
  unfold State.namedInForce
  cases r.meter <;> simp [Option.isSome_iff_ne_none]

theorem isRestoring_iff (s : State) (k : RecordSlot) (d : Digest) :
    s.isRestoring k d = true ↔ ∃ v, (s.slot k).current = some v ∧ v.suspect = true ∧ v.digest = d := by
  unfold State.isRestoring
  cases (s.slot k).current <;> simp

/-! ### The checks of R25 in their order -/

theorem proposeBeginOwner_format {payload : List Byte} (h : parseBegin payload = none) (l : Link) (s : State) :
    proposeBeginOwner l payload s = (s, bare .format) := by simp only [proposeBeginOwner, h]; rfl

theorem proposeBeginOwner_range {payload : List Byte} {b : BeginLayout} (h : parseBegin payload = some b)
    (hb : slotOfCode b.identifier = none) (l : Link) (s : State) :
    proposeBeginOwner l payload s = (s, bare .range) := by
  simp only [proposeBeginOwner, h, onSlot_unknown hb]

theorem proposeBeginOwner_header {payload : List Byte} {b : BeginLayout} {k : RecordSlot}
    (h : parseBegin payload = some b) (hb : slotOfCode b.identifier = some k) (hh : parseHeader k b.header = none)
    (l : Link) (s : State) : proposeBeginOwner l payload s = (s, bare .format) := by
  simp only [proposeBeginOwner, h, onSlot_some hb, hh]; rfl

theorem proposeBeginOwner_slot {payload : List Byte} {b : BeginLayout} {k : RecordSlot} {header : Header}
    (h : parseBegin payload = some b) (hb : slotOfCode b.identifier = some k)
    (hh : parseHeader k b.header = some header) (l : Link) (s : State) :
    proposeBeginOwner l payload s =
      decided l k (s.beginRefusal l k b header) (decideProposal l k b (headerContent header) s) s := by
  simp only [proposeBeginOwner, h, onSlot_some hb, hh]; rfl

/-- A slot that takes a proposal as far as its state goes: only a parcel slot asks for a state (check 5 of R25). -/
def State.slotOpen (s : State) (k : RecordSlot) (restoring : Bool) : Bool :=
  match k with
  | .parcel p => (s.parcel p).state == .free || restoring
  | _ => true

theorem proposalRefusal_eq (s : State) (l : Link) (k : RecordSlot) (restoring : Bool) :
    s.proposalRefusal l k restoring =
      if ownsKind l k = true then
        if (s.slot k).pending = none then if s.slotOpen k restoring = true then none else some .state else some .state
      else some .owner := by
  simp only [State.proposalRefusal, firstRefusal_cons, firstRefusal_nil, Option.isNone_iff_eq_none]
  cases k <;> rfl

theorem slotOpen_of_not_parcel (s : State) {k : RecordSlot} (h : ∀ p, k ≠ .parcel p) (restoring : Bool) :
    s.slotOpen k restoring = true := by
  cases k
  case parcel p => exact absurd rfl (h p)
  all_goals rfl

theorem beginRefusal_proposal {s : State} {l : Link} {k : RecordSlot} {b : BeginLayout} {c : ResultCode}
    (h : s.proposalRefusal l k (s.isRestoring k b.digest) = some c) (header : Header) :
    s.beginRefusal l k b header = some c := by simp only [State.beginRefusal, h]

section

variable {s : State} {l : Link} {k : RecordSlot} {b : BeginLayout} {header : Header}

theorem beginRefusal_header (h : s.proposalRefusal l k (s.isRestoring k b.digest) = none) {c : ResultCode}
    (hc : headerRefusal header = some c) : s.beginRefusal l k b header = some c := by
  simp only [State.beginRefusal, h, hc]

theorem beginRefusal_points (h : s.proposalRefusal l k (s.isRestoring k b.digest) = none)
    (hh : headerRefusal header = none) {c : ResultCode} (hc : pointsRefusal k b.points = some c) :
    s.beginRefusal l k b header = some c := by
  simp only [State.beginRefusal, h, hh, hc]

/-- With the header and the point count in order, the binding and the pool decide (checks 8 and 9 of R25). -/
theorem beginRefusal_last (h : s.proposalRefusal l k (s.isRestoring k b.digest) = none)
    (hh : headerRefusal header = none) (hp : pointsRefusal k b.points = none) :
    s.beginRefusal l k b header =
      match s.bindingRefusal k (s.isRestoring k b.digest) (headerContent header) with
      | some c => some c
      | none => s.poolRefusal k b.points := by
  simp only [State.beginRefusal, h, hh, hp] <;> rfl

theorem bindingRefusal_of_not_parcel (s : State) (h : ∀ p, k ≠ .parcel p) (restoring : Bool) (c : Content) :
    s.bindingRefusal k restoring c = none := by
  cases k
  case parcel p => exact absurd rfl (h p)
  all_goals rfl

theorem not_parcel_of_tank {x : TankId} (h : tankOfSlot k = some x) (p : Fin 6) : k ≠ .parcel p := by
  rintro rfl
  cases h

/-- A tank's proposal whose points are in their range is refused by the pool alone. -/
theorem beginRefusal_tank {x : TankId} (hk : tankOfSlot k = some x)
    (h : s.proposalRefusal l k (s.isRestoring k b.digest) = none) (hh : headerRefusal header = none)
    (hlow : 2 ≤ b.points) (hhigh : b.points ≤ 240) :
    s.beginRefusal l k b header = if b.points ≤ s.poolFree then none else some .poolFull := by
  have points : pointsRefusal k b.points = none := by simp [pointsRefusal, hk, inRange, hlow, hhigh]
  rw [beginRefusal_last h hh points, bindingRefusal_of_not_parcel s (not_parcel_of_tank hk)]
  simp [State.poolRefusal, hk]

end

/-! ### Tank proposals (R13, R26) -/

/-- A link owns the kind of a slot as R23 gives them. -/
theorem ownsKind_iff (l : Link) (k : RecordSlot) :
    ownsKind l k = true ↔
      match k with
      | .vessel => l = .ship
      | .ship _ => l = .ship
      | .shore _ => l = .terminal
      | .meter _ => l = .terminal
      | .parcel _ => True
      | .settings => l = .terminal := by cases k <;> simp [ownsKind]

/-- Settles O22: the checks in their order, then what the assembly begun leaves. -/
theorem tankProposalAssembles : Obligations.TankProposalAssembles := by
  refine ⟨fun l tag payload s b k x h hr hp hb hk hh owns absent hheader hlow hhigh hroom => ?_,
    fun l tag payload s hr => ?_⟩
  · have proposal : (takeFrame l true s).proposalRefusal l k ((takeFrame l true s).isRestoring k b.digest) = none := by
      rw [proposalRefusal_eq, if_pos owns, takeFrame_slot, if_pos absent,
        if_pos (slotOpen_of_not_parcel _ (not_parcel_of_tank hk) _)]
    refine ⟨(takeFrame l true s).newPending l k b (headerContent h) (some (takeFrame l true s).assemblyTimer),
      beginAssembly l k b (headerContent h) (takeFrame l true s), exec_proposeBegin hr ?_, ?_, ?_, ?_, ?_, rfl⟩
    · rw [proposeBeginOwner_slot hp hb hh, beginRefusal_tank hk proposal hheader hlow hhigh, takeFrame_poolFree,
        if_pos hroom, decided_none]
      simp only [decideProposal, hk]
      rfl
    · rw [takeFrame_assemblyTimer]; rfl
    · rw [← isRestoring_iff, ← takeFrame_isRestoring l true]; rfl
    · rw [← takeFrame_slot l true k s]
      exact slotBecomes_setSlot k _ _
    · rw [← takeFrame_poolFree l true s]; rfl
  · refine ⟨fun format => exec_proposeBegin hr (proposeBeginOwner_format format _ _), fun b hp =>
      ⟨fun range => exec_proposeBegin hr (proposeBeginOwner_range hp range _ _), fun k hb =>
      ⟨fun format => exec_proposeBegin hr (proposeBeginOwner_header hp hb format _ _), fun h hh => ?_⟩⟩⟩
    have refused : ∀ c, (takeFrame l true s).beginRefusal l k b h = some c →
        exec (.proposeBegin l tag payload) s =
          .next (answered l 0x20 tag c ((takeFrame l true s).slotReport l k) (takeFrame l true s)) := fun c hc =>
      exec_proposeBegin hr (by rw [proposeBeginOwner_slot hp hb hh, hc, decided_some])
    refine ⟨fun notOwner => refused _ (beginRefusal_proposal ?_ h), fun owns present =>
      refused _ (beginRefusal_proposal ?_ h), fun owns absent tank => ?_⟩
    · rw [proposalRefusal_eq, if_neg fun owns => notOwner ((ownsKind_iff l k).1 owns)]
    · rw [proposalRefusal_eq, if_pos ((ownsKind_iff l k).2 owns), takeFrame_slot, if_neg present]
    · obtain ⟨x, hk⟩ := Option.isSome_iff_exists.1 tank
      have proposal :
          (takeFrame l true s).proposalRefusal l k ((takeFrame l true s).isRestoring k b.digest) = none := by
        rw [proposalRefusal_eq, if_pos ((ownsKind_iff l k).2 owns), takeFrame_slot, if_pos absent,
          if_pos (slotOpen_of_not_parcel _ (not_parcel_of_tank hk) _)]
      refine ⟨fun c hc => refused c (beginRefusal_header proposal hc), fun hheader outside =>
        refused _ (beginRefusal_points proposal hheader ?_), fun hheader hlow hhigh short => refused _ ?_⟩
      · have count : inRange 2 240 b.points = false := by simpa [inRange, not_and] using outside
        simp [pointsRefusal, hk, count]
      · rw [beginRefusal_tank hk proposal hheader hlow hhigh, takeFrame_poolFree, if_neg (by omega)]

end Sys2Proof.Machine
end

section
/-! Proposals of records without a table (R27, R31, R108 to R111): decided in one frame. -/

namespace Sys2Proof.Machine

open Sys2Proof

/-! ### A slot enters PROPOSED -/

theorem restoreAccumulators_frame (r : ParcelRecord) (a : Option AccumulatorSet) (s : State) :
    restoreAccumulators r a s = { s with channels := (restoreAccumulators r a s).channels } := by
  unfold restoreAccumulators
  cases r.meter <;> rfl

theorem restoreAccumulators_become (r : ParcelRecord) (a : Option AccumulatorSet) (s : State) :
    AccumulatorsBecome r.meter a s (restoreAccumulators r a s) := by
  unfold restoreAccumulators
  cases r.meter with
  | none => exact accumulatorsBecome_none a s
  | some m => exact accumulatorsBecome_set m a s

/-- A slot enters PROPOSED by its state, the accumulator set of its meter and the hand-offs (R99, R110, R111). -/
theorem enterProposed_eq (p : Fin 6) (r : ParcelRecord) (s : State) :
    enterProposed p r s =
      announce p .plain (restoreAccumulators r (some (zeroAccumulators p))
        (setParcel p { Parcel.reset with state := .proposed } s)) := rfl

theorem enterProposed_frame (p : Fin 6) (r : ParcelRecord) (s : State) :
    enterProposed p r s =
      { s with
        parcels := (enterProposed p r s).parcels, channels := (enterProposed p r s).channels
        concurrence := (enterProposed p r s).concurrence, trail := (enterProposed p r s).trail
        newest := (enterProposed p r s).newest, writeQueue := (enterProposed p r s).writeQueue
        inFlight := (enterProposed p r s).inFlight, alarm := (enterProposed p r s).alarm } := by
  rw [enterProposed_eq, announce_frame, restoreAccumulators_frame]
  rfl

/-- What a slot that enters PROPOSED holds and hands off, from the state before it (R99, R110, R111). -/
theorem enterProposed_handedOff (p : Fin 6) (r : ParcelRecord) (s : State) :
    ParcelBecomes p { Parcel.reset with state := .proposed } s (enterProposed p r s)
      ∧ AccumulatorsBecome r.meter (some (zeroAccumulators p)) s (enterProposed p r s)
      ∧ HandedOff p .plain s (enterProposed p r s) := by
  have rest := restoreAccumulators_frame r (some (zeroAccumulators p))
    (setParcel p { Parcel.reset with state := .proposed } s)
  rw [enterProposed_eq]
  refine ⟨(parcelBecomes_setParcel p { Parcel.reset with state := .proposed } s).congr ?_,
    ((restoreAccumulators_become r (some (zeroAccumulators p))
      (setParcel p { Parcel.reset with state := .proposed } s)).of_same rfl).congr ?_,
    (announce_handedOff p .plain _).of_same ?_ ⟨?_, ?_⟩ ?_ ⟨?_, ?_⟩⟩
  · rw [announce_parcels, rest]
  · rw [announce_channels]
  all_goals rw [rest]; rfl

/-! ### A whole proposal taken -/

/-- A proposal of a parcel record that restores nothing enters PROPOSED; any other comes into its slot alone. -/
theorem takeProposal_entered {l : Link} {p : Fin 6} {b : BeginLayout} {r : ParcelRecord} {s : State}
    (h : s.isRestoring (.parcel p) b.digest = false) :
    takeProposal l (.parcel p) b (.parcel r) s =
      enterProposed p r (setPending (.parcel p) (some (s.newPending l (.parcel p) b (.parcel r) none)) s) := by
  simp only [takeProposal, h]
  rfl

theorem takeProposal_alone {l : Link} {k : RecordSlot} {b : BeginLayout} {s : State}
    (h : (∀ p, k ≠ .parcel p) ∨ s.isRestoring k b.digest = true) (c : Content) :
    takeProposal l k b c s = setPending k (some (s.newPending l k b c none)) s := by
  unfold takeProposal
  dsimp only
  split
  next p r =>
    rcases h with notParcel | restoring
    · exact absurd rfl (notParcel p)
    · exact if_pos restoring
  next => rfl

theorem takeProposal_slotBecomes (l : Link) (k : RecordSlot) (b : BeginLayout) (c : Content) (s : State) :
    SlotBecomes k { s.slot k with pending := some (s.newPending l k b c none) } s (takeProposal l k b c s) := by
  refine (slotBecomes_setSlot k _ s).congr ?_
  unfold takeProposal
  dsimp only
  split
  · split
    · rfl
    · rw [enterProposed_frame]; rfl
  · rfl

/-! ### The checks over a slot of a kind without a table -/

section

variable {s : State} {l : Link} {k : RecordSlot} {b : BeginLayout} {header : Header}

/-- The binding alone decides over a proposal without points (check 8 of R25). -/
theorem beginRefusal_whole (hk : tankOfSlot k = none) (h : s.proposalRefusal l k (s.isRestoring k b.digest) = none)
    (hh : headerRefusal header = none) (hb : b.points = 0) :
    s.beginRefusal l k b header = s.bindingRefusal k (s.isRestoring k b.digest) (headerContent header) := by
  have points : pointsRefusal k b.points = none := by simp [pointsRefusal, hk, hb]
  have pool : s.poolRefusal k b.points = none := by simp [State.poolRefusal, hk]
  rw [beginRefusal_last h hh points, pool]
  cases s.bindingRefusal k (s.isRestoring k b.digest) (headerContent header) <;> rfl

theorem bindingRefusal_parcel (s : State) (p : Fin 6) (r : ParcelRecord) :
    s.bindingRefusal (.parcel p) false (.parcel r) =
      if s.boundElsewhere p r = true then some .bound else if s.namedInForce r = true then none else some .state := by
  simp only [State.bindingRefusal, firstRefusal_cons, firstRefusal_nil, Bool.not_eq_true', Bool.false_eq_true, if_false]
  cases s.boundElsewhere p r <;> rfl

theorem bindingRefusal_restoring (s : State) (k : RecordSlot) (c : Content) : s.bindingRefusal k true c = none := by
  unfold State.bindingRefusal
  split <;> rfl

end

theorem slotOpen_iff (s : State) (k : RecordSlot) (restoring : Bool) :
    s.slotOpen k restoring = true ↔ ∀ p, k = .parcel p → restoring = false → (s.parcel p).state = .free := by
  cases k <;> cases restoring <;> simp [State.slotOpen]

theorem bindingRefusal_eq_none {s : State} {k : RecordSlot} {restoring : Bool} {c : Content}
    (h : ∀ p, k = .parcel p → restoring = false →
      ∀ r, c = .parcel r → s.boundElsewhere p r = false ∧ s.namedInForce r = true) :
    s.bindingRefusal k restoring c = none := by
  cases restoring with
  | true => exact bindingRefusal_restoring s k c
  | false =>
    by_cases hp : ∃ p r, k = .parcel p ∧ c = .parcel r
    · obtain ⟨p, r, rfl, rfl⟩ := hp
      obtain ⟨free, named⟩ := h p rfl rfl r rfl
      rw [bindingRefusal_parcel, free, named]
      rfl
    · unfold State.bindingRefusal
      split
      next p r => exact absurd ⟨p, r, rfl, rfl⟩ hp
      next => rfl

/-! ### Decided at once -/

@[simp] theorem takeFrame_slotOpen (l : Link) (counted : Bool) (s : State) (k : RecordSlot) (restoring : Bool) :
    (takeFrame l counted s).slotOpen k restoring = s.slotOpen k restoring := by rw [takeFrame_frame]; cases k <;> rfl

/-- The checks of the slot after a frame are those before it (checks 3 to 5 of R25). -/
theorem takeFrame_proposalRefusal (l : Link) (k : RecordSlot) (restoring : Bool) (s : State) :
    (takeFrame l true s).proposalRefusal l k restoring = s.proposalRefusal l k restoring := by
  simp only [proposalRefusal_eq, takeFrame_slot, takeFrame_slotOpen]

theorem takeFrame_bindingRefusal (l : Link) (k : RecordSlot) (restoring : Bool) (c : Content) (s : State) :
    (takeFrame l true s).bindingRefusal k restoring c = s.bindingRefusal k restoring c := by
  unfold State.bindingRefusal
  split <;> simp

theorem takeFrame_newPending (l m : Link) (k : RecordSlot) (b : BeginLayout) (c : Content) (t : Option Timer)
    (s : State) : (takeFrame m true s).newPending l k b c t = s.newPending l k b c t := by
  simp only [State.newPending, takeFrame_isRestoring]

/-- Settles O23: the outcome by the digests, then each refusal by the check that fails. -/
theorem wholeProposalDecided : Obligations.WholeProposalDecided := by
  refine ⟨fun l tag payload s b k h hr hp hb hk hh owns absent hheader hpoints => ?_,
    fun l tag payload s b k h hr hp hb hk hh owns absent => ?_⟩
  · intro restoring hparcel u
    have proposal : u.proposalRefusal l k (u.isRestoring k b.digest) = none := by
      rw [takeFrame_isRestoring, takeFrame_proposalRefusal, proposalRefusal_eq, if_pos owns, if_pos absent, if_pos]
      exact (slotOpen_iff s k _).2 fun p e hrestoring => (hparcel p e hrestoring).1
    have taken : proposeBeginOwner l payload u = decideProposal l k b (headerContent h) u := by
      rw [proposeBeginOwner_slot hp hb hh, beginRefusal_whole hk proposal hheader hpoints, takeFrame_isRestoring,
        takeFrame_bindingRefusal, bindingRefusal_eq_none fun p e hrestoring => (hparcel p e hrestoring).2, decided_none]
    have whole : ¬(tankOfSlot k).isSome = true := by simp [hk]
    refine ⟨fun unequal => ⟨setOutcome k (.rejected .digestMismatch) u, exec_proposeBegin hr ?_, ?_, ?_, ?_⟩,
      fun equal => ⟨takeProposal l k b (headerContent h) u, exec_proposeBegin hr ?_, ?_, ?_, ?_⟩⟩
    · rw [taken, decideProposal, if_neg whole, if_neg unequal]; rfl
    · rw [← takeFrame_slot l true k s]
      exact setOutcome_slotBecomes k _ u
    · exact setOutcome_sameTrail ⟨by simp, by simp⟩ k (SameTrail.rfl' u) rfl
    · rw [setOutcome_frame]
    · rw [taken, decideProposal, if_neg whole, if_pos equal]; rfl
    · have becomes := takeProposal_slotBecomes l k b (headerContent h) u
      rw [takeFrame_slot, takeFrame_newPending, State.newPending, hpoints] at becomes
      exact becomes
    · intro alone
      rw [takeProposal_alone (by rwa [takeFrame_isRestoring])]
      rfl
    · rintro p r rfl hcontent hrestoring
      rw [hcontent, takeProposal_entered (by rwa [takeFrame_isRestoring])]
      obtain ⟨parcel, channels, handed⟩ := enterProposed_handedOff p r
        (setPending (.parcel p) (some (u.newPending l (.parcel p) b (.parcel r) none)) u)
      refine ⟨parcel.of_same rfl, channels.of_same rfl, handed.of_same rfl ⟨rfl, rfl⟩ rfl ⟨rfl, rfl⟩, ?_⟩
      rw [enterProposed_frame]
      rfl
  · intro u refused restoring closed
    have refuse : ∀ c, u.beginRefusal l k b h = some c → refused c := fun c hc =>
      exec_proposeBegin hr (by rw [proposeBeginOwner_slot hp hb hh, hc, decided_some])
    have restoring_iff : s.isRestoring k b.digest = true ↔ restoring := isRestoring_iff s k b.digest
    have closed_iff : s.slotOpen k (s.isRestoring k b.digest) = true ↔ ¬closed := by
      rw [slotOpen_iff]
      simp only [closed, ← restoring_iff, Bool.not_eq_true, not_exists, not_and]
      exact ⟨fun ho p e notFree hrestoring => notFree (ho p e hrestoring), fun ho p e hrestoring =>
        by_contra fun notFree => ho p e notFree hrestoring⟩
    have proposal : u.proposalRefusal l k (u.isRestoring k b.digest) =
        if s.slotOpen k (s.isRestoring k b.digest) = true then none else some .state := by
      rw [takeFrame_isRestoring, takeFrame_proposalRefusal, proposalRefusal_eq, if_pos owns, if_pos absent]
    refine ⟨fun isClosed => refuse _ (beginRefusal_proposal ?_ h),
      fun isOpen c hc => refuse c (beginRefusal_header ?_ hc),
      fun isOpen hheader hpoints => refuse _ (beginRefusal_points ?_ hheader ?_),
      fun isOpen hheader hpoints fresh p r hparcel hcontent => ?_⟩
    · rw [proposal, if_neg fun ho => closed_iff.1 ho isClosed]
    · rw [proposal, if_pos (closed_iff.2 isOpen)]
    · rw [proposal, if_pos (closed_iff.2 isOpen)]
    · simp [pointsRefusal, hk, hpoints]
    · rw [if_pos (closed_iff.2 isOpen)] at proposal
      have hrestoring : s.isRestoring k b.digest = false := by
        rw [← Bool.not_eq_true, restoring_iff]
        exact fresh
      have binding : u.beginRefusal l k b h =
          if s.boundElsewhere p r = true then some .bound
          else if s.namedInForce r = true then none else some .state := by
        rw [beginRefusal_whole hk proposal hheader hpoints, takeFrame_isRestoring, takeFrame_bindingRefusal, hrestoring,
          hcontent, hparcel, bindingRefusal_parcel]
      refine ⟨fun bound => refuse _ ?_, fun unbound absentRecord => refuse _ ?_⟩
      · rw [binding, if_pos ((boundElsewhere_iff s p r).2 bound)]
      · rw [binding, if_neg fun hbound => unbound ((boundElsewhere_iff s p r).1 hbound),
          if_neg fun named => absentRecord ((namedInForce_iff s r).1 named)]

end Sys2Proof.Machine
end

section
/-! PROPOSE SEGMENT (R11, R28, R29): the checks in their order, and what a segment that passes them does. -/

namespace Sys2Proof.Machine

open Sys2Proof

theorem proposeSegmentOwner_format {payload : List Byte} (h : parseSegment payload = none) (l : Link) (s : State) :
    proposeSegmentOwner l payload s = (s, bare .format) := by simp only [proposeSegmentOwner, h]; rfl

section

variable {payload : List Byte} {g : SegmentLayout} (hp : parseSegment payload = some g)

include hp

theorem proposeSegmentOwner_range (hb : slotOfCode g.identifier = none) (l : Link) (s : State) :
    proposeSegmentOwner l payload s = (s, bare .range) := by simp only [proposeSegmentOwner, hp, onSlot_unknown hb]

variable {k : RecordSlot} (hb : slotOfCode g.identifier = some k)

include hb

theorem proposeSegmentOwner_no_tank (hk : tankOfSlot k = none) (l : Link) (s : State) :
    proposeSegmentOwner l payload s = (s, bare .range) := by
  simp [proposeSegmentOwner, hp, onSlot_some hb, hk, refuseWith]

variable (hk : (tankOfSlot k).isSome = true)

include hk

theorem proposeSegmentOwner_refused {l : Link} {s : State} {c : ResultCode}
    (hc : segmentRefusal l (s.slot k).pending g = some c) :
    proposeSegmentOwner l payload s = (s, ⟨c, s.slotReport l k⟩) := by
  have tank : ¬(tankOfSlot k).isNone = true := by simp [Option.isSome_iff_ne_none.1 hk]
  simp only [proposeSegmentOwner, hp, onSlot_some hb, if_neg tank, hc]
  rfl

theorem proposeSegmentOwner_taken {l : Link} {s : State} {v : PendingVersion} (hv : (s.slot k).pending = some v)
    (hc : segmentRefusal l (some v) g = none) : proposeSegmentOwner l payload s = decideSegment l k v g s := by
  have tank : ¬(tankOfSlot k).isNone = true := by simp [Option.isSome_iff_ne_none.1 hk]
  simp only [proposeSegmentOwner, hp, onSlot_some hb, if_neg tank, hv, hc]

end

/-- Checks 3 to 6 of R28 over a pending version. -/
theorem segmentRefusal_pending (l : Link) (v : PendingVersion) (g : SegmentLayout) :
    segmentRefusal l (some v) g =
      if v.assembly = none then some .state else if v.proposer ≠ l then some .owner
      else if g.number ≠ v.received + 1 then some .segment
      else if g.number < v.expected ∧ g.points.length ≠ 24 then some .format else none := by
  have last : (decide (v.expected ≤ g.number) || g.points.length == 24) = true ↔
      ¬(g.number < v.expected ∧ g.points.length ≠ 24) := by simp [imp_iff_or_not, or_comm]
  simp only [segmentRefusal, firstRefusal_cons, firstRefusal_nil, beq_iff_eq, last, Option.isSome_iff_ne_none]
  split_ifs <;> simp_all

theorem completeAssembly_count {v : PendingVersion} {g : SegmentLayout}
    (h : g.points.length ≠ v.declaredPoints - 24 * (v.expected - 1)) (k : RecordSlot) (s : State) :
    completeAssembly k v g s = rejectPending k .pointCount false s := if_pos h

theorem completeAssembly_digest {v : PendingVersion} {g : SegmentLayout}
    (h : g.points.length = v.declaredPoints - 24 * (v.expected - 1)) (k : RecordSlot) (s : State) :
    completeAssembly k v g s =
      if recordDigest v.content (v.points ++ g.points) = v.declaredDigest then
        setPending k (some (joinSegment v g none)) s
      else rejectPending k .digestMismatch false s := if_neg (not_not.2 h)

/-- Settles O26: each effect by its branch of R29, each refusal by the check of R28 that fails. -/
theorem segmentTaken : Obligations.SegmentTaken := by
  refine ⟨fun l tag payload s g k v timer hr hp hb hk hv assembling proposer number full => ?_,
    fun l tag payload s hr => ?_⟩
  · intro u joined answer
    have hu : (u.slot k).pending = some v := by rw [takeFrame_slot]; exact hv
    have passes : segmentRefusal l (some v) g = none := by
      rw [segmentRefusal_pending, if_neg (by simp [assembling]), if_neg (not_not.2 proposer), if_neg (not_not.2 number),
        if_neg fun short => short.2 (full short.1)]
    have taken : ∀ {r w}, decideSegment l k v g u = answerSlot r l k w → answer r w := fun h =>
      exec_proposeSegment hr ((proposeSegmentOwner_taken hp hb hk hu passes).trans h)
    refine ⟨fun f fault => taken ?_, fun sound before => ?_, fun sound last =>
      ⟨fun count => taken ?_, fun count => ⟨fun unequal => taken ?_, fun equal => ?_⟩⟩⟩
    · simp only [decideSegment, fault]
    · have decided : decideSegment l k v g u =
          answerSlot .accepted l k (setPending k (some (joinSegment v g (some u.assemblyTimer))) u) := by
        simp only [decideSegment, sound, if_pos before]
      rw [setPending, takeFrame_slot, takeFrame_assemblyTimer] at decided
      exact taken decided
    · simp only [decideSegment, sound, if_neg last, completeAssembly_count count]
    · simp only [decideSegment, sound, if_neg last, completeAssembly_digest count]
      rw [if_neg unequal]
    · have decided : decideSegment l k v g u = answerSlot .done l k (setPending k (some (joinSegment v g none)) u) := by
        simp only [decideSegment, sound, if_neg last, completeAssembly_digest count]
        rw [if_pos equal]
      rw [setPending, takeFrame_slot] at decided
      exact taken decided
  · refine ⟨fun format => exec_proposeSegment hr (proposeSegmentOwner_format format _ _), fun g hp =>
      ⟨fun range => exec_proposeSegment hr (proposeSegmentOwner_range hp range _ _), fun k hb =>
      ⟨fun noTank => exec_proposeSegment hr (proposeSegmentOwner_no_tank hp hb noTank _ _), fun hk => ?_⟩⟩⟩
    have refused : ∀ {c}, segmentRefusal l (s.slot k).pending g = some c →
        exec (.proposeSegment l tag payload) s =
          .next (answered l 0x21 tag c ((takeFrame l true s).slotReport l k) (takeFrame l true s)) := fun hc =>
      exec_proposeSegment hr (proposeSegmentOwner_refused hp hb hk (by rw [takeFrame_slot]; exact hc))
    refine ⟨fun notAssembling => refused ?_, fun v hv assembling => ⟨fun other => refused ?_,
      fun proposer number => refused ?_, fun proposer number before short => refused ?_⟩⟩
    · cases hv : (s.slot k).pending with
      | none => rfl
      | some v => rw [segmentRefusal_pending, if_pos (notAssembling v hv)]
    · rw [hv, segmentRefusal_pending, if_neg assembling, if_pos other]
    · rw [hv, segmentRefusal_pending, if_neg assembling, if_neg (not_not.2 proposer), if_pos number]
    · rw [hv, segmentRefusal_pending, if_neg assembling, if_neg (not_not.2 proposer), if_neg (not_not.2 number),
        if_pos ⟨before, short⟩]

end Sys2Proof.Machine
end

section
/-! ENDORSE with an equal digest (R34 to R36): a version enters force, and the block that uses it is told. -/

namespace Sys2Proof.Machine

open Sys2Proof

/-! ### Steps 1 to 4 of R36 -/

/-- A slot with its pending version in force, the outcome recorded and the write given, before step 5 of R36. -/
def versionEntered (k : RecordSlot) (v : PendingVersion) (s : State) : State :=
  giveRecordWrite k (enteredVersion v) (setOutcome k (s.entryOutcome k v) (supersede k v s))

theorem enterForce_eq (k : RecordSlot) (v : PendingVersion) (s : State) :
    enterForce k v s = tellEntered k v.content (versionEntered k v s) := rfl

theorem entryOutcome_eq (s : State) (k : RecordSlot) (v : PendingVersion) :
    s.entryOutcome k v = if v.restoring = true ∧ s.isSuspect k = true then .restored else .enteredForce := by
  simp [State.entryOutcome, State.restores]

theorem entryOutcome_recorded (s : State) (k : RecordSlot) (v : PendingVersion) : Recorded (s.entryOutcome k v) := by
  unfold State.entryOutcome Recorded
  split <;> simp

theorem versionEntered_slotBecomes (k : RecordSlot) (v : PendingVersion) (s : State) :
    SlotBecomes k { current := some (enteredVersion v), pending := none, last := s.entryOutcome k v } s
      (versionEntered k v s) := by
  have becomes := setOutcome_slotBecomes k (s.entryOutcome k v) (supersede k v s)
  simp only [supersede, setPoolFree_slot, setSlot_slot_same] at becomes
  exact (becomes.of_same fun j hj => setSlot_slot_ne hj _ _).congr (giveWrite_slots ..)

theorem versionEntered_sameTrail (k : RecordSlot) (v : PendingVersion) (s : State) :
    SameTrail (appendTrail (.recordOutcome k (s.entryOutcome k v)) s) (versionEntered k v s) :=
  (setOutcome_sameTrail (s := s) (t := supersede k v s) (entryOutcome_recorded s k v) k ⟨rfl, rfl⟩ rfl).trans
    ⟨giveWrite_trail .., giveWrite_newest ..⟩

theorem versionEntered_sameWrites (k : RecordSlot) (v : PendingVersion) (s : State) :
    SameWrites (giveWrite (.record k) (.record v.declaredDigest v.content v.points) s) (versionEntered k v s) := by
  refine SameWrites.give (w := setOutcome k (s.entryOutcome k v) (supersede k v s)) ⟨?_, ?_⟩ _ _
  all_goals rw [setOutcome_frame]; rfl

theorem versionEntered_poolFree (k : RecordSlot) (v : PendingVersion) (s : State) :
    (versionEntered k v s).poolFree = s.poolFree + currentPoints (s.slot k) := by
  unfold versionEntered giveRecordWrite
  rw [giveWrite_frame, setOutcome_frame]
  rfl

theorem versionEntered_frame (k : RecordSlot) (v : PendingVersion) (s : State) :
    versionEntered k v s =
      { s with
        slots := (versionEntered k v s).slots, poolFree := (versionEntered k v s).poolFree
        trail := (versionEntered k v s).trail, newest := (versionEntered k v s).newest
        writeQueue := (versionEntered k v s).writeQueue, inFlight := (versionEntered k v s).inFlight } := by
  unfold versionEntered giveRecordWrite
  rw [giveWrite_frame, setOutcome_frame]
  rfl

/-! ### Step 5 of R36 -/

/-- A computation told from a state whose tanks stand, up to a state whose sources stand. -/
theorem computeTanks_computed {ts : List TankId} {due : TankId → Bool} (hd : ∀ x, due x = true ↔ x ∈ ts)
    {u v w : State} (tanks : v.tanks = u.tanks) (computed : w.tanks = (computeTanks ts v).tanks)
    (slots : w.slots = v.slots) (parcels : w.parcels = v.parcels) (condition : w.shipCondition = v.shipCondition) :
    Computed due u w := by
  intro x
  have before : v.tank x = u.tank x := by unfold State.tank; rw [tanks]
  have after : w.tank x = (computeTanks ts v).tank x := by unfold State.tank; rw [computed]
  rw [after, computeTanks_tank, before, figureDue_congr slots parcels condition]
  by_cases h : x ∈ ts
  · simp [h, (hd x).2 h]
  · simp [h, Bool.eq_false_iff.2 (mt (hd x).1 h)]

theorem tellEntered_vessel (c : Content) (s : State) : tellEntered .vessel c s = computeTanks shipTankIds s := rfl

theorem tellEntered_tank (x : TankId) (c : Content) (s : State) :
    tellEntered (slotOfTank x) c s = computeTanks [x] s := by cases x <;> rfl

theorem tellEntered_meter (m : Fin 4) (c : Content) (s : State) : tellEntered (.meter m) c s = s := rfl

theorem tellEntered_settings (c : Content) (s : State) : tellEntered .settings c s = settingsChanged s := rfl

theorem tellEntered_parcel (p : Fin 6) (r : ParcelRecord) (s : State) :
    tellEntered (.parcel p) (.parcel r) s =
      if (s.parcel p).state = .proposed then enterDefined p r s else computeTanks (tanksNamed r) s := rfl

/-- A slot in DEFINED and what it hands off, from the state before it (R110, R111). -/
theorem enterDefined_handedOff (p : Fin 6) (r : ParcelRecord) (s : State) :
    ParcelBecomes p (definedParcel r) s (enterDefined p r s) ∧ HandedOff p .plain s (enterDefined p r s) := by
  refine ⟨(parcelBecomes_setParcel p (definedParcel r) s).congr (by simp [enterDefined]),
    (announce_handedOff p .plain _).of_same ?_ ⟨?_, ?_⟩ ?_ ⟨?_, ?_⟩⟩
  all_goals simp

theorem enterDefined_frame (p : Fin 6) (r : ParcelRecord) (s : State) :
    enterDefined p r s =
      { s with
        tanks := (enterDefined p r s).tanks, parcels := (enterDefined p r s).parcels
        concurrence := (enterDefined p r s).concurrence, trail := (enterDefined p r s).trail
        newest := (enterDefined p r s).newest, writeQueue := (enterDefined p r s).writeQueue
        inFlight := (enterDefined p r s).inFlight, alarm := (enterDefined p r s).alarm } := by
  unfold enterDefined
  rw [announce_frame, computeTanks_frame]
  rfl

/-- The tanks of a slot that enters DEFINED are computed with its record and its state standing (R85). -/
theorem enterDefined_computed (p : Fin 6) (r : ParcelRecord) {u v : State} (h : v.tanks = u.tanks) :
    Computed (fun x => (tanksNamed r).contains x) u (enterDefined p r v) := by
  refine computeTanks_computed (v := setParcel p (definedParcel r) v) (fun x => List.contains_iff_mem) h ?_ ?_ ?_ ?_
  all_goals simp [enterDefined]

/-! ### The table of R35 -/

theorem inUse_vessel (s : State) : s.inUse .vessel = true ↔ ∃ p, isLive (s.parcel p).state = true := by
  simp [State.inUse]

theorem inUse_tank (s : State) (x : TankId) :
    s.inUse (slotOfTank x) = true ↔ ∃ p r, s.boundRecord p = some r ∧ x ∈ tanksNamed r := by
  cases x <;> simp [State.inUse, slotOfTank, boundWith_iff, namesTank_iff]

theorem inUse_meter (s : State) (m : Fin 4) :
    s.inUse (.meter m) = true ↔ ∃ p r, s.boundRecord p = some r ∧ r.meter = some m := by
  simp [State.inUse, boundWith_iff, namesMeter_iff]

theorem inUse_parcel (s : State) (p : Fin 6) : s.inUse (.parcel p) = true ↔ (s.parcel p).state ≠ .free := bne_iff_ne

/-! ### The parts of O27 -/

/-- What stands at every kind of slot after an entry into force: the slot, and the pool (R13, R16, R36). -/
theorem enterForce_slot (k : RecordSlot) (v : PendingVersion) (s : State) :
    SlotBecomes k { current := some (enteredVersion v), pending := none, last := s.entryOutcome k v } s
        (enterForce k v s)
      ∧ (enterForce k v s).poolFree = s.poolFree + currentPoints (s.slot k) := by
  have account := tellEntered_account k v.content (versionEntered k v s)
  have slots : (enterForce k v s).slots = (versionEntered k v s).slots := congrArg (fun a => a.2.2.1) account
  have pool : (enterForce k v s).poolFree = (versionEntered k v s).poolFree := congrArg (fun a => a.2.2.2) account
  exact ⟨(versionEntered_slotBecomes k v s).congr slots, pool.trans (versionEntered_poolFree k v s)⟩

/-- An entry into force that computes tanks and changes no parcel slot (R36, R84). -/
theorem enterForce_computes {k : RecordSlot} {v : PendingVersion} {s : State} {ts : List TankId} {due : TankId → Bool}
    (tell : enterForce k v s = computeTanks ts (versionEntered k v s)) (hd : ∀ x, due x = true ↔ x ∈ ts) :
    SameTrail (appendTrail (.recordOutcome k (s.entryOutcome k v)) s) (enterForce k v s)
      ∧ SameWrites (giveWrite (.record k) (.record v.declaredDigest v.content v.points) s) (enterForce k v s)
      ∧ Computed due s (enterForce k v s)
      ∧ enterForce k v s =
        { s with
          slots := (enterForce k v s).slots, poolFree := (enterForce k v s).poolFree
          tanks := (enterForce k v s).tanks, trail := (enterForce k v s).trail
          newest := (enterForce k v s).newest, writeQueue := (enterForce k v s).writeQueue
          inFlight := (enterForce k v s).inFlight } := by
  rw [tell]
  refine ⟨(versionEntered_sameTrail k v s).trans ⟨computeTanks_trail .., computeTanks_newest ..⟩,
    (versionEntered_sameWrites k v s).trans ⟨computeTanks_writeQueue .., computeTanks_inFlight ..⟩,
    computeTanks_computed hd (v := versionEntered k v s) ?_ rfl (computeTanks_slots ..) (computeTanks_parcels ..)
      (computeTanks_shipCondition ..), ?_⟩
  · rw [versionEntered_frame]
  · rw [computeTanks_frame, versionEntered_frame]

/-- An entry into force of the record of a slot in PROPOSED: the slot enters DEFINED (R36, R85, R110, R111). -/
theorem enterForce_defines {p : Fin 6} {v : PendingVersion} {s : State} {r : ParcelRecord}
    (tell : enterForce (.parcel p) v s = enterDefined p r (versionEntered (.parcel p) v s)) :
    ParcelBecomes p (definedParcel r) s (enterForce (.parcel p) v s)
      ∧ HandedOff p .plain (versionEntered (.parcel p) v s) (enterForce (.parcel p) v s)
      ∧ Computed (fun x => (tanksNamed r).contains x) s (enterForce (.parcel p) v s)
      ∧ enterForce (.parcel p) v s =
        { s with
          slots := (enterForce (.parcel p) v s).slots, poolFree := (enterForce (.parcel p) v s).poolFree
          tanks := (enterForce (.parcel p) v s).tanks, parcels := (enterForce (.parcel p) v s).parcels
          concurrence := (enterForce (.parcel p) v s).concurrence, trail := (enterForce (.parcel p) v s).trail
          newest := (enterForce (.parcel p) v s).newest, writeQueue := (enterForce (.parcel p) v s).writeQueue
          inFlight := (enterForce (.parcel p) v s).inFlight, alarm := (enterForce (.parcel p) v s).alarm } := by
  rw [tell]
  obtain ⟨becomes, handed⟩ := enterDefined_handedOff p r (versionEntered (.parcel p) v s)
  refine ⟨becomes.of_same ?_, handed, enterDefined_computed p r ?_, ?_⟩
  · rw [versionEntered_frame]
  · rw [versionEntered_frame]
  · rw [enterDefined_frame, versionEntered_frame]

/-- The outcome of an entry into force, told in the words of R40. -/
theorem takeFrame_entryOutcome (l : Link) (counted : Bool) (s : State) (k : RecordSlot) (v : PendingVersion) :
    (takeFrame l counted s).entryOutcome k v =
      if v.restoring = true ∧ s.isSuspect k = true then .restored else .enteredForce := by
  rw [entryOutcome_eq, takeFrame_isSuspect]

theorem compareEndorsement_equal {s : State} {k : RecordSlot} {v : PendingVersion} (h : (s.slot k).pending = some v) :
    compareEndorsement k v.declaredDigest s = enterForce k v s := by simp [compareEndorsement, h]

/-- The tanks that the entry of a vessel or tank record has computed (R84). -/
def enteredDue (k : RecordSlot) (x : TankId) : Bool :=
  match x with
  | .ship _ => k == .vessel || k == slotOfTank x
  | .shore _ => k == slotOfTank x

/-- The vessel record's entry computes every ship tank, a tank record's its tank. -/
theorem enterForce_readings {k : RecordSlot} (hk : k = .vessel ∨ (tankOfSlot k).isSome = true) (v : PendingVersion)
    (s : State) :
    ∃ ts, enterForce k v s = computeTanks ts (versionEntered k v s) ∧ ∀ x, enteredDue k x = true ↔ x ∈ ts := by
  rcases hk with rfl | isTank
  · refine ⟨shipTankIds, by rw [enterForce_eq, tellEntered_vessel], fun x => ?_⟩
    cases x <;> simp [enteredDue, mem_shipTankIds, slotOfTank]
  · obtain ⟨t, ht⟩ := Option.isSome_iff_exists.1 isTank
    obtain rfl := tankOfSlot_eq_some.1 ht
    have notVessel : slotOfTank t ≠ .vessel := by cases t <;> simp [slotOfTank]
    refine ⟨[t], by rw [enterForce_eq, tellEntered_tank], fun x => ?_⟩
    cases x <;> simp [enteredDue, notVessel, slotOfTank_inj, @eq_comm _ t]

/-- The entry of settings is followed by the silence tests alone (R42). -/
theorem enterForce_settings (v : PendingVersion) (s : State) :
    SameWrites (giveWrite (.record .settings) (.record v.declaredDigest v.content v.points) s)
        (enterForce .settings v s)
      ∧ enterForce .settings v s = settingsChanged (versionEntered .settings v s)
      ∧ (versionEntered .settings v s).slots = (enterForce .settings v s).slots
      ∧ versionEntered .settings v s =
        { s with
          slots := (enterForce .settings v s).slots, poolFree := (enterForce .settings v s).poolFree
          trail := (versionEntered .settings v s).trail, newest := (versionEntered .settings v s).newest
          writeQueue := (enterForce .settings v s).writeQueue, inFlight := (enterForce .settings v s).inFlight } := by
  have before := versionEntered_frame .settings v s
  rw [enterForce_eq, tellEntered_settings]
  refine ⟨(versionEntered_sameWrites .settings v s).trans ⟨by simp, by simp⟩, rfl, by simp, ?_⟩
  simpa using before

/-- What the entry of a parcel record tells the slot, by the slot's state. -/
theorem enterForce_parcel {p : Fin 6} {v : PendingVersion} {r : ParcelRecord} (hc : v.content = .parcel r) (s : State) :
    enterForce (.parcel p) v s =
      if (s.parcel p).state = .proposed then enterDefined p r (versionEntered (.parcel p) v s)
      else computeTanks (tanksNamed r) (versionEntered (.parcel p) v s) := by
  have parcel : (versionEntered (.parcel p) v s).parcel p = s.parcel p := by
    rw [versionEntered_frame]
    rfl
  rw [enterForce_eq, hc, tellEntered_parcel, parcel]

/-- A refused endorsement leaves what the frame left. -/
theorem exec_endorse_refused {l : Link} {payload : List Byte} {s : State} {b : Byte} {d : Digest} {k : RecordSlot}
    {c : ResultCode} (hr : ReadyRunning l payload s) (hp : parseEndorse payload = some (b, d))
    (hb : slotOfCode b = some k) (hc : (takeFrame l true s).endorseRefusal l k = some c) (tag : Byte) :
    exec (.endorse l tag payload) s =
      .next (answered l 0x22 tag c ((takeFrame l true s).slotReport l k) (takeFrame l true s)) :=
  exec_endorse hr (by rw [endorseOwner_slot hp hb, hc, decided_some])

/-- Settles O27: the slot and the pool for every kind, then what step 5 of R36 tells by the kind of the slot. -/
theorem endorsedEntersForce : Obligations.EndorsedEntersForce := by
  refine ⟨fun l tag payload s b k v hr hp hb hv proposed counterpart _ replaceable => ?_,
    fun l tag payload s hr => ⟨fun format => ?_, fun b d hp => ⟨fun unknown => ?_, fun k hb => ⟨fun absent => ?_,
      fun v hv proposed => ⟨fun proposer => ?_, fun counterpart used taken notRestoring => ?_⟩⟩⟩⟩,
    fun s => ⟨inUse_vessel s, inUse_tank s, inUse_meter s, inUse_parcel s, rfl⟩⟩
  · intro u entered outcome recorded written
    have hu : (u.slot k).pending = some v := by rw [takeFrame_slot]; exact hv
    have mayReplace : u.replaceable k = true := by
      rw [replaceable_pending hu, takeFrame_inUse, takeFrame_slot, takeFrame_isSuspect]
      exact replaceable
    have told : u.entryOutcome k v = outcome := takeFrame_entryOutcome l true s k v
    obtain ⟨slot, pool⟩ := enterForce_slot k v u
    have trail := versionEntered_sameTrail k v u
    rw [told] at slot trail
    refine ⟨enterForce k v u, exec_endorse hr ?_, slot, ?_, fun m hm => ?_, fun hk => ?_, fun hk => ?_,
      fun p r hk hc => ?_⟩
    · rw [endorseOwner_slot hp hb, endorseRefusal_pending hu, if_pos proposed, if_neg counterpart, if_pos mayReplace,
        decided_none]
      exact congrArg (answerSlot .done l k) (compareEndorsement_equal hu)
    · rw [pool, takeFrame_slot, takeFrame_poolFree]
      rfl
    · subst hm
      exact ⟨trail, versionEntered_sameWrites (.meter m) v u, versionEntered_frame (.meter m) v u⟩
    · obtain ⟨ts, tell, due⟩ := enterForce_readings hk v u
      have computes := enterForce_computes tell due
      rw [told] at computes
      exact computes
    · subst hk
      obtain ⟨writes, changed, slots, before⟩ := enterForce_settings v u
      exact ⟨writes, _, changed, trail, slots, before⟩
    · subst hk
      have tell := enterForce_parcel (p := p) hc u
      rw [takeFrame_parcel] at tell
      by_cases state : (s.parcel p).state = .proposed
      · rw [if_pos state] at tell
        obtain ⟨becomes, ⟨table, announced, writes, alarm⟩, computed, rest⟩ := enterForce_defines tell
        refine ⟨computed, fun other => absurd state other, fun _ => ⟨becomes, ?_, ?_, ?_, alarm, rest⟩⟩
        · rw [table, becomes.1, versionEntered_frame]
          rfl
        · rw [becomes.1] at announced
          exact (trail.append (by rw [versionEntered_frame]; simp) _).trans announced
        · exact ((versionEntered_sameWrites (.parcel p) v u).give _ _).trans writes
      · rw [if_neg state] at tell
        obtain ⟨recordedTrail, writes, computed, rest⟩ := enterForce_computes tell
          (due := fun x => (tanksNamed r).contains x) fun x => List.contains_iff_mem
        rw [told] at recordedTrail
        exact ⟨computed, fun _ => ⟨recordedTrail, writes, rest⟩, fun proposed => absurd proposed state⟩
  · exact exec_endorse hr (by simp only [endorseOwner, format]; rfl)
  · exact exec_endorse hr (by simp only [endorseOwner, hp, onSlot_unknown unknown]; rfl)
  · refine exec_endorse_refused hr hp hb ?_ tag
    cases hv : (s.slot k).pending with
    | none => exact endorseRefusal_none (by rw [takeFrame_slot, hv]) l
    | some v => rw [endorseRefusal_pending (v := v) (by rw [takeFrame_slot, hv]), if_neg (absent v hv)]
  all_goals
    refine exec_endorse_refused hr hp hb ?_ tag
    rw [endorseRefusal_pending (v := v) (by rw [takeFrame_slot, hv]), if_pos proposed]
  · rw [if_pos proposer]
  · have stays : ¬(takeFrame l true s).replaceable k = true := by
      rw [replaceable_pending (v := v) (by rw [takeFrame_slot, hv]), takeFrame_inUse, takeFrame_slot,
        takeFrame_isSuspect]
      simp [used, taken, notRestoring]
    rw [if_neg counterpart, if_neg stays]

end Sys2Proof.Machine
end

section
/-! WITHDRAW of a current version (R39): what leaves with it, and the block that used it. -/

namespace Sys2Proof.Machine

open Sys2Proof

/-! ### The version leaves its slot -/

/-- A slot with its current version gone, the outcome recorded and the removal given, before its block is told. -/
def versionRemoved (k : RecordSlot) (s : State) : State := removeRecord k (setOutcome k .removed (dropCurrent k s))

theorem withdrawRecord_eq {k : RecordSlot} (hk : ∀ p, k ≠ .parcel p) (s : State) :
    withdrawRecord k s = tellWithdrawn k (versionRemoved k s) := by
  cases k
  case parcel p => exact absurd rfl (hk p)
  all_goals rfl

theorem versionRemoved_slotBecomes (k : RecordSlot) (s : State) :
    SlotBecomes k { s.slot k with current := none, last := .removed } s (versionRemoved k s) := by
  have becomes := setOutcome_slotBecomes k .removed (dropCurrent k s)
  simp only [dropCurrent, setPoolFree_slot, setSlot_slot_same] at becomes
  exact (becomes.of_same fun j hj => setSlot_slot_ne hj _ _).congr (giveWrite_slots ..)

theorem versionRemoved_sameTrail (k : RecordSlot) (s : State) :
    SameTrail (appendTrail (.recordOutcome k .removed) s) (versionRemoved k s) :=
  (setOutcome_sameTrail (s := s) (t := dropCurrent k s) ⟨by simp, by simp⟩ k ⟨rfl, rfl⟩ rfl).trans
    ⟨giveWrite_trail .., giveWrite_newest ..⟩

theorem versionRemoved_sameWrites (k : RecordSlot) (s : State) :
    SameWrites (giveWrite (.record k) .removal s) (versionRemoved k s) := by
  refine SameWrites.give (w := setOutcome k .removed (dropCurrent k s)) ⟨?_, ?_⟩ _ _
  all_goals rw [setOutcome_frame]; rfl

theorem versionRemoved_poolFree (k : RecordSlot) (s : State) :
    (versionRemoved k s).poolFree = s.poolFree + currentPoints (s.slot k) := by
  unfold versionRemoved removeRecord
  rw [giveWrite_frame, setOutcome_frame]
  rfl

theorem versionRemoved_frame (k : RecordSlot) (s : State) :
    versionRemoved k s =
      { s with
        slots := (versionRemoved k s).slots, poolFree := (versionRemoved k s).poolFree
        trail := (versionRemoved k s).trail, newest := (versionRemoved k s).newest
        writeQueue := (versionRemoved k s).writeQueue, inFlight := (versionRemoved k s).inFlight } := by
  unfold versionRemoved removeRecord
  rw [giveWrite_frame, setOutcome_frame]
  rfl

theorem versionRemoved_tank (k : RecordSlot) (s : State) (x : TankId) : (versionRemoved k s).tank x = s.tank x := by
  rw [versionRemoved_frame]
  rfl

/-! ### Its block is told -/

theorem tellWithdrawn_tank (x : TankId) (s : State) : tellWithdrawn (slotOfTank x) s = clearTank x s := by
  cases x <;> rfl

theorem tellWithdrawn_vessel (s : State) : tellWithdrawn .vessel s = holdTanks shipTankIds s := rfl

/-- The slot and the pool after a withdrawal, which its block does not touch. -/
theorem withdrawRecord_slot {k : RecordSlot} (hk : ∀ p, k ≠ .parcel p) (s : State) :
    SlotBecomes k { s.slot k with current := none, last := .removed } s (withdrawRecord k s)
      ∧ (withdrawRecord k s).slots = (versionRemoved k s).slots
      ∧ (withdrawRecord k s).poolFree = (versionRemoved k s).poolFree := by
  have account := tellWithdrawn_account k (versionRemoved k s)
  rw [withdrawRecord_eq hk]
  have slots : (tellWithdrawn k (versionRemoved k s)).slots = (versionRemoved k s).slots :=
    congrArg (fun a => a.2.2.1) account
  exact ⟨(versionRemoved_slotBecomes k s).congr slots, slots, congrArg (fun a => a.2.2.2) account⟩

/-- The vessel record withdrawn: every ship tank figure is held, no shore tank changes (R80). -/
theorem withdrawRecord_vessel (s : State) :
    (∀ n, (withdrawRecord .vessel s).tank (.ship n) =
        { s.tank (.ship n) with figure := holdFigure (s.tank (.ship n)).figure })
      ∧ (∀ n, (withdrawRecord .vessel s).tank (.shore n) = s.tank (.shore n))
      ∧ withdrawRecord .vessel s = { versionRemoved .vessel s with tanks := (withdrawRecord .vessel s).tanks } := by
  rw [withdrawRecord_eq (by simp), tellWithdrawn_vessel]
  refine ⟨fun n => ?_, fun n => ?_, holdTanks_frame ..⟩
  · rw [holdTanks_tank, if_pos ((mem_shipTankIds _).2 ⟨n, rfl⟩), versionRemoved_tank]
  · rw [holdTanks_tank, if_neg (by simp [mem_shipTankIds]), versionRemoved_tank]

/-- A tank's record withdrawn: its latest reading and figure go, no other tank changes (R62). -/
theorem withdrawRecord_tank (x : TankId) (s : State) :
    (∀ y, (withdrawRecord (slotOfTank x) s).tank y =
        if y = x then { reading := none, figure := .cleared } else s.tank y)
      ∧ withdrawRecord (slotOfTank x) s =
        { versionRemoved (slotOfTank x) s with tanks := (withdrawRecord (slotOfTank x) s).tanks } := by
  rw [withdrawRecord_eq (by cases x <;> simp [slotOfTank]), tellWithdrawn_tank]
  refine ⟨fun y => ?_, rfl⟩
  rw [clearTank, setTank_tank, versionRemoved_tank]
  rfl

/-! ### The checks of R39 -/

theorem withdrawCurrentRefusal_none {s : State} {k : RecordSlot} (h : (s.slot k).current = none) (l : Link) :
    s.withdrawCurrentRefusal l k = some .state := by simp [State.withdrawCurrentRefusal, h]

/-- The checks of R39 over a current version: the owner, then the use. -/
theorem withdrawCurrentRefusal_current {s : State} {k : RecordSlot} (h : (s.slot k).current ≠ none) (l : Link) :
    s.withdrawCurrentRefusal l k = if mayWithdraw l k = true then s.useRefusal k else some .owner := by
  simp only [State.withdrawCurrentRefusal, firstRefusal_cons, firstRefusal_nil, Option.isSome_iff_ne_none.2 h]
  cases mayWithdraw l k <;> rfl

theorem mayWithdraw_of_not_parcel {k : RecordSlot} (hk : ∀ p, k ≠ .parcel p) (l : Link) :
    mayWithdraw l k = ownsKind l k := by
  cases k
  case parcel p => exact absurd rfl (hk p)
  all_goals rfl

theorem useRefusal_of_not_parcel {k : RecordSlot} (hk : ∀ p, k ≠ .parcel p) (s : State) :
    s.useRefusal k = if k = .settings ∨ s.inUse k = false then none else some .bound := by
  cases k
  case parcel p => exact absurd rfl (hk p)
  all_goals simp [State.useRefusal]

theorem useRefusal_parcel (p : Fin 6) (s : State) :
    s.useRefusal (.parcel p) = if (s.parcel p).state = .defined then none else some .state := by
  simp [State.useRefusal]

/-- Settles O28: the effect by the kind of the slot, each refusal by the check of R39 that fails. -/
theorem currentWithdrawn : Obligations.CurrentWithdrawn := by
  refine ⟨fun l tag b s k v hr hb hv => ?_, fun l tag payload s hr => ?_⟩
  · intro u answer
    have hu : (u.slot k).current = some v := by rw [takeFrame_slot]; exact hv
    have taken : u.withdrawCurrentRefusal l k = none → answer (withdrawRecord k u) := fun passes =>
      exec_withdrawCurrent hr (by rw [withdrawCurrentOwner_slot hb, passes]; rfl)
    rw [withdrawCurrentRefusal_current (by rw [hu]; simp)] at taken
    refine ⟨fun notParcel owns free => ?_, fun p r hk _ state => ?_⟩
    · obtain ⟨becomes, slots, pool⟩ := withdrawRecord_slot notParcel u
      refine ⟨withdrawRecord k u, versionRemoved k u, taken ?_, ?_, ?_, versionRemoved_sameTrail k u,
        versionRemoved_sameWrites k u, ?_, fun x hx => ?_, fun hk => ?_, fun m hm => ?_, fun hk => ?_⟩
      · rw [mayWithdraw_of_not_parcel notParcel, if_pos owns, useRefusal_of_not_parcel notParcel, takeFrame_inUse,
          if_pos free]
      · rwa [takeFrame_slot] at becomes
      · rw [pool, versionRemoved_poolFree, takeFrame_poolFree]
        simp [currentPoints, hu]
      · rw [slots, pool]
        exact versionRemoved_frame k u
      · rw [tankOfSlot_eq_some] at hx
        subst hx
        have h := withdrawRecord_tank x u
        simpa [u] using h
      · subst hk
        have h := withdrawRecord_vessel u
        simpa [u] using h
      · subst hm
        rfl
      · subst hk
        rfl
    · subst hk
      refine ⟨endParcel p false u, taken ?_, rfl⟩
      rw [useRefusal_parcel, takeFrame_parcel, if_pos state]
      rfl
  · refine ⟨fun long => ?_, ?_⟩
    · exact exec_withdrawCurrent hr (by rw [withdrawCurrentOwner, oneByte_eq_none long]; rfl)
    rintro b rfl
    refine ⟨fun unknown => exec_withdrawCurrent hr (onSlot_unknown unknown _ _), fun k hb => ?_⟩
    have refused : ∀ {c}, (takeFrame l true s).withdrawCurrentRefusal l k = some c →
        exec (.withdrawCurrent l tag [b]) s =
          .next (answered l 0x24 tag c ((takeFrame l true s).slotReport l k) (takeFrame l true s)) := fun hc =>
      exec_withdrawCurrent hr (by rw [withdrawCurrentOwner_slot hb, hc, decided_some])
    refine ⟨fun absent => refused ?_, fun current notParcel => ⟨fun other => refused ?_,
      fun owns notSettings used => refused ?_⟩, fun p hk current state => refused ?_⟩
    · exact withdrawCurrentRefusal_none (by rw [takeFrame_slot]; exact absent) l
    all_goals rw [withdrawCurrentRefusal_current (by rw [takeFrame_slot]; exact current)]
    · simp [mayWithdraw_of_not_parcel notParcel, other]
    · simp [mayWithdraw_of_not_parcel notParcel, owns, useRefusal_of_not_parcel notParcel, notSettings, used]
    · subst hk
      rw [useRefusal_parcel, takeFrame_parcel, if_neg state]
      rfl

end Sys2Proof.Machine
end

section
/-! CALL CLEAR (R20, R21, R55, R63, R112, R131, R173): the ended parcels, the ship's slots, and the rest. -/

namespace Sys2Proof.Machine

open Sys2Proof

/-! ### One ended parcel returns to FREE -/

/-- The slot is CLOSED or ABANDONED. -/
abbrev State.ended (s : State) (p : Fin 6) : Prop := (s.parcel p).state = .closed ∨ (s.parcel p).state = .abandoned

theorem callClearParcel_ended {s : State} {p : Fin 6} (h : s.ended p) :
    callClearParcel p s = callClearParcel.removed p s := by
  unfold callClearParcel
  rcases h with h | h <;> rw [h]

theorem callClearParcel_other {s : State} {p : Fin 6} (h : ¬s.ended p) : callClearParcel p s = s := by
  obtain ⟨notClosed, notAbandoned⟩ := not_or.1 h
  unfold callClearParcel
  split
  · contradiction
  · contradiction
  · rfl

/-- An ended parcel's slots, its meter and what it hands off (R99, R112, R131). -/
theorem callClearParcel_removed (p : Fin 6) (s : State) :
    ParcelBecomes p .reset s (callClearParcel.removed p s)
      ∧ SlotBecomes (.parcel p) .reset s (callClearParcel.removed p s)
      ∧ AccumulatorsBecome (s.boundMeter p) none s (callClearParcel.removed p s)
      ∧ SameTrail (appendTrail (.parcelState p .free (.unilateral false)) s) (callClearParcel.removed p s)
      ∧ SameWrites (giveWrite (.checkpoint p) .removal (giveWrite (.record (.parcel p)) .removal s))
          (callClearParcel.removed p s) := by
  obtain ⟨-, trail⟩ := announceFree_empty p (s.boundMeter p) false (setSlot (.parcel p) .reset s)
  refine ⟨((emptyParcel_parcelBecomes p (s.boundMeter p) (setSlot (.parcel p) .reset s)).of_same rfl).congr ?_,
    (slotBecomes_setSlot (.parcel p) .reset s).congr ?_,
    ((emptyParcel_channels p (s.boundMeter p) (setSlot (.parcel p) .reset s)).of_same rfl).congr ?_,
    ((SameTrail.append (v := s) (w := setSlot (.parcel p) .reset s) ⟨rfl, rfl⟩ rfl _).trans trail).trans ⟨?_, ?_⟩,
    (SameWrites.give ?_ _ _).give _ _⟩
  on_goal 6 =>
    constructor <;> simp
  all_goals simp [callClearParcel.removed, removeCheckpoint, removeRecord]

theorem callClearParcel_removed_frame (p : Fin 6) (s : State) :
    callClearParcel.removed p s =
      { s with
        slots := (callClearParcel.removed p s).slots, channels := (callClearParcel.removed p s).channels
        parcels := (callClearParcel.removed p s).parcels, concurrence := (callClearParcel.removed p s).concurrence
        trail := (callClearParcel.removed p s).trail, newest := (callClearParcel.removed p s).newest
        writeQueue := (callClearParcel.removed p s).writeQueue
        inFlight := (callClearParcel.removed p s).inFlight } := by
  unfold callClearParcel.removed removeCheckpoint removeRecord
  rw [giveWrite_frame, giveWrite_frame, announceFree_frame, emptyParcel_frame]
  rfl

/-! ### All of them, in slot order -/

/-- Between `u` and `w` the ended parcels of `ps` returned to FREE, in this order, and else only the table changed. -/
structure ParcelsCleared (ps : List (Fin 6)) (u w : State) : Prop where
  parcel : ∀ q, w.parcel q = if q ∈ ps ∧ u.ended q then .reset else u.parcel q
  parcelSlot : ∀ q, w.slot (.parcel q) = if q ∈ ps ∧ u.ended q then .reset else u.slot (.parcel q)
  slot : ∀ k, (∀ q, k ≠ .parcel q) → w.slot k = u.slot k
  bound : ∀ m, (∃ q ∈ ps, u.ended q ∧ u.boundMeter q = some m) →
    w.channel m = { u.channel m with accumulators := none }
  unbound : ∀ m, ¬(∃ q ∈ ps, u.ended q ∧ u.boundMeter q = some m) → w.channel m = u.channel m
  trail : SameTrail
    (ps.foldl (fun v q => if u.ended q then appendTrail (.parcelState q .free (.unilateral false)) v else v) u) w
  writes : SameWrites
    (ps.foldl (fun v q =>
      if u.ended q then giveWrite (.checkpoint q) .removal (giveWrite (.record (.parcel q)) .removal v) else v) u) w
  rest : w =
    { u with
      slots := w.slots, channels := w.channels, parcels := w.parcels, concurrence := w.concurrence, trail := w.trail
      newest := w.newest, writeQueue := w.writeQueue, inFlight := w.inFlight }

theorem parcelsCleared_nil (es : List Concurrence) (u : State) : ParcelsCleared [] u (setConcurrence es u) where
  parcel := fun q => by simp
  parcelSlot := fun q => by simp
  slot := fun k _ => rfl
  bound := fun m h => by simp at h
  unbound := fun m _ => rfl
  trail := ⟨rfl, rfl⟩
  writes := ⟨rfl, rfl⟩
  rest := rfl

/-- Appending records leaves the clock, whichever of them are appended. -/
theorem foldl_appendTrail_clock {α : Type} (p : α → Prop) [DecidablePred p] (f : α → TrailBody) (xs : List α)
    (u : State) : (xs.foldl (fun v q => if p q then appendTrail (f q) v else v) u).clock = u.clock := by
  refine foldl_keeps (P := fun w => w.clock = u.clock) (fun w q h => ?_) xs rfl
  split
  · rw [appendTrail_clock, h]
  · exact h

section

variable {ps : List (Fin 6)} {p : Fin 6} {u w : State} (h : ParcelsCleared ps u w) (new : p ∉ ps)

include h

theorem ParcelsCleared.clock : w.clock = u.clock := by rw [h.rest]

/-- A slot that is not ended is left as it stands. -/
theorem ParcelsCleared.skip (other : ¬u.ended p) : ParcelsCleared (ps ++ [p]) u w := by
  have same : ∀ q, (q ∈ ps ++ [p] ∧ u.ended q) ↔ (q ∈ ps ∧ u.ended q) := by
    intro q
    constructor
    · rintro ⟨mem, ended⟩
      rcases List.mem_append.1 mem with old | last
      · exact ⟨old, ended⟩
      · exact absurd (List.mem_singleton.1 last ▸ ended) other
    · rintro ⟨mem, ended⟩
      exact ⟨List.mem_append_left _ mem, ended⟩
  have sameBound : ∀ m, (∃ q ∈ ps ++ [p], u.ended q ∧ u.boundMeter q = some m) ↔
      ∃ q ∈ ps, u.ended q ∧ u.boundMeter q = some m := fun m =>
    exists_congr fun q => by rw [← and_assoc, same, and_assoc]
  exact {
    parcel := fun q => by simp only [same, h.parcel]
    parcelSlot := fun q => by simp only [same, h.parcelSlot]
    slot := h.slot
    bound := fun m hm => h.bound m ((sameBound m).1 hm)
    unbound := fun m hm => h.unbound m (mt (sameBound m).2 hm)
    trail := by rw [List.foldl_append, List.foldl_cons, List.foldl_nil, if_neg other]; exact h.trail
    writes := by rw [List.foldl_append, List.foldl_cons, List.foldl_nil, if_neg other]; exact h.writes
    rest := h.rest }

include new

theorem ParcelsCleared.parcel_new : w.parcel p = u.parcel p := by simp [h.parcel, new]

theorem ParcelsCleared.boundMeter_new : w.boundMeter p = u.boundMeter p := by
  simp [State.boundMeter, State.boundRecord, State.parcelRecord, h.parcel, h.parcelSlot, new]

theorem ParcelsCleared.remove (ended : u.ended p) :
    ParcelsCleared (ps ++ [p]) u (callClearParcel.removed p w) := by
  obtain ⟨parcel, slot, channels, trail, writes⟩ := callClearParcel_removed p w
  rw [h.boundMeter_new new] at channels
  exact {
    parcel := fun q => by
      by_cases e : q = p
      · subst e; rw [parcel.1, if_pos ⟨by simp, ended⟩]
      · rw [parcel.2 q e, h.parcel]; simp [e]
    parcelSlot := fun q => by
      by_cases e : q = p
      · subst e; rw [slot.1, if_pos ⟨by simp, ended⟩]
      · rw [slot.2 _ (by simpa using e), h.parcelSlot]; simp [e]
    slot := fun k hk => (slot.2 k (hk p)).trans (h.slot k hk)
    bound := fun m ⟨q, mem, isEnded, named⟩ => by
      rw [channels m]
      by_cases old : ∃ q ∈ ps, u.ended q ∧ u.boundMeter q = some m
      · rw [h.bound m old]
        split <;> rfl
      · have last : q = p := by
          rcases List.mem_append.1 mem with before | last
          · exact absurd ⟨q, before, isEnded, named⟩ old
          · exact List.mem_singleton.1 last
        rw [if_pos (last ▸ named), h.unbound m old]
    unbound := fun m free => by
      rw [channels m, if_neg fun named => free ⟨p, by simp, ended, named⟩]
      exact h.unbound m fun ⟨q, mem, rest⟩ => free ⟨q, List.mem_append_left _ mem, rest⟩
    trail := by
      rw [List.foldl_append, List.foldl_cons, List.foldl_nil, if_pos ended]
      exact (h.trail.append (by rw [h.clock, foldl_appendTrail_clock]) _).trans trail
    writes := by
      rw [List.foldl_append, List.foldl_cons, List.foldl_nil, if_pos ended]
      exact ((h.writes.give _ _).give _ _).trans writes
    rest := by
      rw [callClearParcel_removed_frame, h.rest] }

theorem ParcelsCleared.next : ParcelsCleared (ps ++ [p]) u (callClearParcel p w) := by
  have same : w.ended p ↔ u.ended p := by rw [State.ended, h.parcel_new new]
  by_cases ended : u.ended p
  · rw [callClearParcel_ended (same.2 ended)]
    exact h.remove new ended
  · rw [callClearParcel_other (mt same.1 ended)]
    exact h.skip ended

end

theorem parcelsCleared_foldl {ps : List (Fin 6)} (distinct : ps.Nodup) (es : List Concurrence) (u : State) :
    ParcelsCleared ps u (ps.foldl (fun s p => callClearParcel p s) (setConcurrence es u)) := by
  induction ps using List.reverseRecOn with
  | nil => exact parcelsCleared_nil es u
  | append_singleton ps p ih =>
    have split := List.nodup_append.1 distinct
    rw [List.foldl_append]
    exact (ih split.1).next fun mem => split.2.2 p mem p (by simp) rfl

end Sys2Proof.Machine
end

section
/-! CALL CLEAR, continued: the vessel's slots, the links, the tanks, and the whole of R131. -/

namespace Sys2Proof.Machine

open Sys2Proof

/-! ### The vessel slot and S01 to S32 -/

/-- Between `u` and `w` the slots of `ks` were emptied into the pool and their removals given, in this order. -/
structure SlotsEmptied (ks : List RecordSlot) (u w : State) : Prop where
  slot : ∀ k, w.slot k = if k ∈ ks then .reset else u.slot k
  pool : w.poolFree = u.poolFree + (ks.map fun k => heldPoints (u.slot k)).sum
  writes : SameWrites (ks.foldl (fun v k => giveWrite (.record k) .removal v) u) w
  rest : w =
    { u with slots := w.slots, poolFree := w.poolFree, writeQueue := w.writeQueue, inFlight := w.inFlight }

theorem slotsEmptied_nil (u : State) : SlotsEmptied [] u u where
  slot := fun k => by simp
  pool := rfl
  writes := SameWrites.rfl' u
  rest := rfl

theorem SlotsEmptied.next {ks : List RecordSlot} {k : RecordSlot} {u w : State} (h : SlotsEmptied ks u w)
    (new : k ∉ ks) : SlotsEmptied (ks ++ [k]) u (removeRecord k (emptySlot k w)) where
  slot := fun j => by
    rw [removeRecord, giveWrite_slot, emptySlot]
    by_cases e : j = k
    · subst e; simp
    · rw [setSlot_slot_ne e, setPoolFree_slot, h.slot]; simp [e]
  pool := by
    rw [removeRecord, giveWrite_poolFree, emptySlot, setSlot_poolFree, setPoolFree_poolFree, h.pool, h.slot, if_neg new]
    simp [Nat.add_assoc]
  writes := by
    rw [List.foldl_append, List.foldl_cons, List.foldl_nil]
    exact SameWrites.give (w := emptySlot k w) h.writes _ _
  rest := by
    rw [removeRecord, giveWrite_frame, h.rest]
    rfl

theorem slotsEmptied_foldl {ks : List RecordSlot} (distinct : ks.Nodup) (u : State) :
    SlotsEmptied ks u (ks.foldl (fun s k => removeRecord k (emptySlot k s)) u) := by
  induction ks using List.reverseRecOn with
  | nil => exact slotsEmptied_nil u
  | append_singleton ks k ih =>
    have split := List.nodup_append.1 distinct
    rw [List.foldl_append]
    exact (ih split.1).next fun mem => split.2.2 k mem k (by simp) rfl

theorem nodup_vesselSlots : vesselSlots.Nodup := by
  unfold vesselSlots allShipTanks
  refine List.nodup_cons.2 ⟨by simp, (List.nodup_finRange 32).map fun a b h => ?_⟩
  simpa using h

theorem mem_vesselSlots (k : RecordSlot) : k ∈ vesselSlots ↔ k = .vessel ∨ ∃ n, k = .ship n := by
  simp [vesselSlots, allShipTanks, eq_comm]

theorem heldPoints_vesselSlots (f : RecordSlot → Slot) :
    (vesselSlots.map fun k => heldPoints (f k)).sum =
      heldPoints (f .vessel) + (allShipTanks.map fun n => heldPoints (f (.ship n))).sum := by
  simp [vesselSlots, Function.comp_def]

/-! ### The intake queues and the holds -/

/-- Both intake queues emptied, then both holds released (R55, R171, R173). -/
def clearLinks (s : State) : State :=
  dropHold .terminal (dropHold .ship (emptyIntake .terminal (emptyIntake .ship s)))

/-- What the clear leaves of a link. -/
def clearedLink (v : LinkUnit) : LinkUnit :=
  { v with
    intake := [], hold := none
    report := { v.report with readingDiscarded := v.report.readingDiscarded || !v.intake.isEmpty } }

/-- What an emptied intake queue leaves of its link (R55). -/
def emptiedLink (v : LinkUnit) : LinkUnit :=
  { v with
    intake := []
    report := { v.report with readingDiscarded := v.report.readingDiscarded || !v.intake.isEmpty } }

theorem emptiedLink_empty {v : LinkUnit} (h : v.intake = []) : emptiedLink v = v := by
  obtain ⟨⟩ := v
  cases h
  simp [emptiedLink]

theorem emptyIntake_eq (l : Link) (s : State) : emptyIntake l s = setLink l (emptiedLink (s.link l)) s := by
  unfold emptyIntake
  by_cases h : (s.link l).intake.isEmpty = true
  · simp only [if_pos h, emptiedLink_empty (List.isEmpty_iff.1 h), setLink_self]
  · simp [emptiedLink, h]

theorem clearLinks_link (s : State) (x : Link) : (clearLinks s).link x = clearedLink (s.link x) := by
  cases x <;> simp only [clearLinks, dropHold, emptyIntake_eq] <;> rfl

theorem clearLinks_frame (s : State) :
    clearLinks s = { s with shipLink := (clearLinks s).shipLink, terminalLink := (clearLinks s).terminalLink } := by
  simp only [clearLinks, dropHold, emptyIntake_eq]
  rfl

/-! ### The whole of R131 -/

/-- The record slots of the clear: the ended parcels', then the vessel's. -/
def clearSlots (s : State) : State :=
  vesselSlots.foldl (fun s k => removeRecord k (emptySlot k s)) (allParcels.foldl (fun s p => callClearParcel p s) s)

/-- The clear once the record slots stand: tanks, links, trail, table and alarm line. -/
def clearRest (ts : List TankId) (s : State) : State :=
  setAlarm (setConcurrence [] (appendTrail .callClear
    (clearLinks (computeTanks ts (setShipCondition none (clearTanks shipTankIds s))))))

theorem callClear_eq (s : State) : callClear s = clearRest s.returningShoreTanks (clearSlots s) := rfl

theorem mem_returningShoreTanks (s : State) (x : TankId) :
    x ∈ s.returningShoreTanks ↔
      ∃ n, x = .shore n ∧ ∃ q r, s.ended q ∧ s.parcelRecord q = some r ∧ n ∈ r.shoreTanks := by
  simp only [State.returningShoreTanks, List.mem_flatMap, mem_allParcels, true_and, State.ended]
  constructor
  · rintro ⟨q, mem⟩
    split at mem
    next r state record =>
      obtain ⟨n, hn, rfl⟩ := List.mem_map.1 mem
      exact ⟨n, rfl, q, r, .inl state, record, hn⟩
    next r state record =>
      obtain ⟨n, hn, rfl⟩ := List.mem_map.1 mem
      exact ⟨n, rfl, q, r, .inr state, record, hn⟩
    next => simp at mem
  · rintro ⟨n, rfl, q, r, state | state, record, hn⟩
    all_goals exact ⟨q, by rw [state, record]; exact List.mem_map_of_mem hn⟩

section

variable (ts : List TankId) (s : State)

/-- The engine's part of the clear and the links', before the trail, the table and the alarm line. -/
def clearReadings : State := clearLinks (computeTanks ts (setShipCondition none (clearTanks shipTankIds s)))

theorem clearReadings_frame :
    clearReadings ts s =
      { s with
        tanks := (clearReadings ts s).tanks, shipCondition := none, shipLink := (clearReadings ts s).shipLink
        terminalLink := (clearReadings ts s).terminalLink } := by
  have cleared := clearTanks_frame shipTankIds s
  have computed := computeTanks_frame ts (setShipCondition none (clearTanks shipTankIds s))
  have links := clearLinks_frame (computeTanks ts (setShipCondition none (clearTanks shipTankIds s)))
  unfold clearReadings
  generalize clearLinks _ = w at links ⊢
  generalize computeTanks ts _ = t at computed links
  generalize clearTanks shipTankIds s = c at cleared computed
  rw [links, computed, cleared]
  rfl

theorem clearRest_eq :
    clearRest ts s = setAlarm (setConcurrence [] (appendTrail .callClear (clearReadings ts s))) := rfl

theorem clearRest_alarm : (clearRest ts s).alarm = s.alarmDue := by
  refine (setAlarm_stands _).trans (alarmDue_congr ?_)
  show (appendTrail .callClear (clearReadings ts s)).parcels = s.parcels
  rw [appendTrail_parcels, clearReadings_frame]

theorem clearRest_frame :
    clearRest ts s =
      { s with
        tanks := (clearRest ts s).tanks, shipCondition := none, concurrence := [], shipLink := (clearRest ts s).shipLink
        terminalLink := (clearRest ts s).terminalLink, trail := (clearRest ts s).trail
        newest := (clearRest ts s).newest, alarm := (clearRest ts s).alarm } := by
  rw [clearRest_eq, setAlarm, appendTrail_frame, clearReadings_frame]
  rfl

theorem clearRest_tank (x : TankId) :
    (clearRest ts s).tank x =
      (computeTanks ts (setShipCondition none (clearTanks shipTankIds s))).tank x := by
  show (appendTrail .callClear (clearLinks _)).tank x = _
  rw [appendTrail_tank, clearLinks_frame]
  rfl

theorem clearRest_shipTank (n : Fin 32) :
    (clearRest ts s).tank (.ship n) = { reading := none, figure := .cleared } := by
  have cleared : (clearTanks shipTankIds s).tank (.ship n) = { reading := none, figure := .cleared } := by
    rw [clearTanks_tank, if_pos ((mem_shipTankIds _).2 ⟨n, rfl⟩)]
    rfl
  rw [clearRest_tank, computeTanks_tank, setShipCondition_tank, cleared]
  split <;> rfl

theorem clearRest_shoreTank (n : Fin 16) :
    (clearRest ts s).tank (.shore n) =
      if .shore n ∈ ts then
        { s.tank (.shore n) with figure := figureDue (clearRest ts s) (.shore n) (s.tank (.shore n)) }
      else s.tank (.shore n) := by
  have kept : (clearTanks shipTankIds s).tank (.shore n) = s.tank (.shore n) := by
    rw [clearTanks_tank, if_neg (by simp [mem_shipTankIds])]
  have due : ∀ k, figureDue (setShipCondition none (clearTanks shipTankIds s)) (.shore n) k =
      figureDue (clearRest ts s) (.shore n) k := fun k => by
    apply figureDue_congr <;> rw [clearRest_frame] <;> simp
  rw [clearRest_tank, computeTanks_tank, setShipCondition_tank, kept, due]

theorem clearRest_link (x : Link) : (clearRest ts s).link x = clearedLink (s.link x) := by
  show (appendTrail .callClear (clearLinks _)).link x = _
  rw [appendTrail_link, clearLinks_link, computeTanks_link, setShipCondition_link, clearTanks_link]

theorem clearRest_sameTrail : SameTrail (appendTrail .callClear s) (clearRest ts s) := by
  refine SameTrail.append (w := clearLinks (computeTanks ts (setShipCondition none (clearTanks shipTankIds s))))
    ⟨?_, ?_⟩ ?_ _
  all_goals rw [clearLinks_frame]; simp

end

theorem declareUnit_second {l : Link} {s : State} {e : Concurrence}
    (states : ∀ q, allowsCallClear (s.parcel q).state = true) (he : s.entry .unit .callClear = some e)
    (first : e.first = otherLink l) :
    declareUnit l [0, 0] s = (callClear (removeEntry .unit .callClear s), ⟨.done, []⟩) := by
  have all : (allParcels.all fun p => allowsCallClear (s.parcel p).state) = true :=
    List.all_eq_true.2 fun q _ => states q
  simp only [declareUnit, all, if_true, decideDeclaration, he, first]
  rfl

theorem exec_declareCallClear {l : Link} {tag : Byte} {payload : List Byte} {s w : State} {r : ResultCode}
    {body : List Byte} (h : ReadyRunning l payload s)
    (ho : declareUnit l payload (takeFrame l true s) = (w, ⟨r, body⟩)) :
    exec (.declareCallClear l tag payload) s = .next (answered l 0x30 tag r body w) :=
  congrArg Host.Outcome.next (takeRequest_answers h ho 0x30 tag)

theorem parcelAlarms_free {v : Parcel} (h : v.state = .free) : parcelAlarms v = false := by
  simp [parcelAlarms, h, isLive]

section

variable {u v w : State}

/-- The parcels after the record slots are cleared: FREE, each ended one reset with its record slot (R112, R131). -/
theorem parcelsCleared_free (h : ParcelsCleared allParcels u v)
    (states : ∀ q, (u.parcel q).state = .free ∨ u.ended q) (q : Fin 6) :
    (v.parcel q).state = .free
      ∧ (u.ended q → v.parcel q = .reset ∧ v.slot (.parcel q) = .reset)
      ∧ (¬u.ended q → v.parcel q = u.parcel q ∧ v.slot (.parcel q) = u.slot (.parcel q)) := by
  rw [h.parcel, h.parcelSlot]
  simp only [mem_allParcels, true_and]
  by_cases ended : u.ended q
  · simp [ended, Parcel.reset]
  · simp [ended, (states q).resolve_right ended]

end

/-- What the clear does, told from the state the frame left and whatever table stood in it (R131). -/
theorem clearSlots_cleared (es : List Concurrence) (u : State) :
    ∃ v, ParcelsCleared allParcels u v ∧ SlotsEmptied vesselSlots v (clearSlots (setConcurrence es u)) :=
  ⟨_, parcelsCleared_foldl (by decide) es u, slotsEmptied_foldl nodup_vesselSlots _⟩

end Sys2Proof.Machine
end

section
/-! CALL CLEAR taken (R131): the parts of the clear, told from the state its frame left. -/

namespace Sys2Proof.Machine

open Sys2Proof

/-! ### The record slots -/

theorem SlotsEmptied.parcel {ks : List RecordSlot} {v w : State} (h : SlotsEmptied ks v w) (q : Fin 6) :
    w.parcel q = v.parcel q := by
  rw [h.rest]
  rfl

theorem SlotsEmptied.parcelSlot {v w : State} (h : SlotsEmptied vesselSlots v w) (q : Fin 6) :
    w.slot (.parcel q) = v.slot (.parcel q) := by rw [h.slot, if_neg (by simp [mem_vesselSlots])]

theorem SlotsEmptied.sameTrail {ks : List RecordSlot} {v w : State} (h : SlotsEmptied ks v w) : SameTrail v w := by
  rw [h.rest]
  exact ⟨rfl, rfl⟩

/-- Removals given rest on the queue and the write in flight alone. -/
theorem SameWrites.removals {v w : State} (h : SameWrites v w) (ks : List RecordSlot) :
    SameWrites (ks.foldl (fun v k => giveWrite (.record k) .removal v) v)
      (ks.foldl (fun v k => giveWrite (.record k) .removal v) w) := by
  induction ks generalizing v w with
  | nil => exact h
  | cons k ks ih => exact ih (h.give _ _)

section

variable {u v w : State} (parcels : ParcelsCleared allParcels u v) (emptied : SlotsEmptied vesselSlots v w)

include parcels emptied

theorem clearSlots_slot {k : RecordSlot} (notParcel : ∀ q, k ≠ .parcel q) :
    w.slot k = if k ∈ vesselSlots then .reset else u.slot k := by rw [emptied.slot, parcels.slot k notParcel]

theorem clearSlots_pool :
    w.poolFree = u.poolFree + heldPoints (u.slot .vessel)
      + (allShipTanks.map fun n => heldPoints (u.slot (.ship n))).sum := by
  have ships : ∀ n, v.slot (.ship n) = u.slot (.ship n) := fun n => parcels.slot _ (by simp)
  have pool : v.poolFree = u.poolFree := by rw [parcels.rest]
  rw [emptied.pool, heldPoints_vesselSlots, pool, parcels.slot .vessel (by simp), ← Nat.add_assoc]
  simp only [ships]

theorem clearSlots_rest :
    w = { u with
          slots := w.slots, poolFree := w.poolFree, channels := w.channels, parcels := w.parcels
          concurrence := w.concurrence, trail := w.trail, newest := w.newest, writeQueue := w.writeQueue
          inFlight := w.inFlight } := by
  rw [emptied.rest, parcels.rest]

end

/-! ### The rest of the clear leaves the record slots -/

section

variable (ts : List TankId) (s : State)

theorem clearRest_slot (k : RecordSlot) : (clearRest ts s).slot k = s.slot k := by
  rw [clearRest_frame]
  rfl

theorem clearRest_parcel (q : Fin 6) : (clearRest ts s).parcel q = s.parcel q := by
  rw [clearRest_frame]
  rfl

theorem clearRest_channel (m : Fin 4) : (clearRest ts s).channel m = s.channel m := by
  rw [clearRest_frame]
  rfl

theorem clearRest_sameWrites : SameWrites s (clearRest ts s) := by
  constructor <;> rw [clearRest_frame]

end

/-- Settles O36: the ended parcels in slot order, the vessel's slots in their order, then tanks, links, trail, alarm. -/
theorem callClearTaken : Obligations.CallClearTaken := by
  intro l tag s e hr states he first u ended
  have sameEnded : ∀ q, u.ended q ↔ ended q := fun q => by rw [State.ended, takeFrame_parcel]
  have sameRecord : ∀ q, u.parcelRecord q = s.parcelRecord q := fun q => by
    rw [State.parcelRecord, takeFrame_slot]; rfl
  have sameMeter : ∀ q, u.boundMeter q = s.boundMeter q := fun q => by
    simp [u, State.boundMeter, State.boundRecord, State.parcelRecord]
  have entry : u.entry .unit .callClear = some e := by rw [State.entry, takeFrame_concurrence]; exact he
  obtain ⟨v, parcels, emptied⟩ := clearSlots_cleared (removeEntry .unit .callClear u).concurrence u
  have done : exec (.declareCallClear l tag [0, 0]) s = .next (answered l 0x30 tag .done []
      (clearRest u.returningShoreTanks (clearSlots (removeEntry .unit .callClear u)))) :=
    exec_declareCallClear hr (declareUnit_second (fun q => by
      rcases states q with h | h | h <;> simp [allowsCallClear, h]) entry first)
  change SlotsEmptied vesselSlots v (clearSlots (removeEntry .unit .callClear u)) at emptied
  generalize clearSlots (removeEntry .unit .callClear u) = w at done emptied
  have free : ∀ q, (u.parcel q).state = .free ∨ u.ended q := fun q => by
    rw [sameEnded, takeFrame_parcel]; exact states q
  have stands := clearSlots_rest parcels emptied
  refine ⟨clearRest u.returningShoreTanks w, done, fun q => ?_, ?_, fun n => ?_, fun n => ?_, fun m => ?_, ?_, ?_,
    clearRest_shipTank _ _, ?_, fun n => ?_, fun m => ?_, fun x => ?_, ?_, ?_, ?_, ?_, ?_⟩
  · have := parcelsCleared_free parcels free q
    rw [sameEnded, takeFrame_parcel, takeFrame_slot] at this
    rwa [clearRest_parcel, clearRest_slot, emptied.parcel, emptied.parcelSlot]
  · rw [clearRest_slot, clearSlots_slot parcels emptied (by simp), if_pos (by simp [mem_vesselSlots])]
  · rw [clearRest_slot, clearSlots_slot parcels emptied (by simp), if_pos (by simp [mem_vesselSlots])]
  · rw [clearRest_slot, clearSlots_slot parcels emptied (by simp), if_neg (by simp [mem_vesselSlots]), takeFrame_slot]
  · rw [clearRest_slot, clearSlots_slot parcels emptied (by simp), if_neg (by simp [mem_vesselSlots]), takeFrame_slot]
  · rw [clearRest_slot, clearSlots_slot parcels emptied (by simp), if_neg (by simp [mem_vesselSlots]), takeFrame_slot]
  · have pool := clearSlots_pool parcels emptied
    simp only [u, takeFrame_poolFree, takeFrame_slot] at pool
    rw [clearRest_frame]
    exact pool
  · rw [clearRest_frame]
  · have tank : w.tank (.shore n) = s.tank (.shore n) := by
      rw [stands]
      exact takeFrame_tank ..
    have named : .shore n ∈ u.returningShoreTanks ↔
        ∃ q r, ended q ∧ s.parcelRecord q = some r ∧ n ∈ r.shoreTanks := by
      simp only [mem_returningShoreTanks, TankId.shore.injEq, exists_eq_left', sameEnded, sameRecord]
    rw [← named, clearRest_shoreTank, tank]
    by_cases returning : TankId.shore n ∈ u.returningShoreTanks
    · simp [returning]
    · simp [returning]
  · have unbound := parcels.unbound m
    have bound := parcels.bound m
    have channel : w.channel m = v.channel m := by rw [emptied.rest]; rfl
    simp only [mem_allParcels, true_and, sameEnded, sameMeter] at unbound bound
    rw [clearRest_channel, channel]
    split
    next named => rw [bound named]; simp [u]
    next free => rw [unbound free, takeFrame_channel]
  · rw [clearRest_link, stands]
    rfl
  · rw [clearRest_frame]
  · rw [clearRest_alarm]
    refine List.any_eq_false.2 fun q _ => ?_
    simp [emptied.parcel, parcelAlarms_free (parcelsCleared_free parcels free q).1]
  · have trail := (parcels.trail.trans emptied.sameTrail).append (by rw [stands, foldl_appendTrail_clock]) .callClear
    simp only [sameEnded] at trail
    exact trail.trans (clearRest_sameTrail _ _)
  · have writes := (parcels.writes.removals vesselSlots).trans emptied.writes
    simp only [sameEnded] at writes
    exact writes.trans (clearRest_sameWrites _ _)
  · rw [clearRest_frame, stands]

end Sys2Proof.Machine
end

section
/-! The load of the record set (R19, R205): one record at each step. -/

namespace Sys2Proof.Machine

open Sys2Proof

/-! ### A load step, by what the store holds of the record -/

section

variable {s : State} {k : RecordSlot}

theorem loadRecord_missing (copy : storedCopy (.record k) (s.places (.record k)) = none)
    (none_held : holdsCopies (s.places (.record k)) = false) : loadRecord k s = s := by
  simp [loadRecord, copy, none_held]

theorem loadRecord_failing (copy : storedCopy (.record k) (s.places (.record k)) = none)
    (held : holdsCopies (s.places (.record k)) = true) : loadRecord k s = dropRecord k .digestFailed s := by
  simp [loadRecord, copy, held]

variable {first : Bool} {c : StoreCopy} (copy : storedCopy (.record k) (s.places (.record k)) = some (first, c))

include copy

theorem loadRecord_removed (hc : c.content = .removal) : loadRecord k s = s := by
  simp only [loadRecord, copy, hc]

theorem loadRecord_stored {d : Digest} {content : Content} {points : List Breakpoint}
    (hc : c.content = .record d content points) :
    loadRecord k s = tellReloaded k (placeRecord k d content points s) := by
  simp only [loadRecord, copy, hc]

end

theorem tellReloaded_settings (s : State) : tellReloaded .settings s = settingsChanged s := rfl

theorem tellReloaded_other {k : RecordSlot} (h : k ≠ .settings) (s : State) : tellReloaded k s = s := by
  cases k
  case settings => exact absurd rfl h
  all_goals rfl

/-- The settings are the last of the 60 records. -/
theorem slotAt_eq_settings (i : Fin 60) : slotAt i = .settings ↔ i = 59 := slotAt_eq_iff i .settings

theorem tellReloaded_slotAt (i : Fin 60) (s : State) :
    tellReloaded (slotAt i) s = if i = 59 then settingsChanged s else s := by
  by_cases h : i = 59
  · rw [if_pos h, (slotAt_eq_settings i).2 h, tellReloaded_settings]
  · rw [if_neg h, tellReloaded_other (mt (slotAt_eq_settings i).1 h)]

theorem placeRecord_room {k : RecordSlot} {points : List Breakpoint} {s : State} (room : points.length ≤ s.poolFree)
    (d : Digest) (c : Content) :
    placeRecord k d c points s =
      setPoolFree (s.poolFree - points.length)
        (setSlot k { s.slot k with current := some (reloadedVersion d c points), last := .none } s) := if_pos room

theorem placeRecord_full {k : RecordSlot} {points : List Breakpoint} {s : State} (full : s.poolFree < points.length)
    (d : Digest) (c : Content) : placeRecord k d c points s = dropRecord k .poolFull s := if_neg (Nat.not_le.2 full)

/-! ### The steps of the load -/

theorem exec_storeLoadStart {s : State} (starting : s.unit = .starting) (start : s.load = .start) :
    exec .storeLoadStart s = .next (setLoad (.records 0) (appendTrail (.recovery s.resetCause) s)) :=
  congrArg Host.Outcome.next (if_pos (by simp [State.loadsAt, starting, start]))

theorem exec_storeLoadRecord {s : State} (starting : s.unit = .starting) {i : Fin 60} (hi : s.load = .records i) :
    exec .storeLoadRecord s = .next (setLoad (afterRecord i) (loadRecord (slotAt i) s)) := by
  show execStoreLoadRecord s = _
  rw [execStoreLoadRecord, if_pos starting, hi]

/-- Settles O50: each step by what the store holds of its record and by the room in the pool. -/
theorem recordsLoaded : Obligations.RecordsLoaded := by
  refine fun s starting => ⟨exec_storeLoadStart starting, fun i hi => ?_⟩
  intro k v next dropped
  have step := exec_storeLoadRecord starting hi
  refine ⟨fun copy missing => ?_, fun copy held => ?_, fun first c copy => ⟨fun hc => ?_, fun d content points hc =>
    ⟨fun room => ?_, fun full notLast => ?_⟩⟩⟩
  · rw [step, loadRecord_missing copy missing]
    rfl
  · rw [step, loadRecord_failing copy held]
    rfl
  · rw [step, loadRecord_removed copy hc]
    rfl
  · refine ⟨placeRecord k d content points s, ?_, ?_, ?_, ?_⟩
    · rw [placeRecord_room room]
      exact (slotBecomes_setSlot k _ s).congr rfl
    · rw [placeRecord_room room]
      exact Nat.sub_add_cancel room
    · rw [placeRecord_room room]
      rfl
    · rw [step, loadRecord_stored copy hc, tellReloaded_slotAt]
      rfl
  · rw [step, loadRecord_stored copy hc, placeRecord_full full, tellReloaded_slotAt, if_neg notLast]
    rfl

end Sys2Proof.Machine
end

section
/-! What a command can do to the record set, the parcel slots, the store and the alarm line, said once: the parts that the
standing invariants rest on, the operations that leave them, and the moves of a record slot. -/

namespace Sys2Proof.Machine

open Sys2Proof

/-- The parts of the state that the invariants of slots, writer, store and alarm line rest on. -/
structure Standing where
  unit : UnitState
  powered : Bool
  slots : Vector Slot 60
  parcels : Vector Parcel 6
  restored : Vector RestoredItems 6
  alarm : Bool
  intervalTimer : Option Timer
  store : Vector ObjectPlaces 68
  writeQueue : List StoreWrite
  inFlight : Option StoreWrite

/-- The unit's own parts of that kind. -/
def State.standing (s : State) : Standing :=
  { unit := s.unit, powered := s.powered, slots := s.slots, parcels := s.parcels, restored := s.restored
    alarm := s.alarm, intervalTimer := s.intervalTimer, store := s.store, writeQueue := s.writeQueue
    inFlight := s.inFlight }

/-! ### Operations that leave those parts as they stand -/

@[simp] theorem setLink_standing (l : Link) (u : LinkUnit) (s : State) : (setLink l u s).standing = s.standing := by
  simp [State.standing]
@[simp] theorem setTank_standing (x : TankId) (v : Tank) (s : State) : (setTank x v s).standing = s.standing := rfl
@[simp] theorem setChannel_standing (m : Fin 4) (v : Channel) (s : State) :
    (setChannel m v s).standing = s.standing := rfl
@[simp] theorem setAccumulators_standing (m : Fin 4) (a : Option AccumulatorSet) (s : State) :
    (setAccumulators m a s).standing = s.standing := rfl
@[simp] theorem openChannel_standing (p : Fin 6) (m : Fin 4) (s : State) :
    (openChannel p m s).standing = s.standing := rfl
@[simp] theorem setPoolFree_standing (n : Nat) (s : State) : (setPoolFree n s).standing = s.standing := rfl
@[simp] theorem setConcurrence_standing (es : List Concurrence) (s : State) :
    (setConcurrence es s).standing = s.standing := rfl
@[simp] theorem removeEntry_standing (subject : Subject) (kind : DeclKind) (s : State) :
    (removeEntry subject kind s).standing = s.standing := rfl
@[simp] theorem setShipCondition_standing (c : Option ShipCondition) (s : State) :
    (setShipCondition c s).standing = s.standing := rfl
@[simp] theorem setLoad_standing (p : LoadPhase) (s : State) : (setLoad p s).standing = s.standing := rfl
@[simp] theorem setAuditTimer_standing (t : Option Timer) (s : State) :
    (setAuditTimer t s).standing = s.standing := rfl
@[simp] theorem setStopLine_standing (l : Link) (b : Bool) (s : State) :
    (setStopLine l b s).standing = s.standing := by simp [State.standing]
@[simp] theorem appendTrail_standing (b : TrailBody) (s : State) : (appendTrail b s).standing = s.standing := by
  simp [State.standing]
@[simp] theorem silenceTest_standing (l : Link) (s : State) : (silenceTest l s).standing = s.standing := by
  simp [State.standing]
@[simp] theorem settingsChanged_standing (s : State) : (settingsChanged s).standing = s.standing := by
  simp [State.standing]
@[simp] theorem computeTank_standing (x : TankId) (s : State) : (computeTank x s).standing = s.standing := by
  simp [State.standing]
@[simp] theorem computeTanks_standing (xs : List TankId) (s : State) : (computeTanks xs s).standing = s.standing := by
  simp [State.standing]
@[simp] theorem holdTank_standing (x : TankId) (s : State) : (holdTank x s).standing = s.standing := rfl
@[simp] theorem holdTanks_standing (xs : List TankId) (s : State) : (holdTanks xs s).standing = s.standing := by
  simp [State.standing]
@[simp] theorem clearTank_standing (x : TankId) (s : State) : (clearTank x s).standing = s.standing := rfl
@[simp] theorem clearTanks_standing (xs : List TankId) (s : State) : (clearTanks xs s).standing = s.standing := by
  simp [State.standing]
@[simp] theorem announceFree_standing (p : Fin 6) (b : Bool) (s : State) :
    (announceFree p b s).standing = s.standing := by simp [State.standing]
@[simp] theorem clearLinks_standing (s : State) : (clearLinks s).standing = s.standing := by
  rw [clearLinks_frame]; rfl
@[simp] theorem tellSuspect_standing (k : RecordSlot) (s : State) : (tellSuspect k s).standing = s.standing := by
  cases k <;> simp [tellSuspect]
@[simp] theorem tellWithdrawn_standing (k : RecordSlot) (s : State) : (tellWithdrawn k s).standing = s.standing := by
  cases k <;> simp [tellWithdrawn]
@[simp] theorem tellReloaded_standing (k : RecordSlot) (s : State) : (tellReloaded k s).standing = s.standing := by
  cases k <;> simp [tellReloaded]
@[simp] theorem advanceWalk_standing (i : Fin 60) (s : State) : (advanceWalk i s).standing = s.standing := by
  unfold advanceWalk
  split <;> rfl
@[simp] theorem restoreAccumulators_standing (r : ParcelRecord) (a : Option AccumulatorSet) (s : State) :
    (restoreAccumulators r a s).standing = s.standing := by
  unfold restoreAccumulators
  split <;> rfl
@[simp] theorem loadLinkParameters_standing (l : Link) (s : State) :
    (loadLinkParameters l s).standing = s.standing := by
  unfold loadLinkParameters
  repeat' split
  all_goals simp
@[simp] theorem reportStopLine_standing (l : Link) (s : State) : (reportStopLine l s).standing = s.standing := by
  unfold reportStopLine
  split <;> simp
@[simp] theorem startSampleTimers_standing (s : State) : (startSampleTimers s).standing = s.standing := by
  have started : ∀ w m, w.standing = s.standing → (startSampleTimer m w).standing = s.standing := fun w m hw =>
    (setChannel_standing m _ w).trans hw
  exact foldl_keeps (P := fun w => w.standing = s.standing) started allMeters rfl
@[simp] theorem closingSample_standing (m : Fin 4) (s : State) : (closingSample m s).standing = s.standing := by
  unfold closingSample
  repeat' split
  all_goals rfl
@[simp] theorem sampleAtClose_standing (p : Fin 6) (s : State) : (sampleAtClose p s).standing = s.standing := by
  unfold sampleAtClose
  split <;> simp
@[simp] theorem takeSample_standing (m : Fin 4) (s : State) : (takeSample m s).standing = s.standing := by
  unfold takeSample
  split <;> simp
@[simp] theorem faultyFrame_standing (l : Link) (f : FrameFault) (s : State) :
    (faultyFrame l f s).standing = s.standing := by cases f <;> simp [faultyFrame]
@[simp] theorem removeHead_standing (l : Link) (s : State) : (removeHead l s).standing = s.standing :=
  setLink_standing l _ s
@[simp] theorem takeTank_standing (l : Link) (x : TankId) (f : TankFields) (arrival : Clock) (s : State) :
    (takeTank l x f arrival s).standing = s.standing := by
  unfold takeTank
  split <;> simp [keepReading, reportDiscard, updateReport]
@[simp] theorem takeLine_standing (l : Link) (m : Fin 4) (t : Int) (arrival : Clock) (s : State) :
    (takeLine l m t arrival s).standing = s.standing := by
  unfold takeLine
  split <;> simp [reportDiscard, updateReport]
@[simp] theorem setPendingCommands_standing (cs : List Instr) (s : State) :
    (setPendingCommands cs s).standing = s.standing := rfl
@[simp] theorem tickClock_standing (s : State) : (tickClock s).standing = s.standing := by
  unfold tickClock
  split <;> rfl

/-- A set outcome changes the slot alone of those parts. -/
theorem setOutcome_standing (k : RecordSlot) (o : LastOutcome) (s : State) :
    (setOutcome k o s).standing = (setSlot k { s.slot k with last := o } s).standing := by
  cases o <;> simp [setOutcome]

/-- An emptied slot is a slot reset: the accumulator set is none of those parts. -/
theorem emptyParcel_standing (p : Fin 6) (m : Option (Fin 4)) (s : State) :
    (emptyParcel p m s).standing = (setParcel p .reset s).standing := by cases m <;> rfl

theorem parcel_of_standing {s t : State} (h : t.standing = s.standing) (p : Fin 6) : t.parcel p = s.parcel p :=
  congrArg (fun v => v.parcels.get p) h

theorem slot_of_standing {s t : State} (h : t.standing = s.standing) (k : RecordSlot) : t.slot k = s.slot k :=
  congrArg (fun v => v.slots.get (slotIndex k)) h

theorem unit_of_standing {s t : State} (h : t.standing = s.standing) : t.unit = s.unit := congrArg Standing.unit h

/-! ### The moves of a record slot -/

/-- What a record slot can become in one change, for a unit in state `u`: a version comes into it only while the unit is
RUNNING, or from the store with the digest that was endorsed; a PROPOSED version has the content whose digest was
declared (R22 to R44, R205). -/
inductive SlotMove (u : UnitState) (v : Slot) : Slot → Prop
  | outcome (o : LastOutcome) : SlotMove u v { v with last := o }
  | emptied : SlotMove u v .reset
  | currentGone : SlotMove u v { v with current := none }
  | discarded : SlotMove u v { v with current := none, last := .none }
  | pendingGone : SlotMove u v { v with pending := none }
  | proposed (q : PendingVersion) (running : u = .running)
      (complete : q.assembly = none → recordDigest q.content q.points = q.declaredDigest) :
      SlotMove u v { v with pending := some q }
  | entered (q : PendingVersion) (held : v.pending = some q) (complete : q.assembly = none) :
      SlotMove u v { v with current := some (enteredVersion q), pending := none }
  | passed (c : CurrentVersion) (held : v.current = some c) : SlotMove u v { v with current := some (auditPassed c) }
  | suspect (c : CurrentVersion) (held : v.current = some c) (altered : recordDigest c.content c.points ≠ c.digest) :
      SlotMove u v { v with current := some { c with suspect := true } }
  | reloaded (d : Digest) (c : Content) (points : List Breakpoint) (endorsed : recordDigest c points = d) :
      SlotMove u v { v with current := some (reloadedVersion d c points), last := .none }

/-- A slot without a pending version takes none while the unit is not RUNNING. -/
theorem SlotMove.pending_none {u : UnitState} {v w : Slot} (h : SlotMove u v w) (hu : u ≠ .running)
    (hv : v.pending = none) : w.pending = none := by
  cases h
  case proposed q running complete => exact absurd running hu
  all_goals first
    | exact hv
    | rfl

end Sys2Proof.Machine
end

section
/-! The ranges of a parcel slot's counts (R123, R145, R148), and the changes that keep them. -/

namespace Sys2Proof.Machine

open Sys2Proof

/-- The counts of a parcel slot are in their ranges (R123, R145, R148). -/
def ParcelSound (v : Parcel) : Prop :=
  (∀ i, v.comparisons = some i → ItemsSound i) ∧ ∀ n, v.suspensions = some n → n ≤ 65535

theorem CountsSound.parcel {s : State} (h : CountsSound s) (p : Fin 6) : ParcelSound (s.parcel p) := by
  obtain ⟨items, suspensions, -⟩ := h
  exact ⟨items p, suspensions p⟩

theorem count16_le (n : Nat) : count16 n ≤ 65535 := by
  unfold count16
  split <;> omega

/-! ### Fresh slots -/

theorem comparisonSound_fresh : ComparisonSound freshComparison := by
  unfold ComparisonSound
  decide

theorem itemsSound_fresh (r : ParcelRecord) : ItemsSound (freshItems r) := by
  refine ⟨comparisonSound_fresh, fun c hc => ?_, Nat.zero_le _, Nat.zero_le _⟩
  obtain ⟨m, -, rfl⟩ := Option.map_eq_some_iff.1 hc
  exact comparisonSound_fresh

/-- A slot without items and without a suspension count has nothing out of range. -/
theorem parcelSound_blank {v : Parcel} (items : v.comparisons = none) (count : v.suspensions = none) : ParcelSound v := by
  refine ⟨fun i hi => ?_, fun n hn => ?_⟩
  · rw [items] at hi
    cases hi
  · rw [count] at hn
    cases hn

/-- A slot with fresh items and a count of 0. -/
theorem parcelSound_fresh {v : Parcel} {r : ParcelRecord} (items : v.comparisons = some (freshItems r))
    (count : v.suspensions = some 0) : ParcelSound v := by
  refine ⟨fun i hi => ?_, fun n hn => ?_⟩
  · rw [items] at hi
    cases hi
    exact itemsSound_fresh r
  · rw [count] at hn
    cases hn
    exact Nat.zero_le _

/-- Items kept and one suspension counted more (R123). -/
theorem ParcelSound.counted {u v : Parcel} (h : ParcelSound u) {n : Nat} (items : v.comparisons = u.comparisons)
    (count : v.suspensions = some (count16 n)) : ParcelSound v := by
  refine ⟨fun i hi => h.1 i (items ▸ hi), fun m hm => ?_⟩
  rw [count] at hm
  cases hm
  exact count16_le n

/-! ### Evaluations (R145, R148) -/

theorem enterHistory_length {h : List HistoryEntry} (hl : h.length ≤ 10) (e : HistoryEntry) :
    (enterHistory h e).length ≤ 10 := by
  unfold enterHistory
  split
  · simp only [List.length_append, List.length_tail, List.length_singleton]
    omega
  · simp only [List.length_append, List.length_singleton]
    omega

theorem ComparisonSound.counted {c : Comparison} (h : ComparisonSound c) (result : CompResult) :
    ComparisonSound { c with counters := countResult c.counters result } := by
  obtain ⟨history, within, watch, outside, notEvaluated⟩ := h
  have bound := count16_le
  rcases result with (_ | _ | _) | cause
  · exact ⟨history, bound _, watch, outside, notEvaluated⟩
  · exact ⟨history, within, bound _, outside, notEvaluated⟩
  · exact ⟨history, within, watch, bound _, notEvaluated⟩
  · exact ⟨history, within, watch, outside, bound _⟩

theorem ComparisonSound.evaluated {c : Comparison} (h : ComparisonSound c) (r : Option ParcelRecord)
    (inTransfer : Bool) (now : Clock) (o : CompOutcome) :
    ComparisonSound (Machine.evaluated r inTransfer now o c) := by
  obtain ⟨history, counters⟩ := h.counted o.result
  unfold Machine.evaluated
  dsimp only
  split
  · split
    · exact ⟨enterHistory_length history _, counters⟩
    · exact ⟨history, counters⟩
  · exact ⟨history, counters⟩

theorem ItemsSound.evaluated {i : CompItems} (h : ItemsSound i) (s : State) (p : Fin 6) :
    ItemsSound (s.evaluatedItems p i) := by
  obtain ⟨ship, meter, evaluations, degraded⟩ := h
  refine ⟨ship.evaluated _ _ _ _, fun c hc => ?_, count16_le _, ?_⟩
  · obtain ⟨before, hb, rfl⟩ := Option.map_eq_some_iff.1 hc
    exact (meter before hb).evaluated _ _ _ _
  · show (if s.evaluationKind p = .degraded then count16 i.degraded else i.degraded) ≤ 65535
    split
    · exact count16_le _
    · exact degraded

/-- The items a slot evaluates from, its own or fresh ones. -/
theorem ParcelSound.itemsOf {s : State} {p : Fin 6} (h : ParcelSound (s.parcel p)) : ItemsSound (s.itemsOf p) := by
  obtain ⟨items, -⟩ := h
  unfold State.itemsOf
  cases hi : (s.parcel p).comparisons with
  | some i => exact items i hi
  | none =>
    refine ⟨comparisonSound_fresh, fun c hc => ?_, Nat.zero_le _, Nat.zero_le _⟩
    obtain ⟨m, -, rfl⟩ := Option.map_eq_some_iff.1 hc
    exact comparisonSound_fresh

end Sys2Proof.Machine
end

section
/-! Properties that the changes of slots, store and alarm line keep, and with them every operation that is made of those
changes: outcomes, rejections, entries into force, changes of a parcel slot, the clear, evaluations. -/

namespace Sys2Proof.Machine

open Sys2Proof

/-- The property rests on the standing parts and is kept by each move of a record slot, and by each write whose counts are in
range where the unit's own are. -/
structure Closed (P : State → Prop) : Prop where
  same : ∀ {s t : State}, P s → t.standing = s.standing → P t
  slot : ∀ {s : State} {k : RecordSlot} {v : Slot}, P s → SlotMove s.unit (s.slot k) v → P (setSlot k v s)
  write : ∀ {s : State} (o : StoreObject) (c : StoredContent), P s → (CountsSound s → ContentSound c) →
    P (giveWrite o c s)

/-- `P` holds between the commands, and `Q` within a change of parcel slots, up to the setting of the alarm line; the line is
set in a unit state that `G` allows. -/
structure Kept (G : UnitState → Prop) (P Q : State → Prop) : Prop where
  outer : Closed P
  inner : Closed Q
  loosen : ∀ {s : State}, P s → Q s
  running : G .running
  pending : ∀ {s : State} {k : RecordSlot}, P s → (s.slot k).pending ≠ none → G s.unit
  interval : ∀ {s : State}, P s → s.intervalDue = true → G s.unit
  parcel : ∀ {s : State} {p : Fin 6} {v : Parcel}, Q s → (ParcelSound (s.parcel p) → ParcelSound v) → Q (setParcel p v s)
  line : ∀ {s : State}, Q s → G s.unit → P (setAlarm s)
  settle : ∀ {s : State} (p : Fin 6) (t : Option SettleTimer), P s → P (setParcel p { s.parcel p with settle := t } s)
  startInterval : ∀ {s : State}, P s → G s.unit → P (startInterval s)
  bringUp : ∀ {s : State} (p : Fin 6) {v : Parcel}, P s → s.unit ≠ .running → (CountsSound s → ParcelSound v) →
    P (bringUp p v s)
  takeUp : ∀ {s : State}, P s → s.unit = .starting →
    P (setAlarm { takeUpItems s with unit := .running, load := .complete })
  complete : ∀ {s : State}, P s → P (completeWrite s)
  reset : ∀ {s : State} (cause : ResetCause), P s → P (beginReset cause s)
  power : ∀ {s : State} (b : Bool), P s → s.unit = .inactive → P (setPowered b s)
  wake : ∀ {s : State}, P s → s.unit = .inactive → P (setPowered true { s with unit := .starting })

/-! ### Outcomes, removals and checkpoints -/

section

variable {P : State → Prop} (C : Closed P) {s : State}

include C

theorem Closed.setOutcome (h : P s) (k : RecordSlot) (o : LastOutcome) : P (setOutcome k o s) :=
  C.same (C.slot h (.outcome o)) (setOutcome_standing k o s)

theorem Closed.removal (h : P s) (o : StoreObject) : P (giveWrite o .removal s) := C.write o _ h fun _ => trivial

theorem Closed.checkpoint (h : P s) (p : Fin 6) : P (giveCheckpoint p s) := C.write _ _ h fun counts => counts.parcel p

theorem Closed.recordWrite (h : P s) (k : RecordSlot) (v : CurrentVersion) : P (giveRecordWrite k v s) :=
  C.write _ _ h fun _ => trivial

theorem Closed.setPending (h : P s) (k : RecordSlot) {q : PendingVersion} (running : s.unit = .running)
    (complete : q.assembly = none → recordDigest q.content q.points = q.declaredDigest) :
    P (setPending k (some q) s) := C.slot h (.proposed q running complete)

theorem Closed.removeParcelVersions (h : P s) (p : Fin 6) : P (removeParcelVersions p s) := by
  have removed := C.setOutcome (C.slot h (k := .parcel p) .currentGone) (.parcel p) .removed
  simp only [Machine.removeParcelVersions]
  split
  · exact C.setOutcome (C.slot removed .pendingGone) _ _
  · exact removed

theorem Closed.auditStep (h : P s) (k : RecordSlot) : P (auditStep k s) := by
  unfold Machine.auditStep
  split
  · exact h
  next v hv =>
    have current : (s.slot k).current = some v := by
      unfold State.inForce at hv
      grind
    split
    · exact C.slot h (.passed v current)
    next altered => exact C.same (C.setOutcome (C.slot h (.suspect v current altered)) k .suspect) (by simp [markSuspect])

/-! ### The load of the records and of a link (R205) -/

theorem Closed.dropRecord (h : P s) (k : RecordSlot) (r : DropReason) : P (dropRecord k r s) :=
  C.removal (C.same h (appendTrail_standing _ s)) _

theorem Closed.loadRecord (h : P s) (k : RecordSlot) : P (loadRecord k s) := by
  unfold Machine.loadRecord
  dsimp only
  split
  next copy =>
    split
    next d content points hc =>
      have passes := storedCopy_passes copy
      have endorsed : recordDigest content points = d := by
        simp only [copyPasses, contentPasses, hc, Bool.and_eq_true, beq_iff_eq] at passes
        exact passes.2.2
      refine C.same (t := tellReloaded k (placeRecord k d content points s)) ?_ (tellReloaded_standing _ _)
      unfold placeRecord
      split
      · exact C.same (C.slot h (.reloaded d content points endorsed)) rfl
      · exact C.dropRecord h _ _
    · exact h
  · split
    · exact C.dropRecord h _ _
    · exact h

theorem Closed.discardReloaded (h : P s) (p : Fin 6) : P (discardReloaded p s) := by
  simp only [Machine.discardReloaded]
  split
  · exact C.removal (C.slot h .discarded) _
  · exact h

theorem Closed.dropParcel (h : P s) (p : Fin 6) : P (dropParcel p s) :=
  C.discardReloaded (C.removal (C.same h (appendTrail_standing _ s)) _) p

theorem Closed.freeParcel (h : P s) (p : Fin 6) : P (freeParcel p s) :=
  C.removal (C.same h (appendTrail_standing _ s)) _

end

/-! ### Changes of a parcel slot (R111, R112) -/

section

variable {G : UnitState → Prop} {P Q : State → Prop} (K : Kept G P Q) {s : State}

include K

/-- The hand-offs of a change end with the setting of the line. -/
theorem Kept.announce (h : Q s) (p : Fin 6) (d : StateDetail) (hG : G s.unit) : P (announce p d s) :=
  K.line (K.inner.checkpoint (K.inner.same h (by simp [pruneConcurrence])) p) (by simpa [giveCheckpoint, pruneConcurrence])

/-- A slot changed to what has its counts in range, and announced. -/
theorem Kept.change (h : P s) {p : Fin 6} {v : Parcel} (d : StateDetail) (hG : G s.unit)
    (hv : ParcelSound (s.parcel p) → ParcelSound v) : P (Machine.announce p d (setParcel p v s)) :=
  K.announce (K.parcel (K.loosen h) hv) p d hG

/-- An emptied slot, told within its change. -/
theorem Kept.emptyParcel (h : Q s) (p : Fin 6) (m : Option (Fin 4)) : Q (emptyParcel p m s) :=
  K.inner.same (K.parcel h fun _ => parcelSound_blank rfl rfl) (emptyParcel_standing p m s)

theorem Kept.leaveProposed (h : P s) (p : Fin 6) (m : Option (Fin 4)) (b : Bool) (hG : G s.unit) :
    P (leaveProposed p m b s) :=
  K.line (K.inner.removal (K.inner.same (K.emptyParcel (K.loosen h) p m) (announceFree_standing _ _ _)) _)
    (by simpa [removeCheckpoint])

end

end Sys2Proof.Machine
end

section
/-! The operations of the endorsement unit and of the parcel manager against a property that their changes keep. -/

namespace Sys2Proof.Machine

open Sys2Proof

section

variable {G : UnitState → Prop} {P Q : State → Prop} (K : Kept G P Q) {s : State}

include K

/-! ### Endings of a version (R16, R24, R112) -/

theorem Kept.rejectPending (h : P s) (k : RecordSlot) (d : RejectDetail) (b : Bool) : P (rejectPending k d b s) := by
  unfold Machine.rejectPending
  split
  · exact h
  next v held =>
    have hG : G s.unit := K.pending h (k := k) (by rw [held]; exact Option.some_ne_none v)
    have removed : P (setPoolFree (s.poolFree + v.declaredPoints) (setSlot k { s.slot k with pending := none } s)) :=
      K.outer.same (K.outer.slot h .pendingGone) rfl
    have recorded := K.outer.setOutcome removed k (.rejected d)
    dsimp only
    split
    · split
      · exact K.outer.same recorded rfl
      · exact recorded
    · split
      · exact K.outer.same recorded rfl
      · exact recorded
    · split
      · exact K.leaveProposed recorded _ _ _ (by simpa)
      · exact recorded
    · exact recorded

theorem Kept.endParcel (h : P s) (p : Fin 6) (b : Bool) (hG : G s.unit) : P (endParcel p b s) := by
  have unit : (removeParcelVersions p s).unit = s.unit := by
    simp only [removeParcelVersions]
    split <;> simp
  have emptied := K.emptyParcel (K.loosen (K.outer.removeParcelVersions h p)) p (s.boundMeter p)
  have announced : Q (announceFree p b (computeTanks (s.parcelTanks p)
      (Machine.emptyParcel p (s.boundMeter p) (removeParcelVersions p s)))) := K.inner.same emptied (by simp)
  refine K.line (K.inner.removal (K.inner.removal announced _) _) ?_
  simpa [removeCheckpoint, removeRecord, unit]

theorem Kept.withdrawRecord (h : P s) (k : RecordSlot) (hG : G s.unit) : P (withdrawRecord k s) := by
  obtain ⟨p, rfl⟩ | notParcel : (∃ p, k = .parcel p) ∨ ∀ p, k ≠ .parcel p := by
    cases k <;> simp
  · exact K.endParcel h p false hG
  · rw [withdrawRecord_eq notParcel]
    have dropped : P (dropCurrent k s) := K.outer.same (K.outer.slot h .currentGone) rfl
    exact K.outer.same (K.outer.removal (K.outer.setOutcome dropped k .removed) _) (tellWithdrawn_standing k _)

/-! ### Entry into force (R36) -/

theorem Kept.tellEntered (h : P s) (k : RecordSlot) (c : Content) (hG : G s.unit) : P (tellEntered k c s) := by
  unfold Machine.tellEntered
  split
  · exact K.outer.same h (by simp)
  · exact K.outer.same h (by simp)
  · exact K.outer.same h (by simp)
  next p r =>
    split
    · refine K.announce (K.inner.same (K.parcel (K.loosen h) fun _ => ?_) (computeTanks_standing _ _)) p .plain (by simpa)
      exact parcelSound_fresh (r := r) rfl rfl
    · exact K.outer.same h (by simp)
  · exact K.outer.same h (by simp)
  · exact h

theorem Kept.enterForce (h : P s) {k : RecordSlot} {v : PendingVersion} (held : (s.slot k).pending = some v)
    (complete : v.assembly = none) : P (enterForce k v s) := by
  have hG : G s.unit := K.pending h (k := k) (by rw [held]; exact Option.some_ne_none v)
  have superseded : P (supersede k v s) := K.outer.same (K.outer.slot h (.entered v held complete)) rfl
  refine K.tellEntered (K.outer.recordWrite (K.outer.setOutcome superseded k _) k _) k _ ?_
  simpa [giveRecordWrite, supersede]

/-! ### The steps of declarations (R119 to R130) -/

theorem Kept.enterProposed (h : P s) (p : Fin 6) (r : ParcelRecord) (hG : G s.unit) : P (enterProposed p r s) := by
  have proposed : Q (setParcel p { Parcel.reset with state := .proposed } s) :=
    K.parcel (K.loosen h) fun _ => parcelSound_blank rfl rfl
  refine K.announce ?_ p .plain ?_
  · cases r.meter with
    | none => exact proposed
    | some m => exact K.inner.same proposed rfl
  · cases r.meter <;> exact hG

theorem Kept.openParcel (h : P s) (p : Fin 6) (hG : G s.unit) : P (openParcel p s) := by
  unfold Machine.openParcel
  split
  · exact h
  next r _ =>
    have opened : Q (setParcel p (openedParcel (s.openingFigures r) r (s.parcel p)) s) :=
      K.parcel (K.loosen h) fun _ => parcelSound_fresh (r := r) rfl rfl
    refine K.announce ?_ p .plain ?_
    · cases r.meter with
      | none => exact opened
      | some m => exact K.inner.same opened rfl
    · cases r.meter <;> exact hG

theorem Kept.suspendParcel (h : P s) (p : Fin 6) (reason : SuspendReason) (hG : G s.unit) :
    P (suspendParcel p reason s) := K.change h _ hG fun sound => sound.counted rfl rfl

theorem Kept.settleParcel (h : P s) (p : Fin 6) (hG : G s.unit) : P (settleParcel p s) :=
  K.change h _ hG fun sound => sound

theorem Kept.resumeParcel (h : P s) (p : Fin 6) (hG : G s.unit) : P (resumeParcel p s) :=
  K.change h _ hG fun sound => sound

theorem Kept.closeParcel (h : P s) (p : Fin 6) (hG : G s.unit) : P (closeParcel p s) := by
  unfold Machine.closeParcel
  split
  · have sampled := sampleAtClose_standing p s
    refine K.change (K.outer.same h sampled) _ ?_ fun sound => sound
    rwa [unit_of_standing sampled]
  · exact h

theorem Kept.abandonParcel (h : P s) (p : Fin 6) (b : Bool) (hG : G s.unit) : P (abandonParcel p b s) := by
  unfold Machine.abandonParcel
  split
  · exact K.rejectPending h _ _ _
  · exact K.change h _ hG fun sound => sound

/-! ### CALL CLEAR (R131) -/

omit K in
/-- A fold of changes that keep the property and the unit state. -/
theorem foldl_keeps_unit {α : Type} {f : State → α → State} (hf : ∀ w a, Q w → Q (f w a))
    (unit : ∀ w a, (f w a).unit = w.unit) (xs : List α) (h : Q s) : Q (xs.foldl f s) ∧ (xs.foldl f s).unit = s.unit :=
  foldl_keeps (P := fun w => Q w ∧ w.unit = s.unit) (fun w a hw => ⟨hf w a hw.1, (unit w a).trans hw.2⟩) xs ⟨h, rfl⟩

theorem Kept.callClearParcel (h : Q s) (p : Fin 6) : Q (callClearParcel p s) := by
  have removed : Q (callClearParcel.removed p s) :=
    K.inner.removal (K.inner.removal
      (K.inner.same (K.emptyParcel (K.inner.slot h .emptied) p _) (announceFree_standing _ _ _)) _) _
  unfold Machine.callClearParcel
  split
  · exact removed
  · exact removed
  · exact h

omit K in
theorem callClearParcel_unit (p : Fin 6) (s : State) : (callClearParcel p s).unit = s.unit := by
  unfold callClearParcel
  split <;> simp [callClearParcel.removed, removeCheckpoint, removeRecord]

theorem Kept.callClear (h : P s) (hG : G s.unit) : P (callClear s) := by
  obtain ⟨parcels, unit⟩ := foldl_keeps_unit (Q := Q) (s := s) (f := fun w p => Machine.callClearParcel p w)
    (fun w p hw => K.callClearParcel hw p) (fun w p => callClearParcel_unit p w) allParcels (K.loosen h)
  obtain ⟨slots, unit'⟩ := foldl_keeps_unit (Q := Q) (f := fun w k => removeRecord k (emptySlot k w))
    (fun w k hw => K.inner.removal (K.inner.slot (K.inner.same hw (setPoolFree_standing _ w)) .emptied) _)
    (fun w k => giveWrite_unit ..) vesselSlots parcels
  have readings : (clearReadings s.returningShoreTanks (clearSlots s)).standing = (clearSlots s).standing := by
    simp [clearReadings]
  rw [callClear_eq, clearRest_eq]
  refine K.line (K.inner.same slots ?_) ?_
  · rw [setConcurrence_standing, appendTrail_standing, readings]
    rfl
  · rw [setConcurrence_unit, appendTrail_unit, unit_of_standing readings]
    show G (clearSlots s).unit
    rwa [show (clearSlots s).unit = s.unit from unit'.trans unit]

/-! ### Stop lines and evaluations (R133, R136) -/

theorem Kept.stopTransfers (h : P s) (line : Link) (hG : G s.unit) : P (stopTransfers line s) := by
  have suspended : ∀ w p, P w ∧ w.unit = s.unit → P (suspendByLine line p w) ∧ (suspendByLine line p w).unit = s.unit := by
    rintro w p ⟨hw, unit⟩
    unfold suspendByLine
    split
    · exact ⟨K.suspendParcel hw p _ (by rwa [unit]), (announce_unit ..).trans unit⟩
    · exact ⟨hw, unit⟩
  have all := foldl_keeps (P := fun w => P w ∧ w.unit = s.unit) (f := fun w p => suspendByLine line p w)
    suspended allParcels ⟨h, rfl⟩
  exact K.outer.same all.1 (appendTrail_standing _ _)

theorem Kept.evaluateParcel (h : Q s) (p : Fin 6) : Q (evaluateParcel p s) := by
  unfold Machine.evaluateParcel
  split
  · have evaluated : Q (setParcel p { s.parcel p with comparisons := some (s.evaluatedItems p (s.itemsOf p)) } s) :=
      K.parcel h fun sound => ⟨fun i hi => by cases hi; exact sound.itemsOf.evaluated s p, sound.2⟩
    exact K.inner.checkpoint (K.inner.same evaluated (appendTrail_standing _ _)) p
  · exact h

omit K in
theorem evaluateParcel_unit (p : Fin 6) (s : State) : (evaluateParcel p s).unit = s.unit := by
  unfold evaluateParcel
  split <;> simp [giveCheckpoint]

theorem Kept.evaluateAll (h : P s) (hG : G s.unit) :
    P (Machine.startInterval (setAlarm (evaluateParcels allParcels s))) := by
  have all : Q (evaluateParcels allParcels s) ∧ (evaluateParcels allParcels s).unit = s.unit :=
    foldl_keeps_unit (Q := Q) (fun _ p hw => K.evaluateParcel hw p) (fun w p => evaluateParcel_unit p w)
      allParcels (K.loosen h)
  obtain ⟨evaluated, unit⟩ := all
  generalize evaluateParcels allParcels s = w at evaluated unit
  rw [← unit] at hG
  exact K.startInterval (K.line evaluated hG) hG

end

end Sys2Proof.Machine
end

section
/-! Every request against a property that the changes of slots, store and alarm line keep. -/

namespace Sys2Proof.Machine

open Sys2Proof

section

variable {G : UnitState → Prop} {P Q : State → Prop} (K : Kept G P Q) {s : State}

include K

/-! ### The owners of record requests -/

theorem Kept.decideProposal (h : P s) (running : s.unit = .running) (l : Link) (k : RecordSlot) (b : BeginLayout)
    (c : Content) : P (decideProposal l k b c s).1 := by
  unfold Machine.decideProposal
  split
  · exact K.outer.same (K.outer.setPending h k running fun whole => by cases whole) (setPoolFree_standing _ _)
  split
  next equal =>
    have taken : P (setPending k (some (s.newPending l k b c none)) s) :=
      K.outer.setPending h k running fun _ => equal
    show P (takeProposal l k b c s)
    unfold takeProposal
    dsimp only
    split
    · split
      · exact taken
      · exact K.enterProposed taken _ _ (by simpa [setPending, running] using K.running)
    · exact taken
  · show P (setOutcome k (.rejected .digestMismatch) s)
    exact K.outer.setOutcome h k _

theorem Kept.proposeBegin (h : P s) (running : s.unit = .running) (l : Link) (payload : List Byte) :
    P (proposeBeginOwner l payload s).1 := by
  unfold proposeBeginOwner
  split
  · exact h
  · refine onSlot_keeps (P := P) h (fun k => ?_) _
    split
    · exact h
    · split
      · exact h
      · exact K.decideProposal h running l k _ _

theorem Kept.decideSegment (h : P s) (running : s.unit = .running) (l : Link) (k : RecordSlot) (v : PendingVersion)
    (g : SegmentLayout) : P (decideSegment l k v g s).1 := by
  unfold Machine.decideSegment
  split
  · exact K.rejectPending h k _ _
  split
  · exact K.outer.setPending h k running fun whole => by cases whole
  · show P (completeAssembly k v g s)
    unfold completeAssembly
    split
    · exact K.rejectPending h k _ _
    split
    next equal => exact K.outer.setPending h k running fun _ => equal
    · exact K.rejectPending h k _ _

theorem Kept.proposeSegment (h : P s) (running : s.unit = .running) (l : Link) (payload : List Byte) :
    P (proposeSegmentOwner l payload s).1 := by
  unfold proposeSegmentOwner
  split
  · exact h
  · refine onSlot_keeps (P := P) h (fun k => ?_) _
    split
    · exact h
    split
    · exact h
    · exact K.decideSegment h running l k _ _
    · exact h

theorem Kept.endorse (h : P s) (l : Link) (payload : List Byte) : P (endorseOwner l payload s).1 := by
  unfold endorseOwner
  split
  · exact h
  · refine onSlot_keeps (P := P) h (fun k => ?_) _
    split
    · exact h
    next refusal =>
      rw [State.endorseRefusal, firstRefusal_eq_none] at refusal
      obtain ⟨v, held, complete⟩ := hasProposed_iff.1 (refusal (s.hasProposed k, .state) (by simp))
      show P (compareEndorsement k _ s)
      simp only [compareEndorsement, held]
      split
      · exact K.enterForce h held complete
      · exact K.rejectPending h k _ _

theorem Kept.decline (h : P s) (l : Link) (payload : List Byte) : P (declineOwner l payload s).1 := by
  refine onSlot_keeps (P := P) h (fun k => ?_) _
  split
  · exact h
  · exact K.rejectPending h k _ _

theorem Kept.withdrawPending (h : P s) (l : Link) (payload : List Byte) : P (withdrawPendingOwner l payload s).1 := by
  refine onSlot_keeps (P := P) h (fun k => ?_) _
  split
  · exact h
  · exact K.rejectPending h k _ _

theorem Kept.withdrawCurrent (h : P s) (running : s.unit = .running) (l : Link) (payload : List Byte) :
    P (withdrawCurrentOwner l payload s).1 := by
  refine onSlot_keeps (P := P) h (fun k => ?_) _
  split
  · exact h
  · exact K.withdrawRecord h k (running ▸ K.running)

/-! ### The owners of parcel and link requests -/

/-- A declaration keeps what its step keeps in a RUNNING unit. -/
theorem Kept.declare (h : P s) (running : s.unit = .running) {kind : DeclKind} {l : Link} {payload : List Byte}
    {met : State → Fin 6 → Bool} {step : Fin 6 → Bool → State → State}
    (hstep : ∀ {w : State} p b, P w → G w.unit → P (step p b w)) : P (declareParcel kind l payload met step s).1 := by
  have table : ∀ es, P (setConcurrence es s) := fun es => K.outer.same h rfl
  exact declareParcel_keeps h table fun p b es => hstep p b (table es) (running ▸ K.running)

theorem Kept.declareUnit (h : P s) (running : s.unit = .running) (l : Link) (payload : List Byte) :
    P (declareUnit l payload s).1 := by
  have table : ∀ es, P (setConcurrence es s) := fun es => K.outer.same h rfl
  exact declareUnit_keeps h table fun es => K.callClear (table es) (running ▸ K.running)

theorem Kept.suspend (h : P s) (running : s.unit = .running) (l : Link) (payload : List Byte) :
    P (suspendOwner l payload s).1 := by
  refine onParcel_keeps (P := P) h (fun p => ?_) _
  split
  · exact K.suspendParcel h p _ (running ▸ K.running)
  · exact h

theorem Kept.transferEnd (h : P s) (running : s.unit = .running) (payload : List Byte) :
    P (transferEndOwner payload s).1 := by
  refine onParcel_keeps (P := P) h (fun p => ?_) _
  split
  · exact K.settleParcel h p (running ▸ K.running)
  · exact h

theorem Kept.setLinkParameters (h : P s) (l : Link) (payload : List Byte) : P (setLinkParametersOwner l payload s).1 := by
  unfold setLinkParametersOwner
  split
  · exact h
  · split
    · exact K.outer.write _ _ (K.outer.same h (setLink_standing _ _ _)) fun _ => trivial
    · exact h

end

/-! ### Owners that change links alone -/

theorem status_standing (payload : List Byte) (s : State) : (statusOwner payload s).1.standing = s.standing := by
  unfold statusOwner
  split <;> rfl

theorem counterReset_standing (l : Link) (payload : List Byte) (s : State) :
    (counterResetOwner l payload s).1.standing = s.standing := by
  unfold counterResetOwner
  split <;> simp [refuseWith]

theorem postReadings_standing (l : Link) (payload : List Byte) (s : State) :
    (postReadingsOwner l payload s).1.standing = s.standing := by
  unfold postReadingsOwner
  repeat' split
  all_goals simp [refuseWith, queueReadings]

theorem hold_standing (l : Link) (payload : List Byte) (s : State) :
    (holdOwner l payload s).1.standing = s.standing := by
  unfold holdOwner
  split <;> simp [refuseWith]

theorem releaseHold_standing (l : Link) (payload : List Byte) (s : State) :
    (releaseHoldOwner l payload s).1.standing = s.standing := by
  unfold releaseHoldOwner
  repeat' split
  all_goals simp [refuseWith, dropHold]

/-! ### The reads -/

theorem readRecordState_same (l : Link) (payload : List Byte) (s : State) :
    (readRecordStateOwner l payload s).1 = s :=
  onSlot_keeps (P := fun w => w = s) rfl (fun _ => rfl) _

theorem readTank_same (l : Link) (payload : List Byte) (s : State) : (readTankOwner l payload s).1 = s := by
  unfold readTankOwner
  repeat' split
  all_goals rfl

theorem readParcel_same (l : Link) (part : Fin 7) (payload : List Byte) (s : State) :
    (readParcelOwner l part payload s).1 = s :=
  onParcel_keeps (P := fun w => w = s) rfl (fun _ => rfl) payload

theorem readFinal_same (part : Fin 4) (payload : List Byte) (s : State) : (readFinalOwner part payload s).1 = s := by
  refine onParcel_keeps (P := fun w => w = s) rfl (fun p => ?_) payload
  repeat' split
  all_goals rfl

theorem readTrail_same (payload : List Byte) (s : State) : (readTrailOwner payload s).1 = s := by
  unfold readTrailOwner
  repeat' split
  all_goals rfl

/-! ### The requests -/

section

variable {G : UnitState → Prop} {P Q : State → Prop} (K : Kept G P Q) {s : State}

include K

theorem Kept.request (h : P s) {owner : State → State × Reply} {ready : Readiness}
    (howner : ∀ {w : State}, P w → (ready = .whenRunning → w.unit = .running) → P (owner w).1) (l : Link)
    (code tag : Byte) (payload : List Byte) (counted : Bool) :
    NextIs P (.next (takeRequest l code tag payload counted ready owner s)) :=
  (nextIs_next P _).2 (takeRequest_keeps (P := P) (fun _ _ _ hw => K.outer.same hw (setLink_standing _ _ _))
    (fun _ _ hw => K.outer.same hw (appendTrail_standing _ _)) (fun _ running hw => howner hw running) l code tag payload
    counted h)

/-- A request whose owner leaves the standing parts. -/
theorem Kept.request_same (h : P s) {owner : State → State × Reply} {ready : Readiness}
    (howner : ∀ w, (owner w).1.standing = w.standing) (l : Link) (code tag : Byte) (payload : List Byte)
    (counted : Bool) : NextIs P (.next (takeRequest l code tag payload counted ready owner s)) :=
  K.request h (fun hw _ => K.outer.same hw (howner _)) l code tag payload counted

theorem Kept.exec_request (h : P s) {c : Instr} {r : Request} (hc : requestOf c = some r) : NextIs P (exec c s) := by
  have read : ∀ {owner : State → State × Reply}, (∀ w, (owner w).1 = w) → ∀ w, (owner w).1.standing = w.standing :=
    fun same w => congrArg State.standing (same w)
  cases c
  case status l tag payload => exact K.request_same h (status_standing payload) l _ tag payload _
  case counterReset l tag payload => exact K.request_same h (counterReset_standing l payload) l _ tag payload _
  case setLinkParameters l tag payload =>
    exact K.request h (fun hw _ => K.setLinkParameters hw l payload) l _ tag payload _
  case postReadings l tag payload => exact K.request_same h (postReadings_standing l payload) l _ tag payload _
  case proposeBegin l tag payload =>
    exact K.request h (fun hw running => K.proposeBegin hw (running rfl) l payload) l _ tag payload _
  case proposeSegment l tag payload =>
    exact K.request h (fun hw running => K.proposeSegment hw (running rfl) l payload) l _ tag payload _
  case endorse l tag payload => exact K.request h (fun hw _ => K.endorse hw l payload) l _ tag payload _
  case decline l tag payload => exact K.request h (fun hw _ => K.decline hw l payload) l _ tag payload _
  case withdrawPending l tag payload =>
    exact K.request h (fun hw _ => K.withdrawPending hw l payload) l _ tag payload _
  case withdrawCurrent l tag payload =>
    exact K.request h (fun hw running => K.withdrawCurrent hw (running rfl) l payload) l _ tag payload _
  case readRecordState l tag payload =>
    exact K.request_same h (read (readRecordState_same l payload)) l _ tag payload _
  case declareOpen l tag payload =>
    exact K.request h (fun hw running =>
      K.declare hw (running rfl) fun p _ hv hG => K.openParcel hv p hG) l _ tag payload _
  case declareResume l tag payload =>
    exact K.request h (fun hw running =>
      K.declare hw (running rfl) fun p _ hv hG => K.resumeParcel hv p hG) l _ tag payload _
  case declareClose l tag payload =>
    exact K.request h (fun hw running =>
      K.declare hw (running rfl) fun p _ hv hG => K.closeParcel hv p hG) l _ tag payload _
  case declareAbandon l tag payload =>
    exact K.request h (fun hw running =>
      K.declare hw (running rfl) fun p b hv hG => K.abandonParcel hv p b hG) l _ tag payload _
  case declareRelease l tag payload =>
    exact K.request h (fun hw running =>
      K.declare hw (running rfl) fun p b hv hG => K.endParcel hv p b hG) l _ tag payload _
  case declareCallClear l tag payload =>
    exact K.request h (fun hw running => K.declareUnit hw (running rfl) l payload) l _ tag payload _
  case suspend l tag payload =>
    exact K.request h (fun hw running => K.suspend hw (running rfl) l payload) l _ tag payload _
  case transferEnd l tag payload =>
    exact K.request h (fun hw running => K.transferEnd hw (running rfl) payload) l _ tag payload _
  case readTank l tag payload => exact K.request_same h (read (readTank_same l payload)) l _ tag payload _
  case readParcel l part tag payload =>
    exact K.request_same h (read (readParcel_same l part payload)) l _ tag payload _
  case readFinal l part tag payload => exact K.request_same h (read (readFinal_same part payload)) l _ tag payload _
  case readTrail l tag payload => exact K.request_same h (read (readTrail_same payload)) l _ tag payload _
  case hold l tag payload => exact K.request_same h (hold_standing l payload) l _ tag payload _
  case releaseHold l tag payload => exact K.request_same h (releaseHold_standing l payload) l _ tag payload _
  case unknownRequest l code selector tag payload =>
    simp only [exec, execUnknownRequest]
    split
    · exact (nextIs_next _ _).2 h
    · exact K.request_same h (fun _ => rfl) l code tag payload _
  all_goals cases hc

end

end Sys2Proof.Machine
end

section
/-! The store load, the events and so every step, against a property that the changes of slots, store and alarm line keep. -/

namespace Sys2Proof.Machine

open Sys2Proof

/-! ### What the load finds in the store (R197, R206) -/

/-- The stored copy is the copy of one of the two places. -/
theorem storedCopy_place {o : StoreObject} {v : ObjectPlaces} {first : Bool} {c : StoreCopy}
    (h : storedCopy o v = some (first, c)) : v.first = .copy c ∨ v.second = .copy c := by
  have copied : ∀ {x : Place} {d}, passingCopy o x = some d → x = .copy d := fun {x d} hx => by
    unfold passingCopy at hx
    grind
  unfold storedCopy at h
  grind

/-- The counts of a checkpoint found in a sound store are in their ranges. -/
theorem CountsSound.foundCheckpoint {s : State} (h : CountsSound s) {p : Fin 6} {c : Checkpoint}
    (found : s.foundCheckpoint p = .passes c) :
    (∀ i, c.comparisons = some i → ItemsSound i) ∧ ∀ n, c.suspensions = some n → n ≤ 65535 := by
  obtain ⟨-, -, -, -, -, -, places⟩ := h
  obtain ⟨first, second⟩ := places (.checkpoint p)
  simp only [State.foundCheckpoint] at found
  split at found
  next copy =>
    split at found
    next stored =>
      cases found
      obtain e | e := storedCopy_place copy
      · rw [e, PlaceSound, stored] at first
        exact first
      · rw [e, PlaceSound, stored] at second
        exact second
    next => cases found
  next => split at found <;> cases found

/-- What the load's step for a parcel slot can come to, and the checkpoint it takes the slot from (R206, R207). -/
theorem loadCheckpoint_takes (p : Fin 6) (s : State) :
    loadCheckpoint p s = s ∨ loadCheckpoint p s = dropParcel p s ∨ loadCheckpoint p s = freeParcel p s
      ∨ (∃ r, loadCheckpoint p s = restoreDefined p r s)
      ∨ ∃ r c, s.foundCheckpoint p = .passes c
        ∧ (loadCheckpoint p s = restoreSuspended p r c s ∨ loadCheckpoint p s = restoreAsStored p r c s) := by
  unfold loadCheckpoint restoreParcel restoreWithoutRecord
  repeat' split
  all_goals grind

/-! ### The load of a parcel slot -/

section

variable {G : UnitState → Prop} {P Q : State → Prop} (K : Kept G P Q) {s : State}

include K

theorem Kept.announceRestored (h : P s) (p : Fin 6) (d : StateDetail) : P (announceRestored p d s) := by
  refine K.outer.write _ _ (K.outer.same h (appendTrail_standing _ s)) fun counts => ?_
  obtain ⟨-, suspensions, items, -⟩ := counts
  exact ⟨items p, suspensions p⟩

theorem Kept.loadCheckpoint (h : P s) (p : Fin 6) (loading : s.unit ≠ .running) : P (loadCheckpoint p s) := by
  obtain e | e | e | ⟨r, e⟩ | ⟨r, c, found, e | e⟩ := loadCheckpoint_takes p s <;> rw [e]
  · exact h
  · exact K.outer.dropParcel h p
  · exact K.outer.freeParcel h p
  · have defined := K.bringUp p (v := definedParcel r) h loading fun _ => parcelSound_fresh (r := r) rfl rfl
    exact K.announceRestored (K.outer.same defined (restoreAccumulators_standing _ _ _)) p _
  · refine K.announceRestored (K.outer.same (K.bringUp p h loading fun counts => ?_)
      (restoreAccumulators_standing _ _ _)) p _
    exact ParcelSound.counted (u := checkpointedParcel c c.state c.reason c.suspensions) (counts.foundCheckpoint found)
      rfl rfl
  · have stored := K.bringUp p (v := checkpointedParcel c c.state c.reason c.suspensions) h loading fun counts =>
      counts.foundCheckpoint found
    exact K.outer.same stored (restoreAccumulators_standing _ _ _)

theorem Kept.completeLoad (h : P s) (starting : s.unit = .starting) : P (completeLoad s) := by
  have timed := K.startInterval (K.takeUp h starting) K.running
  refine K.outer.same timed ?_
  simp only [Machine.completeLoad, reportStopLine_standing, startSampleTimers_standing]
  rfl

/-! ### The commands of the load -/

theorem Kept.storeLoadRecord (h : P s) : NextIs P (execStoreLoadRecord s) := by
  unfold execStoreLoadRecord
  repeat' split
  all_goals rw [nextIs_next]
  · exact K.outer.same (K.outer.loadRecord h _) (setLoad_standing _ _)
  · exact h
  · exact h

theorem Kept.storeLoadLinkParameters (h : P s) : NextIs P (execStoreLoadLinkParameters s) := by
  unfold execStoreLoadLinkParameters
  repeat' split
  all_goals rw [nextIs_next]
  · exact K.outer.same h (by simp)
  · exact h
  · exact h

theorem Kept.storeLoadCheckpoint (h : P s) : NextIs P (execStoreLoadCheckpoint s) := by
  unfold execStoreLoadCheckpoint
  split
  next starting =>
    split
    next p _ =>
      rw [nextIs_next]
      have loaded := K.loadCheckpoint h p (by rw [starting]; exact UnitState.noConfusion)
      unfold afterCheckpoint
      split
      · exact K.outer.same loaded (setLoad_standing _ _)
      · exact K.completeLoad loaded (by rw [loadCheckpoint_unit, starting])
    next => rw [nextIs_next]; exact h
  next => rw [nextIs_next]; exact h

/-! ### Events -/

end

/-- The outcome leaves the standing parts of `s`. -/
def StandsAfter (s : State) : Host.Outcome State Fault Refusal → Prop := NextIs fun t => t.standing = s.standing

theorem standsAfter_next {s t : State} : StandsAfter s (.next t) ↔ t.standing = s.standing := nextIs_next _ t

section

variable (l : Link) (s : State)

theorem execDamagedFrame_standing (f : FrameFault) : StandsAfter s (execDamagedFrame l f s) := by
  unfold execDamagedFrame
  split <;> simp [standsAfter_next]

theorem execOverrun_standing : StandsAfter s (execOverrun l s) := by
  unfold execOverrun
  split <;> simp [standsAfter_next, overrunFrame]

theorem execIdleGapInFrame_standing : StandsAfter s (execIdleGapInFrame l s) := by
  unfold execIdleGapInFrame
  repeat' split
  all_goals simp [standsAfter_next, endDiscarding]

theorem execIdleGap_standing : StandsAfter s (execIdleGap l s) := by
  unfold execIdleGap
  split <;> simp [standsAfter_next, endDiscarding]

theorem execResponseSend_standing : StandsAfter s (execResponseSend l s) := by
  unfold execResponseSend
  split <;> simp [standsAfter_next]

theorem execResponseSent_standing : StandsAfter s (execResponseSent l s) := by
  unfold execResponseSent
  split <;> simp [standsAfter_next]

theorem execHoldTimerExpiry_standing : StandsAfter s (execHoldTimerExpiry l s) := by
  unfold execHoldTimerExpiry
  split <;> simp [standsAfter_next, updateReport, dropHold]

theorem execSilenceTimeout_standing : StandsAfter s (execSilenceTimeout l s) := by
  unfold execSilenceTimeout
  split <;> simp [standsAfter_next]

theorem execTakeTankReading_standing : StandsAfter s (execTakeTankReading s) := by
  unfold execTakeTankReading
  repeat' split
  all_goals simp [standsAfter_next]

theorem execTakeShipCondition_standing : StandsAfter s (execTakeShipCondition s) := by
  unfold execTakeShipCondition
  repeat' split
  all_goals simp [standsAfter_next, takeCondition]

theorem execTakeLineConditions_standing : StandsAfter s (execTakeLineConditions s) := by
  unfold execTakeLineConditions
  repeat' split
  all_goals simp [standsAfter_next]

theorem execDeclarationLapse_standing (subject : Subject) (kind : DeclKind) :
    StandsAfter s (execDeclarationLapse subject kind s) := by
  unfold execDeclarationLapse
  split <;> simp [standsAfter_next]

theorem execMeterPulse_standing (m : Fin 4) : StandsAfter s (execMeterPulse m s) := by
  unfold execMeterPulse
  split <;> simp [standsAfter_next]

theorem execStopLineCleared_standing : StandsAfter s (execStopLineCleared l s) := by
  unfold execStopLineCleared
  repeat' split
  all_goals simp [standsAfter_next]

end

section

variable {G : UnitState → Prop} {P Q : State → Prop} (K : Kept G P Q) {s : State}

include K

/-- An event that leaves the standing parts. -/
theorem Kept.stands (h : P s) {o : Host.Outcome State Fault Refusal} (ho : StandsAfter s o) : NextIs P o :=
  fun t ht => K.outer.same h (ho t ht)

theorem Kept.stopLineAsserted (h : P s) (l : Link) : NextIs P (execStopLineAsserted l s) := by
  unfold execStopLineAsserted
  split <;> rw [nextIs_next]
  · exact h
  · have set := K.outer.same h (setStopLine_standing l true s)
    split
    next running =>
      refine K.stopTransfers set l ?_
      rw [setStopLine_unit, running]
      exact K.running
    next => exact set

theorem Kept.exec_event (h : P s) {c : Instr} (hc : requestOf c = none) : NextIs P (exec c s) := by
  cases c
  case damagedFrame l f => exact K.stands h (execDamagedFrame_standing l s f)
  case overrun l => exact K.stands h (execOverrun_standing l s)
  case idleGapInFrame l => exact K.stands h (execIdleGapInFrame_standing l s)
  case idleGap l => exact K.stands h (execIdleGap_standing l s)
  case responseSend l => exact K.stands h (execResponseSend_standing l s)
  case responseSent l => exact K.stands h (execResponseSent_standing l s)
  case holdTimerExpiry l => exact K.stands h (execHoldTimerExpiry_standing l s)
  case silenceTimeout l => exact K.stands h (execSilenceTimeout_standing l s)
  case takeTankReading => exact K.stands h (execTakeTankReading_standing s)
  case takeShipCondition => exact K.stands h (execTakeShipCondition_standing s)
  case takeLineConditions => exact K.stands h (execTakeLineConditions_standing s)
  case declarationLapse subject kind => exact K.stands h (execDeclarationLapse_standing s subject kind)
  case meterPulse m => exact K.stands h (execMeterPulse_standing s m)
  case stopLineAsserted l => exact K.stopLineAsserted h l
  case stopLineCleared l => exact K.stands h (execStopLineCleared_standing l s)
  case assemblyTimeout k =>
    refine (nextIs_next _ _).2 ?_
    split
    · exact K.rejectPending h k _ _
    · exact h
  case auditTimerExpiry =>
    refine (nextIs_next _ _).2 ?_
    split
    · exact K.outer.same (K.outer.auditStep (K.outer.same h (setAuditTimer_standing none s)) .vessel) (by simp)
    · exact h
  case auditWalkStep =>
    refine (nextIs_next _ _).2 ?_
    split
    next i _ => exact K.outer.same (K.outer.auditStep h (slotAt i)) (by simp)
    next => exact h
  case sampleTimerExpiry m =>
    refine (nextIs_next _ _).2 ?_
    split
    · exact K.outer.same h ((setChannel_standing _ _ _).trans (takeSample_standing m s))
    · exact h
  case intervalTimerExpiry =>
    refine (nextIs_next _ _).2 ?_
    split
    next due => exact K.evaluateAll h (K.interval h due)
    next => exact h
  case settleTimerExpiry p =>
    simp only [exec, execSettleTimerExpiry]
    split <;> rw [nextIs_next]
    · exact K.settle p _ h
    · exact h
  case fullResetBegin cause =>
    refine (nextIs_next _ _).2 ?_
    split
    next inactive => exact K.power _ h inactive
    next => exact K.reset cause h
  case fullResetEnd =>
    refine (nextIs_next _ _).2 ?_
    split
    next inactive => exact K.wake h inactive
    next => exact h
  case storeLoadStart =>
    refine (nextIs_next _ _).2 ?_
    split
    · exact K.outer.same h (by simp)
    · exact h
  case storeLoadRecord => exact K.storeLoadRecord h
  case storeLoadLinkParameters => exact K.storeLoadLinkParameters h
  case storeLoadCheckpoint => exact K.storeLoadCheckpoint h
  case storeWriteComplete => exact (nextIs_next _ _).2 (K.complete h)
  case unknownRequest l code selector tag payload =>
    simp only [requestOf] at hc
    simp only [exec, execUnknownRequest]
    split at hc
    next defined => rw [if_pos defined, nextIs_next]; exact h
    next => cases hc
  all_goals cases hc

/-- What its changes keep, every step keeps. -/
theorem Kept.step (h : P s) {t : State} (ht : step s = .next t) : P t := by
  refine step_keeps (fun c w hw => ?_) (fun cs w hw => K.outer.same hw (setPendingCommands_standing cs w))
    (fun w hw => K.outer.same hw (tickClock_standing w)) h ht
  cases hc : requestOf c with
  | some r => exact K.exec_request hw hc
  | none => exact K.exec_event hw hc

end

end Sys2Proof.Machine
end

section
/-! The invariants of the record set, of the counts and of the alarm line, as properties that the changes keep. -/

namespace Sys2Proof.Machine

open Sys2Proof

/-! ### Digests (R22, R27, R29, R36, R44) -/

/-- What DigestsHold says of one slot. -/
def SlotTrue (v : Slot) : Prop :=
  (∀ c, v.current = some c → c.suspect = false ∧ recordDigest c.content c.points = c.digest)
    ∧ ∀ q, v.pending = some q → q.assembly = none → recordDigest q.content q.points = q.declaredDigest

theorem digestsHold_iff {s : State} : DigestsHold s ↔ ∀ k, SlotTrue (s.slot k) :=
  ⟨fun ⟨current, pending⟩ k => ⟨current k, pending k⟩, fun h => ⟨fun k => (h k).1, fun k => (h k).2⟩⟩

theorem DigestsHold.slot {s : State} (h : DigestsHold s) (k : RecordSlot) : SlotTrue (s.slot k) := digestsHold_iff.1 h k

theorem DigestsHold.congr {s t : State} (h : DigestsHold s) (e : t.slots = s.slots) : DigestsHold t := by
  unfold DigestsHold State.slot at h ⊢
  rwa [e]

/-- No move brings in a version whose digest is not its own, and none makes a version with its digest SUSPECT. -/
theorem SlotMove.slotTrue {u : UnitState} {v w : Slot} (h : SlotMove u v w) (hv : SlotTrue v) : SlotTrue w := by
  obtain ⟨current, pending⟩ := hv
  cases h with
  | outcome o => exact ⟨current, pending⟩
  | emptied => exact ⟨(fun c hc => nomatch hc), fun q hq => nomatch hq⟩
  | currentGone => exact ⟨(fun c hc => nomatch hc), pending⟩
  | discarded => exact ⟨(fun c hc => nomatch hc), pending⟩
  | pendingGone => exact ⟨current, fun q hq => nomatch hq⟩
  | proposed q running complete =>
    refine ⟨current, fun r hr => ?_⟩
    cases hr
    exact complete
  | entered q held complete =>
    refine ⟨fun c hc => ?_, fun r hr => by cases hr⟩
    cases hc
    exact ⟨rfl, pending q held complete⟩
  | passed c held =>
    refine ⟨fun d hd => ?_, pending⟩
    cases hd
    exact current c held
  | suspect c held altered => exact absurd (current c held).2 altered
  | reloaded d c points endorsed =>
    refine ⟨fun e he => ?_, pending⟩
    cases he
    exact ⟨rfl, endorsed⟩

theorem digestsHold_closed : Closed DigestsHold where
  same h e := h.congr (congrArg Standing.slots e)
  slot {s k v} h move := by
    refine digestsHold_iff.2 fun j => ?_
    rw [setSlot_slot]
    split
    next e => exact move.slotTrue (h.slot k)
    next => exact h.slot j
  write _ _ h _ := h.congr (giveWrite_slots _ _ _)

theorem completeWrite_slots (s : State) : (completeWrite s).slots = s.slots :=
  congrArg (fun a => a.2.2.1) (completeWrite_account s)

/-- The digests rest on the record slots alone, so nothing but a move of a slot matters. -/
theorem digestsHold_kept : Kept (fun _ => True) DigestsHold DigestsHold where
  outer := digestsHold_closed
  inner := digestsHold_closed
  loosen h := h
  running := trivial
  pending _ _ := trivial
  interval _ _ := trivial
  parcel h _ := h.congr rfl
  line h _ := h.congr rfl
  settle _ _ h := h.congr rfl
  startInterval h _ := h.congr rfl
  bringUp _ _ h _ _ := h.congr rfl
  takeUp h _ := h.congr rfl
  complete h := h.congr (completeWrite_slots _)
  reset _ _ := digestsHold_reset.congr rfl
  power _ h _ := h.congr rfl
  wake h _ := h.congr rfl

/-- Settles O58: no move of a slot loses a digest. -/
theorem digestsStayTrue : Obligations.DigestsStayTrue := fun _ _ hs h => digestsHold_kept.step hs h

end Sys2Proof.Machine
end

section
/-! The counts of slots, writer and store in their ranges, and the alarm line at its condition, along every step (R44, R123,
R145, R148, R152, R196, R203). -/

namespace Sys2Proof.Machine

open Sys2Proof

/-! ### The writes that wait (R200, R202) -/

/-- The writer takes no write that was not in flight or waiting. -/
theorem startWrite_writes {s : State} {w : StoreWrite} :
    w ∈ (startWrite s).writeQueue ∨ (startWrite s).inFlight = some w ↔ w ∈ s.writeQueue ∨ s.inFlight = some w := by
  unfold startWrite
  split
  next idle queued => simp [idle, queued, or_comm, eq_comm]
  next => rfl

/-- A write given is the only one that joins those in flight or waiting. -/
theorem giveWrite_writes {s : State} {o : StoreObject} {c : StoredContent} {w : StoreWrite}
    (h : w ∈ (giveWrite o c s).writeQueue ∨ (giveWrite o c s).inFlight = some w) :
    (w ∈ s.writeQueue ∨ s.inFlight = some w) ∨ w = { object := o, content := c } := by
  obtain queued | flight := startWrite_writes.1 h
  · obtain kept | new := List.mem_append.1 queued
    · exact .inl (.inl (List.mem_filter.1 kept).1)
    · exact .inr (List.mem_singleton.1 new)
  · exact .inl (.inr flight)

/-- The counts of every write in flight or waiting are in range. -/
def WritesSound (s : State) : Prop := ∀ w, w ∈ s.writeQueue ∨ s.inFlight = some w → ContentSound w.content

/-- The counts of every copy in the store are in range. -/
def StoreSound (s : State) : Prop := ∀ o, PlaceSound (s.places o).first ∧ PlaceSound (s.places o).second

/-- The audit counts are in range (R44). -/
def AuditSound (v : Slot) : Prop := ∀ c, v.current = some c → c.auditCount ≤ 65535

/-- The invariant part by part. -/
theorem countsSound_iff {s : State} :
    CountsSound s ↔ (∀ p, ParcelSound (s.parcel p)) ∧ (∀ p i, (s.restoredItems p).comparisons = some i → ItemsSound i)
      ∧ (∀ k, AuditSound (s.slot k)) ∧ WritesSound s ∧ StoreSound s := by
  constructor
  · rintro ⟨items, suspensions, restored, audits, queued, flight, store⟩
    exact ⟨fun p => ⟨items p, suspensions p⟩, restored, audits, fun w hw => hw.elim (queued w) (flight w), store⟩
  · rintro ⟨parcels, restored, audits, writes, store⟩
    exact ⟨fun p => (parcels p).1, fun p => (parcels p).2, restored, audits, fun w hw => writes w (.inl hw),
      fun w hw => writes w (.inr hw), store⟩

theorem CountsSound.congr {s t : State} (h : CountsSound s) (e : t.standing = s.standing) : CountsSound t := by
  simp only [State.standing, Standing.mk.injEq] at e
  obtain ⟨-, -, slots, parcels, restored, -, -, store, queue, flight⟩ := e
  unfold CountsSound State.parcel State.restoredItems State.slot State.places at h ⊢
  rwa [slots, parcels, restored, store, queue, flight]

/-- An audit count rises no higher than 65,535, and a version comes into force with 0. -/
theorem SlotMove.auditSound {u : UnitState} {v w : Slot} (h : SlotMove u v w) (hv : AuditSound v) : AuditSound w := by
  intro d hd
  cases h with
  | outcome o => exact hv d hd
  | emptied => cases hd
  | currentGone => cases hd
  | discarded => cases hd
  | pendingGone => exact hv d hd
  | proposed q running complete => exact hv d hd
  | entered q held complete => cases hd; exact Nat.zero_le _
  | passed c held => cases hd; exact count16_le _
  | suspect c held altered => cases hd; exact hv c held
  | reloaded d c points endorsed => cases hd; exact Nat.zero_le _

theorem CountsSound.setParcel {s : State} (h : CountsSound s) (p : Fin 6) {v : Parcel} (hv : ParcelSound v) :
    CountsSound (setParcel p v s) := by
  obtain ⟨parcels, rest⟩ := countsSound_iff.1 h
  refine countsSound_iff.2 ⟨fun q => ?_, rest⟩
  rw [setParcel_parcel]
  split
  · exact hv
  · exact parcels q

theorem countsSound_closed : Closed CountsSound where
  same h e := h.congr e
  slot {s k v} h move := by
    obtain ⟨parcels, restored, audits, rest⟩ := countsSound_iff.1 h
    refine countsSound_iff.2 ⟨parcels, restored, fun j => ?_, rest⟩
    rw [setSlot_slot]
    split
    next e => exact move.auditSound (audits k)
    next => exact audits j
  write {s} o c h hc := by
    obtain ⟨parcels, restored, audits, writes, store⟩ := countsSound_iff.1 h
    refine countsSound_iff.2 ⟨fun p => ?_, fun p => ?_, fun k => ?_, fun w hw => ?_, fun x => ?_⟩
    · rw [giveWrite_parcel]; exact parcels p
    · rw [giveWrite_restoredItems]; exact restored p
    · rw [giveWrite_slot]; exact audits k
    · obtain old | rfl := giveWrite_writes hw
      · exact writes w old
      · exact hc h
    · rw [giveWrite_places]; exact store x

/-- The place a write goes to takes `x`, and the other keeps what it held. -/
theorem writePlace_sound {o : StoreObject} {x : Place} {v : ObjectPlaces} (hx : PlaceSound x)
    (hv : PlaceSound v.first ∧ PlaceSound v.second) :
    PlaceSound (writePlace o x v).first ∧ PlaceSound (writePlace o x v).second := by
  unfold writePlace
  split
  · exact ⟨hx, hv.2⟩
  · exact ⟨hv.1, hx⟩

theorem CountsSound.completeWrite {s : State} (h : CountsSound s) : CountsSound (completeWrite s) := by
  unfold Machine.completeWrite
  split
  · exact h
  next w flight =>
    obtain ⟨parcels, restored, audits, writes, store⟩ := countsSound_iff.1 h
    refine countsSound_iff.2 ⟨fun p => ?_, fun p => ?_, fun k => ?_, fun x hx => ?_, fun o => ?_⟩
    · rw [startWrite_parcel]; exact parcels p
    · rw [startWrite_restoredItems]; exact restored p
    · rw [startWrite_slot]; exact audits k
    · obtain queued | none := startWrite_writes.1 hx
      · exact writes x (.inl queued)
      · cases none
    · rw [startWrite_places]
      show PlaceSound ((setPlaces _ _ s).places o).first ∧ PlaceSound ((setPlaces _ _ s).places o).second
      rw [setPlaces_places]
      split
      · exact writePlace_sound (writes w (.inr flight)) (store w.object)
      · exact store o

/-- A copy cut short has nothing out of range. -/
theorem storeSound_beginReset {s : State} (h : StoreSound s) (cause : ResetCause) : StoreSound (beginReset cause s) := by
  intro o
  show PlaceSound ((cutWrite s).get (objectIndex o)).first ∧ PlaceSound ((cutWrite s).get (objectIndex o)).second
  unfold cutWrite
  split
  · exact h o
  next w _ =>
    rw [vector_get_set]
    split
    · exact writePlace_sound trivial (h w.object)
    · exact h o

theorem CountsSound.beginReset {s : State} (h : CountsSound s) (cause : ResetCause) :
    CountsSound (beginReset cause s) := by
  obtain ⟨-, -, -, -, store⟩ := countsSound_iff.1 h
  obtain ⟨parcels, restored, audits, writes, -⟩ := countsSound_iff.1 countsSound_reset
  exact countsSound_iff.2 ⟨parcels, restored, audits, writes, storeSound_beginReset store cause⟩

theorem CountsSound.bringUp {s : State} (h : CountsSound s) (p : Fin 6) {v : Parcel} (hv : ParcelSound v) :
    CountsSound (bringUp p v s) := by
  have placed : ParcelSound { v with comparisons := none, final := none } := ⟨(fun _ hi => nomatch hi), hv.2⟩
  obtain ⟨parcels, restored, rest⟩ := countsSound_iff.1 (h.setParcel p placed)
  refine countsSound_iff.2 ⟨parcels, fun q i hi => ?_, rest⟩
  rw [bringUp_restoredItems] at hi
  split at hi
  · exact hv.1 i hi
  · exact restored q i hi

theorem CountsSound.takeUpItems {s : State} (h : CountsSound s) : CountsSound (takeUpItems s) := by
  obtain ⟨parcels, restored, rest⟩ := countsSound_iff.1 h
  refine countsSound_iff.2 ⟨fun p => ?_, fun p i hi => ?_, rest⟩
  · rw [takeUpItems_parcel]
    exact ⟨restored p, (parcels p).2⟩
  · rw [takeUpItems_restoredItems] at hi
    cases hi

theorem countsSound_kept : Kept (fun _ => True) CountsSound CountsSound where
  outer := countsSound_closed
  inner := countsSound_closed
  loosen h := h
  running := trivial
  pending _ _ := trivial
  interval _ _ := trivial
  parcel h hv := h.setParcel _ (hv (h.parcel _))
  line h _ := h
  settle p _ h := h.setParcel p (h.parcel p)
  startInterval h _ := h
  bringUp p _ h _ hv := h.bringUp p (hv h)
  takeUp h _ := h.takeUpItems
  complete h := h.completeWrite
  reset cause h := h.beginReset cause
  power _ h _ := h
  wake h _ := h

/-! ### The alarm line (R152, R196, R203) -/

/-- What AlarmStands says of a unit that is not RUNNING, and of the supply: it stands within a change of the parcel slots
too. -/
def AlarmRests (s : State) : Prop :=
  (s.unit ≠ .inactive → s.powered = true)
    ∧ (s.unit ≠ .running → s.alarm = false ∧ s.intervalTimer = none ∧ ∀ k, (s.slot k).pending = none)

theorem alarmStands_iff {s : State} :
    AlarmStands s ↔ (s.unit = .running → s.alarm = s.alarmDue) ∧ AlarmRests s := by
  constructor
  · rintro ⟨line, power, rest⟩
    exact ⟨line, fun active => (power active).1, rest⟩
  · rintro ⟨line, power, rest⟩
    exact ⟨line, fun active => ⟨power active, by simp [State.contactClosed, power active]⟩, rest⟩

theorem AlarmRests.congr {s t : State} (h : AlarmRests s) (e : t.standing = s.standing) : AlarmRests t := by
  simp only [State.standing, Standing.mk.injEq] at e
  obtain ⟨unit, powered, slots, -, -, alarm, timer, -⟩ := e
  unfold AlarmRests State.slot at h ⊢
  rwa [unit, powered, slots, alarm, timer]

theorem alarmRests_closed : Closed AlarmRests where
  same h e := h.congr e
  slot {s k v} h move := by
    obtain ⟨power, rest⟩ := h
    refine ⟨power, fun stopped => ?_⟩
    obtain ⟨alarm, timer, pending⟩ := rest stopped
    refine ⟨alarm, timer, fun j => ?_⟩
    rw [setSlot_slot]
    split
    · exact move.pending_none stopped (pending k)
    · exact pending j
  write o c h _ := by
    rw [giveWrite_frame]
    exact h

/-- A change that leaves the unit state, the parcel slots and the line leaves the line where it stands. -/
theorem AlarmStands.of_rests {s t : State} (h : AlarmStands s) (rests : AlarmRests t) (unit : t.unit = s.unit)
    (parcels : t.parcels = s.parcels) (alarm : t.alarm = s.alarm) : AlarmStands t := by
  obtain ⟨line, -⟩ := alarmStands_iff.1 h
  refine alarmStands_iff.2 ⟨fun running => ?_, rests⟩
  rw [alarm, alarmDue_congr parcels]
  exact line (unit ▸ running)

theorem AlarmStands.rests {s : State} (h : AlarmStands s) : AlarmRests s := (alarmStands_iff.1 h).2

theorem alarmStands_closed : Closed AlarmStands where
  same h e := h.of_rests (h.rests.congr e) (unit_of_standing e) (congrArg Standing.parcels e) (congrArg Standing.alarm e)
  slot h move := h.of_rests (alarmRests_closed.slot h.rests move) rfl rfl rfl
  write o c h hc :=
    h.of_rests (alarmRests_closed.write o c h.rests hc) (giveWrite_unit ..) (giveWrite_parcels ..) (giveWrite_alarm ..)

/-- In a unit that is not RUNNING the line does not rest on the parcel slots. -/
theorem AlarmRests.stands {s : State} (h : AlarmRests s) (stopped : s.unit ≠ .running) : AlarmStands s :=
  alarmStands_iff.2 ⟨fun running => absurd running stopped, h⟩

/-- A RUNNING unit's line as it is set. -/
theorem AlarmRests.setAlarm {s : State} (h : AlarmRests s) (running : s.unit = .running) : AlarmStands (setAlarm s) :=
  alarmStands_iff.2 ⟨fun _ => setAlarm_stands s, h.1, fun stopped => absurd running stopped⟩

/-- The settle timer is nothing the condition of the line rests on. -/
theorem alarmDue_settle (p : Fin 6) (t : Option SettleTimer) (s : State) :
    (setParcel p { s.parcel p with settle := t } s).alarmDue = s.alarmDue := by
  have same : ∀ q, parcelAlarms ((setParcel p { s.parcel p with settle := t } s).parcel q) = parcelAlarms (s.parcel q) := by
    intro q
    rw [setParcel_parcel]
    split
    next e => rw [e]; rfl
    next => rfl
  simp only [State.alarmDue, same]

theorem AlarmStands.settle {s : State} (h : AlarmStands s) (p : Fin 6) (t : Option SettleTimer) :
    AlarmStands (setParcel p { s.parcel p with settle := t } s) := by
  obtain ⟨line, rests⟩ := alarmStands_iff.1 h
  refine alarmStands_iff.2 ⟨fun running => ?_, rests⟩
  rw [alarmDue_settle]
  exact line running

theorem completeWrite_standing (s : State) :
    (completeWrite s).standing =
      { s.standing with
        store := (completeWrite s).store, writeQueue := (completeWrite s).writeQueue
        inFlight := (completeWrite s).inFlight } := by
  unfold completeWrite
  split
  · rfl
  · simp only [State.standing, startWrite_unit, startWrite_powered, startWrite_slots, startWrite_parcels,
      startWrite_restored, startWrite_alarm, startWrite_intervalTimer]
    rfl

theorem AlarmStands.completeWrite {s : State} (h : AlarmStands s) : AlarmStands (completeWrite s) := by
  have e := completeWrite_standing s
  simp only [State.standing, Standing.mk.injEq] at e
  obtain ⟨unit, powered, slots, parcels, -, alarm, timer, -⟩ := e
  refine h.of_rests ?_ unit parcels alarm
  have rests := h.rests
  unfold AlarmRests State.slot at rests ⊢
  rwa [unit, powered, slots, alarm, timer]

theorem alarmRests_beginReset (cause : ResetCause) (s : State) : AlarmRests (beginReset cause s) :=
  ⟨fun active => absurd rfl active, fun _ => ⟨rfl, rfl, fun k => congrArg Slot.pending (reset_slot k)⟩⟩

theorem alarmStands_kept : Kept (fun u => u = .running) AlarmStands AlarmRests where
  outer := alarmStands_closed
  inner := alarmRests_closed
  loosen h := h.rests
  running := rfl
  pending {s k} h held := by
    by_contra stopped
    obtain ⟨-, -, pending⟩ := h.rests.2 stopped
    exact held (pending k)
  interval {s} h due := by
    by_contra stopped
    obtain ⟨-, timer, -⟩ := h.rests.2 stopped
    simp [State.intervalDue, timer] at due
  parcel h _ := h
  line h running := h.setAlarm running
  settle p t h := h.settle p t
  startInterval {s} h running := h.of_rests ⟨h.rests.1, fun stopped => absurd running stopped⟩ rfl rfl rfl
  bringUp p _ h stopped _ := AlarmRests.stands (s := bringUp p _ _) h.rests stopped
  takeUp {s} h starting := by
    have active : s.unit ≠ .inactive := by
      rw [starting]
      exact UnitState.noConfusion
    exact AlarmRests.setAlarm ⟨fun _ => h.rests.1 active, fun stopped => absurd rfl stopped⟩ rfl
  complete h := h.completeWrite
  reset cause _ := (alarmRests_beginReset cause _).stands UnitState.noConfusion
  power {s} b h inactive := by
    have rests : AlarmRests (setPowered b s) := ⟨fun active => absurd inactive active, h.rests.2⟩
    exact rests.stands (by rw [setPowered_unit, inactive]; exact UnitState.noConfusion)
  wake {s} h inactive := by
    have stopped : s.unit ≠ .running := by
      rw [inactive]
      exact UnitState.noConfusion
    exact AlarmRests.stands ⟨fun _ => rfl, fun _ => h.rests.2 stopped⟩ UnitState.noConfusion

/-- Settles O56: the line is set at the end of every change of the parcel slots, and no change brings a count out of its
range. -/
theorem alarmKeepsStanding : Obligations.AlarmKeepsStanding :=
  ⟨fun _ _ hs h => alarmStands_kept.step hs h, fun _ _ hs h => countsSound_kept.step hs h⟩

end Sys2Proof.Machine
end

section
/-! The timers of a link (R172, R184, R185) and the silence tests a change of the settings makes (R42). -/

namespace Sys2Proof.Machine

open Sys2Proof

/-! ### The silence test -/

/-- The silence timer of a link exceeds the silence limit in use (R184). -/
def State.silent (s : State) (l : Link) : Bool :=
  match (s.link l).lastIntact with
  | some t => decide (10 * s.settingsInUse.silenceLimit < (s.clock - t).toNat)
  | none => false

theorem silent_some {s : State} {l : Link} {t : Clock} (h : (s.link l).lastIntact = some t) :
    s.silent l = true ↔ 10 * s.settingsInUse.silenceLimit < (s.clock - t).toNat := by simp [State.silent, h]

/-- The silence test finds an ACTIVE link silent (R184). -/
def State.goesLost (s : State) (l : Link) : Bool := (s.link l).state == .active && s.silent l

/-- A link found silent while ACTIVE. -/
def lostLink (u : LinkUnit) : LinkUnit :=
  { u with state := .lost, restoreCount := 0, report := { u.report with wasLost := true } }

/-- The silence test by the state of the link: an ACTIVE one goes LOST, a LOST one loses its restore count. -/
theorem silenceTest_eq (l : Link) (s : State) :
    silenceTest l s =
      if s.goesLost l then appendTrail (.linkState l .lost) (setLink l (lostLink (s.link l)) s)
      else if (s.link l).state == .lost && s.silent l then setLink l { s.link l with restoreCount := 0 } s
      else s := by
  cases hi : (s.link l).lastIntact with
  | none => simp [silenceTest, State.goesLost, State.silent, hi]
  | some t =>
    by_cases silent : s.silent l = true
    · have exceeded := (exceeds_iff _ _ _).2 ((silent_some hi).1 silent)
      cases hs : (s.link l).state <;> simp [silenceTest, State.goesLost, silent, exceeded, hi, hs, lostLink]
    · have within : exceeds s.clock t s.settingsInUse.silenceLimit = false :=
        Bool.eq_false_iff.2 fun exceeded => silent ((silent_some hi).2 ((exceeds_iff _ _ _).1 exceeded))
      simp [silenceTest, State.goesLost, silent, within, hi]

/-- What the silence test leaves of its own link. -/
theorem silenceTest_link (l : Link) (s : State) :
    (silenceTest l s).link l =
      if s.goesLost l then lostLink (s.link l)
      else if (s.link l).state == .lost && s.silent l then { s.link l with restoreCount := 0 }
      else s.link l := by
  rw [silenceTest_eq]
  repeat' split
  all_goals simp

@[simp] theorem silenceTest_link_other (l : Link) (s : State) :
    (silenceTest l s).link (otherLink l) = s.link (otherLink l) := by
  rw [silenceTest_eq]
  repeat' split
  all_goals simp

theorem silenceTest_sameTrail (l : Link) (s : State) :
    SameTrail (if s.goesLost l then appendTrail (.linkState l .lost) s else s) (silenceTest l s) := by
  rw [silenceTest_eq]
  repeat' split
  · exact SameTrail.append (w := setLink l _ s) ⟨setLink_trail _ _ _, setLink_newest _ _ _⟩ (setLink_clock _ _ _) _
  · exact ⟨setLink_trail _ _ _, setLink_newest _ _ _⟩
  · exact SameTrail.rfl' s

@[simp] theorem silenceTest_settingsInUse (l : Link) (s : State) :
    (silenceTest l s).settingsInUse = s.settingsInUse := by
  rw [silenceTest_frame]
  rfl

/-- The test of one link leaves what the test of the other rests on. -/
theorem silenceTest_silent_other (l : Link) (s : State) :
    (silenceTest l s).silent (otherLink l) = s.silent (otherLink l) := by simp [State.silent]

theorem silenceTest_goesLost_other (l : Link) (s : State) :
    (silenceTest l s).goesLost (otherLink l) = s.goesLost (otherLink l) := by
  simp [State.goesLost, silenceTest_silent_other]

/-- A change of the settings in use makes both silence tests, ship link first (R42, log 22). -/
theorem settingsChanged_silenceTested (u : State) : SilenceTested u (settingsChanged u) := by
  have silent := silenceTest_silent_other .ship u
  have goesLost := silenceTest_goesLost_other .ship u
  have link := silenceTest_link_other .ship u
  simp only [otherLink] at silent goesLost link
  refine ⟨fun l => ?_, ?_, settingsChanged_frame u⟩
  · cases l with
    | ship => exact (silenceTest_link_other .terminal (silenceTest .ship u)).trans (silenceTest_link .ship u)
    | terminal =>
      refine (silenceTest_link .terminal (silenceTest .ship u)).trans ?_
      rw [silent, goesLost, link]
      rfl
  · have ship := silenceTest_sameTrail .ship u
    have terminal := silenceTest_sameTrail .terminal (silenceTest .ship u)
    rw [goesLost] at terminal
    refine SameTrail.trans ?_ terminal
    show SameTrail (if u.goesLost .terminal then appendTrail _ (if u.goesLost .ship then _ else u) else _) _
    split
    · refine ship.append ?_ _
      rw [silenceTest_clock]
      split <;> simp
    · exact ship

/-! ### The two timers -/

theorem exec_silenceTimeout {s : State} (h : s.unit ≠ .inactive) (l : Link) :
    exec (.silenceTimeout l) s = .next (silenceTest l s) := if_neg h

/-- Settles O12: the silence test by the state of the link, the hold timer by its due time, the change of the settings by its
two tests. -/
theorem linkTimersExpire : Obligations.LinkTimersExpire := by
  refine ⟨fun l s => ⟨fun start active hi => ?_, fun h hh => ?_⟩, settingsChanged_silenceTested⟩
  · have silent := silent_some hi
    refine ⟨fun exceeded hs => ?_, fun exceeded hs => ?_, fun rest => ?_⟩
    all_goals rw [exec_silenceTimeout active, silenceTest_eq]
    · rw [if_pos (by simp [State.goesLost, hs, silent.2 exceeded])]
      rfl
    · rw [if_neg (by simp [State.goesLost, hs]), if_pos (by simp [hs, silent.2 exceeded])]
    · have idleOrWithin : (s.link l).state = .idle ∨ s.silent l = false :=
        rest.imp_right fun within => Bool.eq_false_iff.2 (mt silent.1 within)
      obtain idle | within := idleOrWithin
      · rw [if_neg (by simp [State.goesLost, idle]), if_neg (by simp [idle])]
      · rw [if_neg (by simp [State.goesLost, within]), if_neg (by simp [within])]
  · have due : s.holdDue l = true ↔ 10 * h.timeout ≤ (s.clock - h.time).toNat := by
      simp only [State.holdDue, hh]
      exact reaches_iff _ _ _
    refine ⟨fun reached => ?_, fun before => ?_⟩
    · show execHoldTimerExpiry l s = _
      rw [execHoldTimerExpiry, if_pos (due.2 reached)]
      simp [updateReport, dropHold]
    · show execHoldTimerExpiry l s = _
      rw [execHoldTimerExpiry, if_neg fun reached => by have := due.1 reached; omega]

end Sys2Proof.Machine
end

section
/-! The audit walk (R43, R44): what a step does to a version and to the block that uses it, and how the walk goes on. -/

namespace Sys2Proof.Machine

open Sys2Proof

/-! ### A step by what it finds -/

theorem current_of_inForce {s : State} {k : RecordSlot} {v : CurrentVersion} (h : s.inForce k = some v) :
    (s.slot k).current = some v := by
  unfold State.inForce at h
  grind

theorem auditStep_none {s : State} {k : RecordSlot} (h : s.inForce k = none) : auditStep k s = s := by
  simp only [auditStep, h]

theorem auditStep_equal {s : State} {k : RecordSlot} {v : CurrentVersion} (h : s.inForce k = some v)
    (equal : recordDigest v.content v.points = v.digest) :
    auditStep k s = setSlot k { s.slot k with current := some (auditPassed v) } s := by
  simp only [auditStep, h, if_pos equal]

theorem auditStep_altered {s : State} {k : RecordSlot} {v : CurrentVersion} (h : s.inForce k = some v)
    (altered : recordDigest v.content v.points ≠ v.digest) : auditStep k s = markSuspect k v s := by
  simp only [auditStep, h, if_neg altered]

/-! ### A version found SUSPECT -/

/-- The slot and the trail once a version is SUSPECT, before its block is told. -/
def suspected (k : RecordSlot) (v : CurrentVersion) (s : State) : State :=
  setOutcome k .suspect (setSlot k { s.slot k with current := some { v with suspect := true } } s)

theorem markSuspect_eq (k : RecordSlot) (v : CurrentVersion) (s : State) :
    markSuspect k v s = tellSuspect k (suspected k v s) := rfl

section

variable (k : RecordSlot) (v : CurrentVersion) (s : State)

theorem suspected_slotBecomes :
    SlotBecomes k { s.slot k with current := some { v with suspect := true }, last := .suspect } s (suspected k v s) := by
  have becomes := setOutcome_slotBecomes k .suspect
    (setSlot k { s.slot k with current := some { v with suspect := true } } s)
  rw [setSlot_slot_same] at becomes
  exact becomes.of_same fun j hj => setSlot_slot_ne hj _ _

theorem suspected_sameTrail : SameTrail (appendTrail (.auditFailure k) s) (suspected k v s) := by
  show SameTrail _ (appendTrail (.auditFailure k) _)
  refine SameTrail.append ?_ ?_ _
  · exact ⟨rfl, rfl⟩
  · rfl

theorem suspected_frame :
    suspected k v s =
      { s with
        slots := (suspected k v s).slots, trail := (suspected k v s).trail, newest := (suspected k v s).newest } := by
  unfold suspected
  rw [setOutcome_frame]
  rfl

theorem suspected_tank (x : TankId) : (suspected k v s).tank x = s.tank x := by
  rw [suspected_frame]
  rfl

/-- The record of a SUSPECT version still names the tanks of its parcel. -/
theorem suspected_parcelTanks (p : Fin 6) :
    (suspected (.parcel p) v s).parcelTanks p =
      match v.content with
      | .parcel r => tanksNamed r
      | _ => [] := by
  have slot := (suspected_slotBecomes (.parcel p) v s).1
  simp only [State.parcelTanks, State.parcelRecord, slot, Option.bind_some]
  cases v.content <;> rfl

end

/-- The tanks whose figures rest on the record of slot `k` with the content `c` (R68, R80). -/
def restsOn (k : RecordSlot) (c : Content) : List TankId :=
  match k, c with
  | .vessel, _ => shipTankIds
  | .ship n, _ => [.ship n]
  | .shore n, _ => [.shore n]
  | .parcel _, .parcel r => tanksNamed r
  | _, _ => []

theorem mem_restsOn (k : RecordSlot) (c : Content) (x : TankId) :
    x ∈ restsOn k c ↔
      (k = .vessel ∧ ∃ n, x = .ship n) ∨ tankOfSlot k = some x ∨ ∃ p r, k = .parcel p ∧ c = .parcel r ∧ x ∈ tanksNamed r := by
  cases k with
  | vessel => simp [restsOn, mem_shipTankIds, tankOfSlot]
  | ship n => simp [restsOn, tankOfSlot, eq_comm]
  | shore n => simp [restsOn, tankOfSlot, eq_comm]
  | meter m => simp [restsOn, tankOfSlot]
  | settings => simp [restsOn, tankOfSlot]
  | parcel p => cases c <;> simp [restsOn, tankOfSlot]

/-- Every record but the settings is told to its tanks. -/
theorem tellSuspect_suspected {k : RecordSlot} (hk : k ≠ .settings) (v : CurrentVersion) (s : State) :
    tellSuspect k (suspected k v s) = holdTanks (restsOn k v.content) (suspected k v s) := by
  cases k with
  | settings => exact absurd rfl hk
  | parcel p =>
    show holdTanks ((suspected (.parcel p) v s).parcelTanks p) _ = _
    rw [suspected_parcelTanks]
    cases v.content <;> rfl
  | _ => rfl

/-- The tanks once a version is SUSPECT: those that rest on it are held (R80). -/
theorem markSuspect_tank (k : RecordSlot) (v : CurrentVersion) (s : State) (x : TankId) :
    (markSuspect k v s).tank x =
      if x ∈ restsOn k v.content then { s.tank x with figure := holdFigure (s.tank x).figure } else s.tank x := by
  rw [markSuspect_eq]
  by_cases hk : k = .settings
  · subst hk
    show (settingsChanged _).tank x = _
    rw [settingsChanged_tank, suspected_tank, if_neg (by simp [mem_restsOn, tankOfSlot])]
  · rw [tellSuspect_suspected hk, holdTanks_tank, suspected_tank]

theorem markSuspect_slotBecomes (k : RecordSlot) (v : CurrentVersion) (s : State) :
    SlotBecomes k { s.slot k with current := some { v with suspect := true }, last := .suspect } s
      (markSuspect k v s) :=
  (suspected_slotBecomes k v s).congr (congrArg Standing.slots (tellSuspect_standing k _))

/-- A SUSPECT version of the settings puts the defaults in use (R42). -/
theorem settingsInUse_suspect {s : State} {v : CurrentVersion} (h : (s.slot .settings).current = some v)
    (suspect : v.suspect = true) : s.settingsInUse = defaultSettings := by
  simp [State.settingsInUse, State.inForce, h, suspect]

theorem auditStep_clock (k : RecordSlot) (s : State) : (auditStep k s).clock = s.clock := by
  unfold auditStep
  split
  · rfl
  · split
    · rfl
    · rw [markSuspect_eq]
      cases k <;> simp [tellSuspect, holdTank, suspected]

/-! ### The parts of O30 -/

/-- A version with another digest than the endorsed one (R44). -/
theorem markSuspect_leaves (k : RecordSlot) (v : CurrentVersion) (s : State) :
    (k ≠ .settings → SameTrail (appendTrail (.auditFailure k) s) (markSuspect k v s)
        ∧ markSuspect k v s =
          { s with
            slots := (markSuspect k v s).slots, tanks := (markSuspect k v s).tanks
            trail := (markSuspect k v s).trail, newest := (markSuspect k v s).newest })
      ∧ (k = .settings → (markSuspect k v s).settingsInUse = defaultSettings
        ∧ SilenceTested (appendTrail (.auditFailure k) { s with slots := (markSuspect k v s).slots })
          (markSuspect k v s)) := by
  constructor
  · intro hk
    rw [markSuspect_eq, tellSuspect_suspected hk, holdTanks_frame]
    refine ⟨suspected_sameTrail k v s, ?_⟩
    have before := suspected_frame k v s
    generalize suspected k v s = w at before ⊢
    rw [before]
  · rintro rfl
    have slot := (markSuspect_slotBecomes .settings v s).1
    refine ⟨settingsInUse_suspect (congrArg Slot.current slot) rfl, ?_⟩
    have slots : (markSuspect .settings v s).slots = (suspected .settings v s).slots :=
      congrArg Standing.slots (tellSuspect_standing .settings _)
    have before : appendTrail (.auditFailure .settings) { s with slots := (markSuspect .settings v s).slots } =
        suspected .settings v s := by
      rw [slots]
      show _ = appendTrail _ _
      congr 1
      simp [suspected, setOutcome, setSlot]
    rw [before]
    exact settingsChanged_silenceTested _

theorem exec_auditTimerExpiry {s : State} {t : Timer} (timer : s.auditTimer = some t) (idle : s.walk = none) :
    exec .auditTimerExpiry s =
      .next (if t.duration ≤ (s.clock - t.start).toNat then
        { auditStep .vessel { s with auditTimer := none } with walk := some 1 } else s) := by
  have due : s.auditDue = decide (t.duration ≤ (s.clock - t.start).toNat) := by
    simp only [State.auditDue, timer, idle, Option.isNone_none, Bool.and_true]
    rfl
  show Host.Outcome.next (if s.auditDue then _ else s) = _
  simp only [due, decide_eq_true_eq]
  rfl

theorem exec_auditWalkStep {s : State} {i : Fin 60} (walk : s.walk = some i) :
    exec .auditWalkStep s = .next (advanceWalk i (auditStep (slotAt i) s)) := by
  show execAuditWalkStep s = _
  rw [execAuditWalkStep, walk]

theorem advanceWalk_next {i : Fin 60} (h : i ≠ 59) (s : State) : advanceWalk i s = { s with walk := some (i + 1) } := by
  have before : i.val + 1 < 60 := by
    have := Fin.val_ne_of_ne h
    have := i.isLt
    omega
  have next : (⟨i.val + 1, before⟩ : Fin 60) = i + 1 := Fin.ext (by rw [Fin.val_add]; exact (Nat.mod_eq_of_lt before).symm)
  rw [advanceWalk, dif_pos before, next]
  rfl

/-- Settles O30: the walk by its place, a step by what it finds of the version. -/
theorem auditStepsTaken : Obligations.AuditStepsTaken := by
  intro s
  refine ⟨fun t timer idle => ⟨fun due => ?_, fun before => ?_⟩, fun i walk notLast => ?_, fun walk => ?_, fun k =>
    ⟨auditStep_none, fun v inForce => ⟨auditStep_equal inForce, fun altered => ?_⟩⟩⟩
  · rw [exec_auditTimerExpiry timer idle, if_pos due]
  · rw [exec_auditTimerExpiry timer idle, if_neg (Nat.not_le.2 before)]
  · rw [exec_auditWalkStep walk, advanceWalk_next notLast]
  · rw [exec_auditWalkStep walk]
    show Host.Outcome.next (startAuditTimer (setWalk none (auditStep .settings s))) = _
    rw [← auditStep_clock .settings s]
    rfl
  · dsimp only
    rw [auditStep_altered inForce altered]
    obtain ⟨others, settings⟩ := markSuspect_leaves k v s
    refine ⟨markSuspect_slotBecomes k v s, fun x => ?_, others, settings⟩
    rw [← mem_restsOn, markSuspect_tank]
    refine ⟨?_, fun free => ?_, fun rests => ?_⟩
    · split <;> rfl
    · rw [if_neg free]
    · rw [if_pos rests]
      rfl

end Sys2Proof.Machine
end

section
/-! The end of a parcel by WITHDRAW or RELEASE (R85, R99, R111, R112, R117): its versions, its slot, its tanks. -/

namespace Sys2Proof.Machine

open Sys2Proof

/-! ### The versions leave the slot -/

/-- The slot without its current version, the outcome recorded. -/
def currentRemoved (k : RecordSlot) (s : State) : State :=
  setOutcome k .removed (setSlot k { s.slot k with current := none } s)

theorem currentRemoved_slotBecomes (k : RecordSlot) (s : State) :
    SlotBecomes k { s.slot k with current := none, last := .removed } s (currentRemoved k s) := by
  have becomes := setOutcome_slotBecomes k .removed (setSlot k { s.slot k with current := none } s)
  rw [setSlot_slot_same] at becomes
  exact becomes.of_same fun j hj => setSlot_slot_ne hj _ _

/-- The slot without its pending version, the withdrawal recorded. -/
def pendingWithdrawn (k : RecordSlot) (s : State) : State :=
  setOutcome k (.rejected .withdrawn) (setSlot k { s.slot k with pending := none } s)

theorem pendingWithdrawn_slotBecomes (k : RecordSlot) (s : State) :
    SlotBecomes k { s.slot k with pending := none, last := .rejected .withdrawn } s (pendingWithdrawn k s) := by
  have becomes := setOutcome_slotBecomes k (.rejected .withdrawn) (setSlot k { s.slot k with pending := none } s)
  rw [setSlot_slot_same] at becomes
  exact becomes.of_same fun j hj => setSlot_slot_ne hj _ _

/-- The current version leaves, and a pending one after it. -/
theorem removeParcelVersions_eq (p : Fin 6) (s : State) :
    removeParcelVersions p s =
      if (s.slot (.parcel p)).pending.isSome then pendingWithdrawn (.parcel p) (currentRemoved (.parcel p) s)
      else currentRemoved (.parcel p) s := by
  have slot := (currentRemoved_slotBecomes (.parcel p) s).1
  show (if ((currentRemoved (.parcel p) s).slot (.parcel p)).pending.isSome then _ else _) = _
  rw [slot]
  rfl

theorem removeParcelVersions_slotBecomes (p : Fin 6) (s : State) :
    SlotBecomes (.parcel p)
      { current := none, pending := none
        last := if (s.slot (.parcel p)).pending.isSome then .rejected .withdrawn else .removed } s
      (removeParcelVersions p s) := by
  have removed := currentRemoved_slotBecomes (.parcel p) s
  rw [removeParcelVersions_eq]
  split
  next =>
    have withdrawn := pendingWithdrawn_slotBecomes (.parcel p) (currentRemoved (.parcel p) s)
    rw [removed.1] at withdrawn
    exact withdrawn.of_same removed.2
  next absent =>
    have empty : (s.slot (.parcel p)).pending = none := by simpa using absent
    have same : ({ s.slot (.parcel p) with current := none, last := .removed } : Slot) =
        { current := none, pending := none, last := .removed } := by simp [empty]
    rw [← same]
    exact removed

theorem removeParcelVersions_sameTrail (p : Fin 6) (s : State) :
    SameTrail
      (if (s.slot (.parcel p)).pending.isSome then
        appendTrail (.recordOutcome (.parcel p) (.rejected .withdrawn))
          (appendTrail (.recordOutcome (.parcel p) .removed) s)
      else appendTrail (.recordOutcome (.parcel p) .removed) s) (removeParcelVersions p s) := by
  have removed : SameTrail (appendTrail (.recordOutcome (.parcel p) .removed) s) (currentRemoved (.parcel p) s) :=
    setOutcome_sameTrail (s := s) ⟨by simp, by simp⟩ (.parcel p) ⟨rfl, rfl⟩ rfl
  rw [removeParcelVersions_eq]
  split
  · refine setOutcome_sameTrail ⟨by simp, by simp⟩ (.parcel p) removed ?_
    simp [currentRemoved]
  · exact removed

theorem removeParcelVersions_frame (p : Fin 6) (s : State) :
    removeParcelVersions p s =
      { s with
        slots := (removeParcelVersions p s).slots, trail := (removeParcelVersions p s).trail
        newest := (removeParcelVersions p s).newest } := by
  have removed : currentRemoved (.parcel p) s =
      { s with
        slots := (currentRemoved (.parcel p) s).slots, trail := (currentRemoved (.parcel p) s).trail
        newest := (currentRemoved (.parcel p) s).newest } := by
    unfold currentRemoved
    rw [setOutcome_frame]
    rfl
  rw [removeParcelVersions_eq]
  split
  · rw [pendingWithdrawn, setOutcome_frame]
    generalize currentRemoved (.parcel p) s = w at removed ⊢
    rw [removed]
    rfl
  · exact removed

/-! ### The slot returns to FREE -/

/-- The hand-offs of a slot that stands FREE with no items (R111, R112, R117). -/
theorem announceFree_reset {p : Fin 6} {s : State} (free : s.parcel p = .reset) (b : Bool) :
    (announceFree p b s).concurrence = s.concurrence.filter (entryStays p .free)
      ∧ SameTrail (appendTrail (.parcelState p .free (.unilateral b)) s) (announceFree p b s) := by
  constructor
  · simp only [announceFree, appendTrail_concurrence, pruneConcurrence, setConcurrence_concurrence, free]
    rfl
  · exact SameTrail.append (v := s) (w := pruneConcurrence p s) ⟨rfl, rfl⟩ rfl (.parcelState p .free (.unilateral b))

/-- The parcel with its versions, its items and its accumulator set gone. -/
def parcelEmptied (p : Fin 6) (s : State) : State := emptyParcel p (s.boundMeter p) (removeParcelVersions p s)

/-- The parcel emptied and its tanks computed, before it is announced. -/
def parcelReturned (p : Fin 6) (s : State) : State := computeTanks (s.parcelTanks p) (parcelEmptied p s)

theorem endParcel_eq (p : Fin 6) (b : Bool) (s : State) :
    endParcel p b s =
      setAlarm (removeCheckpoint p (removeRecord (.parcel p) (announceFree p b (parcelReturned p s)))) := rfl

theorem parcelReturned_frame (p : Fin 6) (s : State) :
    parcelReturned p s =
      { s with
        slots := (parcelReturned p s).slots, parcels := (parcelReturned p s).parcels
        channels := (parcelReturned p s).channels, tanks := (parcelReturned p s).tanks
        trail := (parcelReturned p s).trail, newest := (parcelReturned p s).newest } := by
  rw [parcelReturned, computeTanks_frame, parcelEmptied, emptyParcel_frame]
  have removed := removeParcelVersions_frame p s
  generalize removeParcelVersions p s = w at removed ⊢
  rw [removed]

theorem endParcel_frame (p : Fin 6) (b : Bool) (s : State) :
    endParcel p b s =
      { parcelReturned p s with
        concurrence := (endParcel p b s).concurrence, trail := (endParcel p b s).trail
        newest := (endParcel p b s).newest, writeQueue := (endParcel p b s).writeQueue
        inFlight := (endParcel p b s).inFlight, alarm := (endParcel p b s).alarm } := by
  rw [endParcel_eq, setAlarm, removeCheckpoint, removeRecord, giveWrite_frame, giveWrite_frame, announceFree_frame]
  rfl

theorem endParcel_changes (p : Fin 6) (b : Bool) (s : State) :
    endParcel p b s =
      { s with
        slots := (endParcel p b s).slots, parcels := (endParcel p b s).parcels
        channels := (endParcel p b s).channels, tanks := (endParcel p b s).tanks
        concurrence := (endParcel p b s).concurrence, trail := (endParcel p b s).trail
        newest := (endParcel p b s).newest, writeQueue := (endParcel p b s).writeQueue
        inFlight := (endParcel p b s).inFlight, alarm := (endParcel p b s).alarm } := by
  have rest := endParcel_frame p b s
  have returned := parcelReturned_frame p s
  generalize parcelReturned p s = v at rest returned
  generalize endParcel p b s = w at rest ⊢
  rw [rest, returned]

theorem endParcel_concurrence (p : Fin 6) (b : Bool) (s : State) :
    (endParcel p b s).concurrence = (announceFree p b (parcelReturned p s)).concurrence := by
  rw [endParcel_eq, setAlarm, removeCheckpoint, removeRecord, giveWrite_frame, giveWrite_frame]
  rfl

theorem endParcel_announced (p : Fin 6) (b : Bool) (s : State) :
    SameTrail (announceFree p b (parcelReturned p s)) (endParcel p b s) := by
  rw [endParcel_eq, setAlarm, removeCheckpoint, removeRecord, giveWrite_frame, giveWrite_frame]
  exact ⟨rfl, rfl⟩

theorem endParcel_slots (p : Fin 6) (b : Bool) (s : State) :
    (endParcel p b s).slots = (parcelReturned p s).slots := by rw [endParcel_frame]

theorem endParcel_parcels (p : Fin 6) (b : Bool) (s : State) :
    (endParcel p b s).parcels = (parcelReturned p s).parcels := by rw [endParcel_frame]

theorem endParcel_channels (p : Fin 6) (b : Bool) (s : State) :
    (endParcel p b s).channels = (parcelReturned p s).channels := by rw [endParcel_frame]

theorem endParcel_tank (p : Fin 6) (b : Bool) (s : State) (x : TankId) :
    (endParcel p b s).tank x = (parcelReturned p s).tank x := by
  rw [endParcel_frame]
  rfl

theorem endParcel_figureDue (p : Fin 6) (b : Bool) (s : State) (x : TankId) (k : Tank) :
    figureDue (endParcel p b s) x k = figureDue (parcelReturned p s) x k :=
  figureDue_congr (endParcel_slots ..) (endParcel_parcels ..) (by rw [endParcel_frame]) x k

/-- The meter of a slot beyond PROPOSED is that of its current record. -/
theorem boundMeter_current {s : State} {p : Fin 6} {r : ParcelRecord} (h : s.parcelRecord p = some r)
    (free : (s.parcel p).state ≠ .free) (proposed : (s.parcel p).state ≠ .proposed) : s.boundMeter p = r.meter := by
  have bound : s.boundRecord p = some r := by
    unfold State.boundRecord
    split
    · contradiction
    · contradiction
    · exact h
  rw [State.boundMeter, bound]
  rfl

theorem parcelReturned_tank (p : Fin 6) (s : State) (x : TankId) :
    (parcelReturned p s).tank x =
      if x ∈ s.parcelTanks p then
        { s.tank x with figure := figureDue (parcelReturned p s) x (s.tank x) } else s.tank x := by
  have kept : (parcelEmptied p s).tank x = s.tank x := by
    rw [parcelEmptied, emptyParcel_tank, removeParcelVersions_frame]
    rfl
  have due : figureDue (parcelReturned p s) x = figureDue (parcelEmptied p s) x :=
    funext fun k => figureDue_congr (computeTanks_slots _ _) (computeTanks_parcels _ _) (computeTanks_shipCondition _ _) x k
  rw [due, ← kept]
  exact computeTanks_tank _ x _

/-- Settles O29: the versions leave, the slot is emptied, its tanks are computed, and the hand-offs follow. -/
theorem parcelEnds : Obligations.ParcelEnds := by
  intro p b s v r hv hc state w k rejected removed
  have record : s.parcelRecord p = some r := by simp [State.parcelRecord, hv, hc, contentParcel]
  have meter : s.boundMeter p = r.meter :=
    boundMeter_current record (by rintro h; simp [h] at state) (by rintro h; simp [h] at state)
  have tanks : s.parcelTanks p = tanksNamed r := by simp [State.parcelTanks, record]
  have before := removeParcelVersions_frame p s
  have unmetered : (removeParcelVersions p s).channels = s.channels := by rw [before]
  have returned := parcelReturned_frame p s
  have parcel : ParcelBecomes p .reset s (parcelReturned p s) :=
    ((emptyParcel_parcelBecomes p (s.boundMeter p) _).of_same (by rw [before])).congr (computeTanks_parcels _ _)
  obtain ⟨table, trail⟩ := announceFree_reset parcel.1 b
  refine ⟨?_, parcel.congr (endParcel_parcels ..), ?_, fun x => ?_, ?_, ?_, ?_, setAlarm_stands _, ?_⟩
  · refine (removeParcelVersions_slotBecomes p s).congr ?_
    exact (endParcel_slots ..).trans ((computeTanks_slots _ _).trans (emptyParcel_slots ..))
  · rw [← meter]
    refine ((emptyParcel_channels p (s.boundMeter p) _).of_same unmetered).congr ?_
    exact (endParcel_channels ..).trans (computeTanks_channels _ _)
  · rw [endParcel_tank, endParcel_figureDue, parcelReturned_tank, tanks]
    by_cases named : x ∈ tanksNamed r <;> simp [named]
  · have untouched : (parcelReturned p s).concurrence = s.concurrence := by rw [returned]
    rw [← untouched, ← table]
    exact endParcel_concurrence p b s
  · have versions := (removeParcelVersions_sameTrail p s).trans (w := parcelReturned p s)
      ⟨(computeTanks_trail _ _).trans (emptyParcel_trail ..), (computeTanks_newest _ _).trans (emptyParcel_newest ..)⟩
    refine ((versions.append ?_ _).trans trail).trans ?_
    · rw [returned]
      dsimp only
      split <;> simp
    · exact endParcel_announced p b s
  · have unwritten : SameWrites s (announceFree p b (parcelReturned p s)) := by
      constructor <;> rw [announceFree_frame, returned]
    exact SameWrites.trans ((unwritten.give _ _).give _ _) ⟨rfl, rfl⟩
  · exact endParcel_changes p b s

end Sys2Proof.Machine
end

section
/-! The canonical form is what was sent (R32, R191): a field that is taken stands in front of what is left over, byte for byte. -/

namespace Sys2Proof.Machine

open Sys2Proof

/-! ### Fields -/

theorem leBytes_ofLe (bs : List Byte) : leBytes bs.length (ofLe bs) = bs := by
  induction bs with
  | nil => rfl
  | cons b bs ih =>
    have low : BitVec.ofNat 8 (b.toNat + 256 * ofLe bs) = b := by
      apply BitVec.eq_of_toNat_eq
      rw [BitVec.toNat_ofNat]
      omega
    have high : (b.toNat + 256 * ofLe bs) / 256 = ofLe bs := by omega
    rw [List.length_cons, leBytes, ofLe, low, high, ih]

theorem ofLe_lt (bs : List Byte) : ofLe bs < 256 ^ bs.length := by
  induction bs with
  | nil => simp [ofLe]
  | cons b bs ih =>
    rw [ofLe, List.length_cons, Nat.pow_succ]
    omega

theorem leInt_ofLeSigned (bs : List Byte) : leInt bs.length (ofLeSigned bs) = bs := by
  have small : (ofLe bs : Int) < (256 ^ bs.length : Nat) := by exact_mod_cast ofLe_lt bs
  have value : ofLeSigned bs % (256 ^ bs.length : Nat) = ofLe bs := by
    unfold ofLeSigned
    split
    · exact Int.emod_eq_of_lt (Int.natCast_nonneg _) small
    · rw [Int.sub_emod_right]
      exact Int.emod_eq_of_lt (Int.natCast_nonneg _) small
  rw [leInt, value, Int.toNat_natCast, leBytes_ofLe]

@[simp] theorem leBytes_one (v : Nat) : leBytes 1 v = [BitVec.ofNat 8 v] := rfl

/-! ### What was taken stands in front of the rest -/

theorem takeBytes_sent {n : Nat} {bs field rest : List Byte} (h : takeBytes n bs = some (field, rest)) :
    bs = field ++ rest ∧ field.length = n := by
  unfold takeBytes at h
  split at h
  next enough =>
    simp only [Option.some.injEq, Prod.mk.injEq] at h
    obtain ⟨rfl, rfl⟩ := h
    exact ⟨(List.take_append_drop n bs).symm, List.length_take_of_le enough⟩
  next => cases h

theorem takeNat_sent {n v : Nat} {bs rest : List Byte} (h : takeNat n bs = some (v, rest)) : bs = leBytes n v ++ rest := by
  unfold takeNat at h
  split at h
  next field rest' taken =>
    obtain ⟨rfl, rfl⟩ := takeBytes_sent taken
    cases h
    rw [leBytes_ofLe]
  next => cases h

theorem takeInt_sent {n : Nat} {v : Int} {bs rest : List Byte} (h : takeInt n bs = some (v, rest)) :
    bs = leInt n v ++ rest := by
  unfold takeInt at h
  split at h
  next field rest' taken =>
    obtain ⟨rfl, rfl⟩ := takeBytes_sent taken
    cases h
    rw [leInt_ofLeSigned]
  next => cases h

theorem takeCounted_sent {bs items rest : List Byte} (h : takeCounted bs = some (items, rest)) :
    bs = countedBytes items ++ rest := by
  unfold takeCounted at h
  split at h
  · cases h
  · obtain ⟨rfl, counted⟩ := takeBytes_sent h
    simp [countedBytes, counted]

theorem takeNats_sent {n count : Nat} {bs rest : List Byte} {vs : List Nat}
    (h : takeNats n count bs = some (vs, rest)) : bs = vs.flatMap (leBytes n) ++ rest ∧ vs.length = count := by
  induction count generalizing bs vs with
  | zero =>
    cases h
    exact ⟨rfl, rfl⟩
  | succ count ih =>
    unfold takeNats at h
    split at h
    next v bs' first =>
      split at h
      next vs' rest' others =>
        cases h
        obtain ⟨rfl, rfl⟩ := ih others
        exact ⟨by rw [takeNat_sent first]; simp, rfl⟩
      next => cases h
    next => cases h

/-- A count of one byte and the fields counted. -/
theorem takeNat_takeNats_sent {n count : Nat} {bs bs' rest : List Byte} {vs : List Nat} (hc : takeNat 1 bs = some (count, bs'))
    (h : takeNats n count bs' = some (vs, rest)) : bs = BitVec.ofNat 8 vs.length :: vs.flatMap (leBytes n) ++ rest := by
  obtain ⟨rfl, rfl⟩ := takeNats_sent h
  rw [takeNat_sent hc]
  simp

theorem wholeOf_eq_some {α : Type} {r : Option (α × List Byte)} {v : α} : wholeOf r = some v ↔ r = some (v, []) := by
  unfold wholeOf
  split <;> simp_all

/-! ### Headers held as they are laid out -/

theorem parseVessel_sent {bs rest : List Byte} {r : VesselRecord} (h : parseVessel bs = some (r, rest)) :
    bs = headerBytes (.vessel r) ++ rest := by
  simp only [parseVessel, Option.bind_eq_bind, Option.bind_eq_some_iff, Prod.exists, Option.pure_def, Option.some.injEq,
    Prod.mk.injEq] at h
  obtain ⟨name, _, hname, lbp, _, hlbp, vef, _, hvef, rfl, rfl⟩ := h
  rw [takeCounted_sent hname, takeNat_sent hlbp, takeNat_sent hvef]
  simp [headerBytes]

theorem parseShipTank_sent {bs rest : List Byte} {r : ShipTankRecord} (h : parseShipTank bs = some (r, rest)) :
    bs = headerBytes (.shipTank r) ++ rest := by
  simp only [parseShipTank, Option.bind_eq_bind, Option.bind_eq_some_iff, Prod.exists, Option.pure_def, Option.some.injEq,
    Prod.mk.injEq] at h
  obtain ⟨name, _, hname, height, _, hheight, long, _, hlong, trans, _, htrans, count, _, hcount, probes, _, hprobes, rfl,
    rfl⟩ := h
  rw [takeCounted_sent hname, takeNat_sent hheight, takeInt_sent hlong, takeInt_sent htrans,
    takeNat_takeNats_sent hcount hprobes]
  simp [headerBytes, probeBytes]

theorem parseShoreTank_sent {bs rest : List Byte} {r : ShoreTankRecord} (h : parseShoreTank bs = some (r, rest)) :
    bs = headerBytes (.shoreTank r) ++ rest := by
  simp only [parseShoreTank, Option.bind_eq_bind, Option.bind_eq_some_iff, Prod.exists, Option.pure_def, Option.some.injEq,
    Prod.mk.injEq] at h
  obtain ⟨name, _, hname, count, _, hcount, probes, _, hprobes, rfl, rfl⟩ := h
  rw [takeCounted_sent hname, takeNat_takeNats_sent hcount hprobes]
  simp [headerBytes, probeBytes]

theorem parseMeter_sent {bs rest : List Byte} {r : MeterRecord} (h : parseMeter bs = some (r, rest)) :
    bs = headerBytes (.meter r) ++ rest := by
  simp only [parseMeter, Option.bind_eq_bind, Option.bind_eq_some_iff, Prod.exists, Option.pure_def, Option.some.injEq,
    Prod.mk.injEq] at h
  obtain ⟨kFactor, _, hk, factor, _, hf, rate, _, hr, rfl, rfl⟩ := h
  rw [takeNat_sent hk, takeNat_sent hf, takeNat_sent hr]
  simp [headerBytes]

theorem parseSettings_sent {bs rest : List Byte} {r : Settings} (h : parseSettings bs = some (r, rest)) :
    bs = headerBytes (.settings r) ++ rest := by
  simp only [parseSettings, Option.bind_eq_bind, Option.bind_eq_some_iff, Prod.exists, Option.pure_def, Option.some.injEq,
    Prod.mk.injEq] at h
  obtain ⟨_, _, h₁, _, _, h₂, _, _, h₃, _, _, h₄, _, _, h₅, _, _, h₆, _, _, h₇, _, _, h₈, rfl, rfl⟩ := h
  rw [takeNat_sent h₁, takeNat_sent h₂, takeNat_sent h₃, takeNat_sent h₄, takeNat_sent h₅, takeNat_sent h₆,
    takeNat_sent h₇, takeNat_sent h₈]
  simp [headerBytes, settingsList]

/-! ### The parcel header -/

/-- The bytes of a parcel layout, field by field (R191). -/
def parcelLayoutBytes (p : ParcelLayout) : List Byte :=
  countedBytes p.grade ++ leBytes 1 p.direction
    ++ BitVec.ofNat 8 p.shipTanks.length :: p.shipTanks.flatMap (leBytes 1)
    ++ BitVec.ofNat 8 p.shoreTanks.length :: p.shoreTanks.flatMap (leBytes 1)
    ++ leBytes 1 p.meter ++ leBytes 2 p.a ++ leBytes 2 p.b ++ leBytes 1 p.applyVef ++ leBytes 1 p.presence
    ++ leBytes 4 p.baseMinimum ++ leBytes 4 p.watchBand ++ leBytes 4 p.alarmBand
    ++ leBytes 1 p.declareCount ++ leBytes 1 p.clearCount

theorem parseParcel_sent {bs rest : List Byte} {p : ParcelLayout} (h : parseParcel bs = some (p, rest)) :
    bs = parcelLayoutBytes p ++ rest := by
  obtain ⟨⟨_, _⟩, hgrade, h⟩ := Option.bind_eq_some_iff.1 h
  obtain ⟨⟨_, _⟩, hdirection, h⟩ := Option.bind_eq_some_iff.1 h
  obtain ⟨⟨_, _⟩, hshipCount, h⟩ := Option.bind_eq_some_iff.1 h
  obtain ⟨⟨_, _⟩, hship, h⟩ := Option.bind_eq_some_iff.1 h
  obtain ⟨⟨_, _⟩, hshoreCount, h⟩ := Option.bind_eq_some_iff.1 h
  obtain ⟨⟨_, _⟩, hshore, h⟩ := Option.bind_eq_some_iff.1 h
  obtain ⟨⟨_, _⟩, hmeter, h⟩ := Option.bind_eq_some_iff.1 h
  obtain ⟨⟨_, _⟩, ha, h⟩ := Option.bind_eq_some_iff.1 h
  obtain ⟨⟨_, _⟩, hb, h⟩ := Option.bind_eq_some_iff.1 h
  obtain ⟨⟨_, _⟩, hvef, h⟩ := Option.bind_eq_some_iff.1 h
  obtain ⟨⟨_, _⟩, hpresence, h⟩ := Option.bind_eq_some_iff.1 h
  obtain ⟨⟨_, _⟩, hbase, h⟩ := Option.bind_eq_some_iff.1 h
  obtain ⟨⟨_, _⟩, hwatch, h⟩ := Option.bind_eq_some_iff.1 h
  obtain ⟨⟨_, _⟩, halarm, h⟩ := Option.bind_eq_some_iff.1 h
  obtain ⟨⟨_, _⟩, hdeclare, h⟩ := Option.bind_eq_some_iff.1 h
  obtain ⟨⟨_, _⟩, hclear, h⟩ := Option.bind_eq_some_iff.1 h
  cases h
  rw [takeCounted_sent hgrade, takeNat_sent hdirection, takeNat_takeNats_sent hshipCount hship,
    takeNat_takeNats_sent hshoreCount hshore, takeNat_sent hmeter, takeNat_sent ha, takeNat_sent hb, takeNat_sent hvef,
    takeNat_sent hpresence, takeNat_sent hbase, takeNat_sent hwatch, takeNat_sent halarm, takeNat_sent hdeclare,
    takeNat_sent hclear]
  simp only [parcelLayoutBytes, List.append_assoc, List.cons_append]

/-- Tank numbers from 1 to `n` name tanks, which are written as those numbers. -/
theorem tankNumbers_inRange {n : Nat} {vs : List Nat} (h : vs.all (inRange 1 n) = true) :
    ∃ ts, tankNumbers n vs = some ts ∧ ts.map (fun t => t.val + 1) = vs := by
  induction vs with
  | nil => exact ⟨[], rfl, rfl⟩
  | cons v vs ih =>
    simp only [List.all_cons, Bool.and_eq_true, inRange, decide_eq_true_eq] at h
    obtain ⟨⟨low, high⟩, others⟩ := h
    obtain ⟨ts, hts, back⟩ := ih others
    have first : fromOne n v = some ⟨v - 1, by omega⟩ := by
      rw [fromOne, dif_pos (by omega), if_pos low]
    refine ⟨⟨v - 1, by omega⟩ :: ts, ?_, ?_⟩
    · rw [tankNumbers] at hts ⊢
      simp [first, hts]
    · rw [List.map_cons, back]
      simp only [List.cons.injEq, and_true]
      omega

theorem tankNumbers_sent {n : Nat} {vs : List Nat} (h : vs.all (inRange 1 n) = true) :
    countedBytes (((tankNumbers n vs).getD []).map fun t => BitVec.ofNat 8 (t.val + 1)) =
      BitVec.ofNat 8 vs.length :: vs.flatMap (leBytes 1) := by
  obtain ⟨ts, named, back⟩ := tankNumbers_inRange h
  have bytes : ts.map (fun t => BitVec.ofNat 8 (t.val + 1)) = vs.map (BitVec.ofNat 8) := by
    rw [← back, List.map_map]
    rfl
  have written : vs.flatMap (leBytes 1) = vs.map (BitVec.ofNat 8) := (List.map_eq_flatMap ..).symm
  simp [named, bytes, written, countedBytes]

theorem direction_sent {d : Nat} (h : d ≤ 1) :
    directionCode (if d = 0 then .load else .discharge) = BitVec.ofNat 8 d := by
  obtain rfl | rfl : d = 0 ∨ d = 1 := by omega
  · rfl
  · rfl

theorem flag_sent {v : Nat} (h : v ≤ 1) : flagByte (v == 1) = BitVec.ofNat 8 v := by
  obtain rfl | rfl : v = 0 ∨ v = 1 := by omega
  · rfl
  · rfl

theorem meter_sent {m : Nat} (h : m ≤ 4) :
    (match fromOne 4 m with
      | some k => BitVec.ofNat 8 (k.val + 1)
      | none => 0) = (BitVec.ofNat 8 m : Byte) := by
  interval_cases m <;> rfl

/-- A mask of five flags is the number whose bits they are. -/
theorem flagMask_testBits {n : Nat} (h : n < 32) :
    flagMask [n.testBit 0, n.testBit 1, n.testBit 2, n.testBit 3, n.testBit 4] = n := by
  revert n
  decide

theorem tuningField_isSome (p : ParcelLayout) (bit v : Nat) : (tuningField p bit v).isSome = p.presence.testBit bit := by
  unfold tuningField
  split <;> simp_all

/-- An absent tuning field was sent as zero bytes. -/
theorem tuningField_sent {p : ParcelLayout} {bit v : Nat} (h : (p.presence.testBit bit || v == 0) = true) (n : Nat) :
    optionBytes n (tuningField p bit v) = leBytes n v := by
  unfold tuningField optionBytes
  split
  · rfl
  · simp_all

/-- A layout whose fields pass their checks is the header of its record. -/
theorem parcelLayoutBytes_eq {p : ParcelLayout} (laid : tuningLaidOut p = true) (passes : headerRefusal (.parcel p) = none) :
    parcelLayoutBytes p = headerBytes (.parcel (parcelOfLayout p)) := by
  simp only [tuningLaidOut, List.all_cons, List.all_nil, Bool.and_true, Bool.and_eq_true, decide_eq_true_eq] at laid
  obtain ⟨defined, base, watch, alarm, declare, clear⟩ := laid
  have checks := firstRefusal_eq_none.1 passes
  simp only [parcelChecks, List.mem_append, List.mem_cons] at checks
  have direction : p.direction ≤ 1 := by simpa using checks (decide (p.direction ≤ 1), .range) (by simp)
  have ship := checks (p.shipTanks.all (inRange 1 32), .range) (by simp)
  have shore := checks (p.shoreTanks.all (inRange 1 16), .range) (by simp)
  have meter : p.meter ≤ 4 := by simpa using checks (decide (p.meter ≤ 4), .range) (by simp)
  have vef : p.applyVef ≤ 1 := by simpa using checks (decide (p.applyVef ≤ 1), .range) (by simp)
  have presence : tuningPresence (parcelOfLayout p) = p.presence := by
    simp only [tuningPresence, parcelOfLayout, tuningField_isSome]
    exact flagMask_testBits defined
  rw [headerBytes, parcelHeader, presence]
  simp only [parcelOfLayout, tuningField_sent base, tuningField_sent watch, tuningField_sent alarm,
    tuningField_sent declare, tuningField_sent clear, tankNumbers_sent ship, tankNumbers_sent shore,
    direction_sent direction, flag_sent vef, parcelLayoutBytes, leBytes_one]
  rw [← meter_sent meter] <;> rfl

/-- A header that passes its checks is written as it was read. -/
theorem parseHeader_sent {k : RecordSlot} {bytes : List Byte} {h : Header} (read : parseHeader k bytes = some h)
    (passes : headerRefusal h = none) : headerBytes (headerContent h) = bytes := by
  cases k with
  | vessel =>
    obtain ⟨r, whole, rfl⟩ := Option.map_eq_some_iff.1 read
    simpa [headerContent] using (parseVessel_sent (wholeOf_eq_some.1 whole)).symm
  | ship _ =>
    obtain ⟨r, whole, rfl⟩ := Option.map_eq_some_iff.1 read
    simpa [headerContent] using (parseShipTank_sent (wholeOf_eq_some.1 whole)).symm
  | shore _ =>
    obtain ⟨r, whole, rfl⟩ := Option.map_eq_some_iff.1 read
    simpa [headerContent] using (parseShoreTank_sent (wholeOf_eq_some.1 whole)).symm
  | meter _ =>
    obtain ⟨r, whole, rfl⟩ := Option.map_eq_some_iff.1 read
    simpa [headerContent] using (parseMeter_sent (wholeOf_eq_some.1 whole)).symm
  | settings =>
    obtain ⟨r, whole, rfl⟩ := Option.map_eq_some_iff.1 read
    simpa [headerContent] using (parseSettings_sent (wholeOf_eq_some.1 whole)).symm
  | parcel _ =>
    obtain ⟨p, whole, held⟩ := Option.bind_eq_some_iff.1 read
    split at held
    next laid =>
      cases held
      rw [headerContent, ← parcelLayoutBytes_eq laid passes]
      simpa using (parseParcel_sent (wholeOf_eq_some.1 whole)).symm
    next => cases held

/-! ### Segments -/

theorem parsePoints_sent {count : Nat} {bs : List Byte} {ps : List Breakpoint} (h : parsePoints count bs = some ps) :
    bs = ps.flatMap breakpointBytes ∧ ps.length = count := by
  induction count generalizing bs ps with
  | zero =>
    cases bs with
    | nil =>
      cases h
      exact ⟨rfl, rfl⟩
    | cons b bs => cases h
  | succ count ih =>
    unfold parsePoints at h
    split at h
    next level _ hlevel =>
      split at h
      next volume _ hvolume =>
        split at h
        next ps' others =>
          cases h
          obtain ⟨rfl, rfl⟩ := ih others
          refine ⟨?_, rfl⟩
          rw [takeNat_sent hlevel, takeNat_sent hvolume]
          simp [breakpointBytes]
        next => cases h
      next => cases h
    next => cases h

theorem parseSegment_sent {payload : List Byte} {g : SegmentLayout} (h : parseSegment payload = some g) :
    payload = g.identifier :: BitVec.ofNat 8 g.number :: BitVec.ofNat 8 g.points.length :: g.points.flatMap breakpointBytes
      ∧ 1 ≤ g.points.length ∧ g.points.length ≤ 24 := by
  unfold parseSegment at h
  split at h
  next i k n rest =>
    split at h
    next counted =>
      obtain ⟨points, read, rfl⟩ := Option.map_eq_some_iff.1 h
      obtain ⟨rfl, length⟩ := parsePoints_sent read
      simp only [inRange, Bool.and_eq_true, decide_eq_true_eq] at counted
      exact ⟨by simp [length], length ▸ counted⟩
    next => cases h
  next => cases h

/-- Settles O21: every field that is taken is written back as the bytes it was taken from. -/
theorem canonicalFormIsAsSent : Obligations.CanonicalFormIsAsSent :=
  ⟨fun _ _ _ read passes => parseHeader_sent read passes, fun _ _ read => parseSegment_sent read⟩

end Sys2Proof.Machine
end

section
/-! The reads (R31, R87, R134, R158, R169): what they report of a unit that a frame has reached, and READ PARCEL part by part. -/

namespace Sys2Proof.Machine

open Sys2Proof

/-! ### A frame alters nothing that a read reports -/

theorem takeFrame_changes (l : Link) (counted : Bool) (s : State) :
    ∃ ship terminal trail newest,
      takeFrame l counted s =
        { s with shipLink := ship, terminalLink := terminal, trail := trail, newest := newest } :=
  ⟨_, _, _, _, takeFrame_frame l counted s⟩

@[simp] theorem takeFrame_slotReport (l : Link) (counted : Bool) (s : State) (from_ : Link) (k : RecordSlot) :
    (takeFrame l counted s).slotReport from_ k = s.slotReport from_ k := by
  obtain ⟨ship, terminal, trail, newest, changes⟩ := takeFrame_changes l counted s
  rw [changes]
  cases k <;> rfl

@[simp] theorem takeFrame_tankView (l : Link) (counted : Bool) (s : State) (x : TankId) :
    (takeFrame l counted s).tankView x = s.tankView x := by
  obtain ⟨ship, terminal, trail, newest, changes⟩ := takeFrame_changes l counted s
  rw [changes]
  cases x <;> rfl

@[simp] theorem takeFrame_conditionView (l : Link) (counted : Bool) (s : State) :
    (takeFrame l counted s).conditionView = s.conditionView := by
  obtain ⟨ship, terminal, trail, newest, changes⟩ := takeFrame_changes l counted s
  rw [changes]
  rfl

@[simp] theorem takeFrame_parcelView (l : Link) (counted : Bool) (s : State) (p : Fin 6) :
    (takeFrame l counted s).parcelView p = s.parcelView p := by
  obtain ⟨ship, terminal, trail, newest, changes⟩ := takeFrame_changes l counted s
  rw [changes]
  rfl

@[simp] theorem takeFrame_parcelRecord (l : Link) (counted : Bool) (s : State) (p : Fin 6) :
    (takeFrame l counted s).parcelRecord p = s.parcelRecord p := by
  obtain ⟨ship, terminal, trail, newest, changes⟩ := takeFrame_changes l counted s
  rw [changes]
  rfl

@[simp] theorem takeFrame_readTankBody (l : Link) (counted : Bool) (s : State) (x : TankId) :
    (takeFrame l counted s).readTankBody l x = s.readTankBody l x := by
  simp only [State.readTankBody, takeFrame_hold, takeFrame_tankView, takeFrame_conditionView]

@[simp] theorem takeFrame_readTankView (l : Link) (counted : Bool) (s : State) (x : TankId) :
    (takeFrame l counted s).readTankView l x = s.readTankView l x := by
  simp only [State.readTankView, takeFrame_hold, takeFrame_tankView]

@[simp] theorem takeFrame_readParcelView (l : Link) (counted : Bool) (s : State) (p : Fin 6) :
    (takeFrame l counted s).readParcelView l p = s.readParcelView l p := by
  simp only [State.readParcelView, takeFrame_hold, takeFrame_parcelView]

@[simp] theorem takeFrame_readHead (l : Link) (counted : Bool) (s : State) :
    (takeFrame l counted s).readHead l = s.readHead l := by
  simp only [State.readHead, takeFrame_hold]

@[simp] theorem takeFrame_readParcelBody (l : Link) (counted : Bool) (s : State) (p : Fin 6) (part : Fin 7) :
    (takeFrame l counted s).readParcelBody l p part = s.readParcelBody l p part := by
  simp only [State.readParcelBody, State.parcelFields, State.parcelPart0, State.entriesFor, State.parcelTankPart,
    State.parcelPositions, State.closingReported, takeFrame_readHead, takeFrame_readParcelView, takeFrame_readTankView,
    takeFrame_parcelRecord, takeFrame_slot, takeFrame_concurrence, takeFrame_shipStop, takeFrame_terminalStop,
    takeFrame_parcel]

/-! ### The answers -/

section

variable {l : Link} {payload : List Byte} {s : State} {tag : Byte} {reply : Reply} (h : ReadyRunning l payload s)

include h

theorem exec_readRecordState
    (hr : readRecordStateOwner l payload (takeFrame l false s) = (takeFrame l false s, reply)) :
    exec (.readRecordState l tag payload) s = .next (answered l 0x28 tag reply.result reply.body (takeFrame l false s)) := by
  show Host.Outcome.next (takeRequest _ _ _ _ _ _ _ _) = _
  rw [takeRequest_running h, hr]

theorem exec_readTank (hr : readTankOwner l payload (takeFrame l false s) = (takeFrame l false s, reply)) :
    exec (.readTank l tag payload) s = .next (answered l 0x38 tag reply.result reply.body (takeFrame l false s)) := by
  show Host.Outcome.next (takeRequest _ _ _ _ _ _ _ _) = _
  rw [takeRequest_running h, hr]

theorem exec_readParcel {part : Fin 7}
    (hr : readParcelOwner l part payload (takeFrame l false s) = (takeFrame l false s, reply)) :
    exec (.readParcel l part tag payload) s =
      .next (answered l 0x39 tag reply.result reply.body (takeFrame l false s)) := by
  show Host.Outcome.next (takeRequest _ _ _ _ _ _ _ _) = _
  rw [takeRequest_running h, hr]

theorem exec_readFinal {part : Fin 4}
    (hr : readFinalOwner part payload (takeFrame l false s) = (takeFrame l false s, reply)) :
    exec (.readFinal l part tag payload) s =
      .next (answered l 0x3A tag reply.result reply.body (takeFrame l false s)) := by
  show Host.Outcome.next (takeRequest _ _ _ _ _ _ _ _) = _
  rw [takeRequest_running h, hr]

end

theorem onParcel_unknown {b : Byte} (h : parcelOfByte b = none) (f : Fin 6 → State → State × Reply) (s : State) :
    onParcel [b] f s = (s, bare .range) := by
  simp only [onParcel, oneByte, h]
  rfl

theorem onParcel_unlaid {payload : List Byte} (h : payload.length ≠ 1) (f : Fin 6 → State → State × Reply) (s : State) :
    onParcel payload f s = (s, bare .format) := by
  simp only [onParcel, oneByte_eq_none h]
  rfl

theorem readTankOwner_known {b : Byte} {x : TankId} (h : tankOfCode b = some x) (l : Link) (s : State) :
    readTankOwner l [b] s = (s, doneWith (s.readTankBody l x)) := by simp only [readTankOwner, oneByte, h]

theorem readTankOwner_unknown {b : Byte} (h : tankOfCode b = none) (l : Link) (s : State) :
    readTankOwner l [b] s = (s, bare .range) := by
  simp only [readTankOwner, oneByte, h]
  rfl

theorem readTankOwner_unlaid {payload : List Byte} (h : payload.length ≠ 1) (l : Link) (s : State) :
    readTankOwner l payload s = (s, bare .format) := by
  simp only [readTankOwner, oneByte_eq_none h]
  rfl

theorem readFinalOwner_closed {b : Byte} {p : Fin 6} {f : FinalRecord} {s : State} (hb : parcelOfByte b = some p)
    (closed : (s.parcel p).state = .closed) (held : (s.parcel p).final = some f) (part : Fin 4) :
    readFinalOwner part [b] s = (s, doneWith (readFinalBody p f part)) := by
  simp only [readFinalOwner, onParcel_one hb, held, closed, if_true]

theorem readFinalOwner_state {b : Byte} {p : Fin 6} {s : State} (hb : parcelOfByte b = some p)
    (h : (s.parcel p).state ≠ .closed ∨ (s.parcel p).final = none) (part : Fin 4) :
    readFinalOwner part [b] s = (s, bare .state) := by
  rw [readFinalOwner, onParcel_one hb]
  split
  next f held =>
    have open_ : (s.parcel p).state ≠ .closed := h.resolve_right (by simp [held])
    rw [if_neg open_]
    rfl
  next => rfl

/-! ### READ PARCEL, part by part -/

/-- The part R193 lays out, after source, hold time and slot. -/
def State.parcelPart (s : State) (l : Link) (p : Fin 6) (part : Fin 7) : List Byte :=
  let v := s.readParcelView l p
  if part.val = 0 then s.parcelPart0 v p
  else if part.val = 1 then parcelPart1 (presentedView v)
  else if part.val = 2 then parcelPart2 (presentedView v) (s.parcelRecord p)
  else if part.val = 3 then parcelPart3 (presentedView v).meter
  else s.parcelTankPart l (s.parcelPositions v p part.val)

theorem readParcelBody_eq (s : State) (l : Link) (p : Fin 6) (part : Fin 7) :
    s.readParcelBody l p part =
      s.readHead l ++ [parcelByte p] ++ s.parcelPart l p part ++ bytesOr 0 (closingShare part) (s.closingReported p) := rfl

theorem partsPresent_iff (st : ParcelState) : partsPresent st = true ↔ st ≠ .free ∧ st ≠ .proposed := by
  simp [partsPresent]

theorem presentedView_eq (v : ParcelCopy) :
    presentedView v =
      if v.state ≠ .free ∧ v.state ≠ .proposed then v
      else { v with opening := none, live := none, comparisons := none, meter := none } := by
  simp only [presentedView, partsPresent_iff]

/-- Part 0 with its settle timer and its record each as one run of bytes. -/
theorem parcelPart0_eq {s : State} {v : ParcelCopy} {p : Fin 6} {settle record : List Byte}
    (hsettle : settle = optionClock (v.settle.map fun t => t.start) ++ optionBytes 2 (v.settle.map fun t => t.settleTime)
      ++ [settleStateCode v.settle])
    (hrecord : record = [currentStateCode (s.slot (.parcel p)).current, flagByte (s.slot (.parcel p)).current.isSome]
      ++ bytesOr 0 (fun c => headerBytes c.content) (s.slot (.parcel p)).current) :
    s.parcelPart0 v p =
      [parcelStateCode v.state]
        ++ [match v.reason with
            | some r => reasonCode r
            | none => 0]
        ++ optionBytes 2 v.suspensions ++ settle ++ record ++ leBytes 1 (s.entriesFor p).length
        ++ (s.entriesFor p).flatMap concurrenceBytes ++ [flagByte s.shipStop, flagByte s.terminalStop] := by
  subst hsettle hrecord
  simp only [State.parcelPart0, List.append_assoc] <;> rfl

/-- The opening volume of a tank is that at its place in the list. -/
theorem withOpening_getElem? (ts : List TankId) (os : List Int) (i : Nat) :
    (withOpening ts os)[i]? = ts[i]?.map fun t => (t, os[i]?) := by
  induction ts generalizing os i with
  | nil => simp [withOpening]
  | cons t ts ih => cases os <;> cases i <;> simp [withOpening, ih]

theorem withOpening_eq {α : Type} (f : α → TankId) (ts : List α) (os : List Int) :
    withOpening (ts.map f) os = ts.zipIdx.map fun n => (f n.1, os[n.2]?) := by
  apply List.ext_getElem?
  intro i
  simp [withOpening_getElem?, Function.comp_def]

theorem shipPositions_eq (r : ParcelRecord) (o : Option OpeningFigures) :
    shipPositions r o = r.shipTanks.zipIdx.map fun n => (.ship n.1, o.bind fun o => o.shipVolumes[n.2]?) := by
  rw [shipPositions, withOpening_eq]
  cases o <;> simp

theorem shorePositions_eq (r : ParcelRecord) (o : Option OpeningFigures) :
    shorePositions r o = r.shoreTanks.zipIdx.map fun n => (.shore n.1, o.bind fun o => o.shoreVolumes[n.2]?) := by
  rw [shorePositions, withOpening_eq]
  cases o <;> simp

/-- The ship tanks that parts 4 and 5 report. -/
def State.shipEntries (s : State) (v : ParcelCopy) (p : Fin 6) : List (TankId × Option Int) :=
  if v.state ≠ .free ∧ v.state ≠ .proposed then (s.parcelRecord p).elim [] fun r => shipPositions r v.opening else []

/-- The shore tanks that part 6 reports. -/
def State.shoreEntries (s : State) (v : ParcelCopy) (p : Fin 6) : List (TankId × Option Int) :=
  if v.state ≠ .free ∧ v.state ≠ .proposed then (s.parcelRecord p).elim [] fun r => shorePositions r v.opening else []

theorem parcelPositions_four (s : State) (v : ParcelCopy) (p : Fin 6) :
    s.parcelPositions v p 4 = (s.shipEntries v p).take 16 := by
  simp only [State.parcelPositions, State.shipEntries, ← partsPresent_iff]
  cases s.parcelRecord p <;> cases partsPresent v.state <;> rfl

theorem parcelPositions_five (s : State) (v : ParcelCopy) (p : Fin 6) :
    s.parcelPositions v p 5 = (s.shipEntries v p).drop 16 := by
  simp only [State.parcelPositions, State.shipEntries, ← partsPresent_iff]
  cases s.parcelRecord p <;> cases partsPresent v.state <;> rfl

theorem parcelPositions_six (s : State) (v : ParcelCopy) (p : Fin 6) : s.parcelPositions v p 6 = s.shoreEntries v p := by
  simp only [State.parcelPositions, State.shoreEntries, ← partsPresent_iff]
  cases s.parcelRecord p <;> cases partsPresent v.state <;> rfl

theorem shipEntries_map {α : Type} (s : State) (v : ParcelCopy) (p : Fin 6) (f : TankId → Option Int → α) :
    (s.shipEntries v p).map (fun n => f n.1 n.2) =
      if v.state ≠ .free ∧ v.state ≠ .proposed then (s.parcelRecord p).elim [] fun r =>
        r.shipTanks.zipIdx.map fun n => f (.ship n.1) (v.opening.bind fun o => o.shipVolumes[n.2]?)
      else [] := by
  unfold State.shipEntries
  split
  · cases s.parcelRecord p with
    | none => rfl
    | some r => simp only [Option.elim_some, shipPositions_eq, List.map_map, Function.comp_def]
  · rfl

theorem shoreEntries_map {α : Type} (s : State) (v : ParcelCopy) (p : Fin 6) (f : TankId → Option Int → α) :
    (s.shoreEntries v p).map (fun n => f n.1 n.2) =
      if v.state ≠ .free ∧ v.state ≠ .proposed then (s.parcelRecord p).elim [] fun r =>
        r.shoreTanks.zipIdx.map fun n => f (.shore n.1) (v.opening.bind fun o => o.shoreVolumes[n.2]?)
      else [] := by
  unfold State.shoreEntries
  split
  · cases s.parcelRecord p with
    | none => rfl
    | some r => simp only [Option.elim_some, shorePositions_eq, List.map_map, Function.comp_def]
  · rfl

/-- A count and the tanks counted. -/
theorem parcelTankPart_eq (s : State) (l : Link) (ts : List (TankId × Option Int)) :
    s.parcelTankPart l ts =
      leBytes 1 (ts.map fun n => parcelTankBytes n.1 (s.readTankView l n.1) n.2).length
        ++ (ts.map fun n => parcelTankBytes n.1 (s.readTankView l n.1) n.2).flatten := by
  rw [State.parcelTankPart, List.length_map, List.flatMap_def]

/-- The share of a part, item by item. -/
theorem closingShare_eq (part : Fin 7) (c : ClosingFigures) :
    let carried := fun (item : ClosingItem) (bytes : List Byte) => if closingSplit item = part then bytes else []
    closingShare part c =
      carried .time (leBytes 4 c.time.toNat)
        ++ (c.shipVolumes.zipIdx.flatMap fun v => carried (.shipTank v.2) (leInt 4 v.1))
        ++ (c.shoreVolumes.zipIdx.flatMap fun v => carried (.shoreTank v.2) (leInt 4 v.1))
        ++ carried .shipTotal (leInt 8 c.shipTotal) ++ carried .shoreTotal (leInt 8 c.shoreTotal)
        ++ carried .metered (leInt 8 (c.metered.getD 0)) := by
  simp [closingShare, closingItems, List.flatMap_append, List.flatMap_map, clockBytes, optionInt]

/-- Settles O47: a frame alters nothing that a read reports, and each part of READ PARCEL is the part the statement spells. -/
theorem readsAnswered : Obligations.ReadsAnswered := by
  refine ⟨closingSplit_fits, fun l tag payload s hr => ⟨?_, fun unlaid => ?_⟩⟩
  · rintro b rfl
    refine ⟨fun k hb => ?_, fun unknown => ?_, fun x hx => ?_, fun unknown => ?_, fun p part hb => ?_,
      fun part unknown => ⟨?_, fun part => ?_⟩, fun p part hb => ⟨fun f closed held => ?_, fun other => ?_⟩⟩
    · rw [← takeFrame_slotReport l false s l k]
      exact exec_readRecordState hr (onSlot_some hb _ _)
    · exact exec_readRecordState hr (onSlot_unknown unknown _ _)
    · refine (exec_readTank hr (readTankOwner_known hx l _)).trans ?_
      rw [takeFrame_readTankBody]
      rfl
    · exact exec_readTank hr (readTankOwner_unknown unknown l _)
    · intro v tank head present shown record entries ships shores listed body
      have bodyEq : body = s.parcelPart l p part := by
        have shownEq : presentedView v = shown := presentedView_eq v
        have shipsEq := shipEntries_map s v p fun x o => parcelTankBytes x (s.readTankView l x) o
        have shoresEq := shoreEntries_map s v p fun x o => parcelTankBytes x (s.readTankView l x) o
        unfold body
        clear body
        fin_cases part
        · refine (parcelPart0_eq (v := v) ?_ ?_).symm
          · generalize v.settle = t
            cases t <;> rfl
          · show _ = [currentStateCode record, flagByte record.isSome] ++ bytesOr 0 (fun c => headerBytes c.content) record
            generalize record = c
            cases c <;> rfl
        · exact congrArg parcelPart1 shownEq.symm
        · exact congrArg (parcelPart2 · (s.parcelRecord p)) shownEq.symm
        · exact congrArg (fun v => parcelPart3 v.meter) shownEq.symm
        · show listed (ships.take 16) = s.parcelTankPart l (s.parcelPositions v p 4)
          rw [parcelPositions_four, parcelTankPart_eq, List.map_take, shipsEq]
          rfl
        · show listed (ships.drop 16) = s.parcelTankPart l (s.parcelPositions v p 5)
          rw [parcelPositions_five, parcelTankPart_eq, List.map_drop, shipsEq]
          rfl
        · show listed shores = s.parcelTankPart l (s.parcelPositions v p 6)
          rw [parcelPositions_six, parcelTankPart_eq, shoresEq]
          rfl
      clear_value body
      intro fields closing carried share
      have shareEq : share = bytesOr 0 (closingShare part) (s.closingReported p) := by
        show closing.elim [] _ = bytesOr 0 _ closing
        cases closing with
        | none => rfl
        | some c => exact (closingShare_eq part c).symm
      refine (exec_readParcel hr (onParcel_one hb _ _)).trans ?_
      rw [takeFrame_readParcelBody, readParcelBody_eq, ← shareEq, ← bodyEq]
      rfl
    · exact exec_readParcel hr (onParcel_unknown unknown _ _)
    · exact exec_readFinal hr (onParcel_unknown unknown _ _)
    · exact exec_readFinal hr (readFinalOwner_closed hb (by simpa using closed) (by simpa using held) part)
    · exact exec_readFinal hr (readFinalOwner_state hb (by simpa using other) part)
  · have none : oneByte payload = none := oneByte_eq_none unlaid
    refine ⟨exec_readRecordState (reply := bare .format) hr ?_, exec_readTank hr (readTankOwner_unlaid unlaid l _),
      fun part => exec_readParcel hr (onParcel_unlaid unlaid _ _), fun part => exec_readFinal hr (onParcel_unlaid unlaid _ _)⟩
    rw [readRecordStateOwner, none]
    rfl

end Sys2Proof.Machine
end

section
/-! The ranges of a link (R53, R183, R184, R187), and the operations that keep them: the reception of frames, the silence
tests, and everything that leaves the links as they stand. -/

namespace Sys2Proof.Machine

open Sys2Proof

theorem linksSound_iff {s : State} : LinksSound s ↔ ∀ l, LinkSound (s.link l) := by
  refine ⟨fun ⟨ship, terminal⟩ l => ?_, fun h => ⟨h .ship, h .terminal⟩⟩
  cases l
  · exact ship
  · exact terminal

theorem LinksSound.link {s : State} (h : LinksSound s) (l : Link) : LinkSound (s.link l) := linksSound_iff.1 h l

theorem LinksSound.congr {s t : State} (h : LinksSound s) (e : ∀ l, t.link l = s.link l) : LinksSound t :=
  linksSound_iff.2 fun l => by
    rw [e]
    exact h.link l

/-- A link is the one named or the other. -/
theorem eq_or_eq_otherLink (l x : Link) : x = l ∨ x = otherLink l := by
  cases l <;> cases x <;> decide

theorem LinksSound.setLink {s : State} (h : LinksSound s) {l : Link} {u : LinkUnit}
    (hu : LinkSound (s.link l) → LinkSound u) : LinksSound (setLink l u s) := by
  refine linksSound_iff.2 fun x => ?_
  obtain rfl | rfl := eq_or_eq_otherLink l x
  · rw [setLink_link_same]
    exact hu (h.link x)
  · rw [setLink_link_other]
    exact h.link _

/-! ### One link -/

theorem nextCounter_le (n : Nat) : nextCounter n ≤ 255 := by
  unfold nextCounter
  split <;> omega

/-- A restore count back at 0. -/
theorem LinkSound.restored {u : LinkUnit} (h : LinkSound u) : LinkSound { u with restoreCount := 0 } := by
  obtain ⟨counter, -, rest⟩ := h
  exact ⟨counter, Nat.zero_le _, rest⟩

theorem LinkSound.lost {u : LinkUnit} (h : LinkSound u) : LinkSound (lostLink u) := h.restored

theorem LinkSound.withIntake {u : LinkUnit} (h : LinkSound u) {q : List IntakeEntry} (hq : q.length ≤ 64) :
    LinkSound { u with intake := q } := by
  obtain ⟨counter, restores, least, most, shortest, longest, -⟩ := h
  exact ⟨counter, restores, least, most, shortest, longest, hq⟩

theorem LinkSound.withParameters {u : LinkUnit} (h : LinkSound u) {threshold holdTimeout : Nat}
    (inside : linkParametersInRange threshold holdTimeout = true) :
    LinkSound { u with threshold := threshold, holdTimeout := holdTimeout } := by
  obtain ⟨counter, restores, -, -, -, -, room⟩ := h
  simp only [linkParametersInRange, inRange, Bool.and_eq_true, decide_eq_true_eq] at inside
  obtain ⟨⟨least, most⟩, shortest, longest⟩ := inside
  exact ⟨counter, restores, least, most, shortest, longest, room⟩

theorem LinkSound.cleared {u : LinkUnit} (h : LinkSound u) : LinkSound (clearedLink u) :=
  h.withIntake (q := []) (Nat.zero_le _)

/-! ### Reception (R174, R178 to R185) -/

/-- A frame taken counts to 255 and then from 1, and restores to 2 and then not at all (R183, R185). -/
theorem LinksSound.takeFrame {s : State} (h : LinksSound s) (l : Link) (counted : Bool) :
    LinksSound (takeFrame l counted s) := by
  refine linksSound_iff.2 fun x => ?_
  obtain rfl | rfl := eq_or_eq_otherLink l x
  · rw [takeFrame_link]
    obtain ⟨counter, restores, rest⟩ := h.link x
    refine ⟨?_, ?_, rest⟩
    · dsimp only
      split
      · exact nextCounter_le _
      · exact counter
    · dsimp only
      repeat' split
      all_goals omega
  · rw [takeFrame_link_other]
    exact h.link _

theorem LinksSound.faultyFrame {s : State} (h : LinksSound s) (l : Link) (f : FrameFault) :
    LinksSound (faultyFrame l f s) := by
  cases f with
  | trailing =>
    refine h.setLink fun sound => ?_
    split
    · exact sound.restored
    · exact sound
  | framing => exact h.setLink fun sound => sound.restored
  | headerCrc => exact h.setLink fun sound => sound.restored
  | length => exact h.setLink fun sound => sound.restored
  | payloadCrc => exact h.setLink fun sound => sound.restored

theorem LinksSound.overrunFrame {s : State} (h : LinksSound s) (l : Link) : LinksSound (overrunFrame l s) :=
  h.setLink fun sound => sound.restored

/-- A request keeps the links in their ranges where its owner does. -/
theorem LinksSound.request {s : State} (h : LinksSound s) {owner : State → State × Reply} {ready : Readiness}
    (howner : ∀ w, LinksSound w → LinksSound (owner w).1) (l : Link) (code tag : Byte) (payload : List Byte)
    (counted : Bool) : LinksSound (takeRequest l code tag payload counted ready owner s) := by
  have frame := h.takeFrame l counted
  have decided : LinksSound (ownerDecides ready owner (Machine.takeFrame l counted s)).1 := by
    cases ready with
    | always => exact howner _ frame
    | whenRunning =>
      simp only [ownerDecides]
      split
      · exact howner _ frame
      · exact frame
  unfold takeRequest
  split
  · exact h
  split
  · exact h.faultyFrame l .length
  split
  · exact h.overrunFrame l
  · exact decided.setLink fun sound => sound

/-! ### The silence tests (R42, R184) -/

theorem LinksSound.appendTrail {s : State} (h : LinksSound s) (b : TrailBody) : LinksSound (appendTrail b s) :=
  h.congr fun l => appendTrail_link b l s

theorem LinksSound.silenceTest {s : State} (h : LinksSound s) (l : Link) : LinksSound (silenceTest l s) := by
  rw [silenceTest_eq]
  split
  · exact (h.setLink fun sound => sound.lost).appendTrail _
  split
  · exact h.setLink fun sound => sound.restored
  · exact h

theorem LinksSound.settingsChanged {s : State} (h : LinksSound s) : LinksSound (settingsChanged s) :=
  (h.silenceTest .ship).silenceTest .terminal

/-! ### Operations that leave the links as they stand -/

@[simp] theorem setAlarm_link (x : Link) (s : State) : (setAlarm s).link x = s.link x := setAlarmLine_link _ x s

@[simp] theorem holdTank_link (t : TankId) (x : Link) (s : State) : (holdTank t s).link x = s.link x := setTank_link ..

@[simp] theorem clearTank_link (t : TankId) (x : Link) (s : State) : (clearTank t s).link x = s.link x := setTank_link ..

@[simp] theorem setAccumulators_link (m : Fin 4) (a : Option AccumulatorSet) (x : Link) (s : State) :
    (setAccumulators m a s).link x = s.link x := setChannel_link ..

@[simp] theorem removeRecord_link (k : RecordSlot) (x : Link) (s : State) : (removeRecord k s).link x = s.link x :=
  giveWrite_link ..

@[simp] theorem removeCheckpoint_link (p : Fin 6) (x : Link) (s : State) :
    (removeCheckpoint p s).link x = s.link x := giveWrite_link ..

@[simp] theorem giveCheckpoint_link (p : Fin 6) (x : Link) (s : State) : (giveCheckpoint p s).link x = s.link x :=
  giveWrite_link ..

@[simp] theorem leaveProposed_link (p : Fin 6) (m : Option (Fin 4)) (b : Bool) (x : Link) (s : State) :
    (leaveProposed p m b s).link x = s.link x := by simp [leaveProposed]

@[simp] theorem rejectPending_link (k : RecordSlot) (d : RejectDetail) (b : Bool) (x : Link) (s : State) :
    (rejectPending k d b s).link x = s.link x := by
  unfold rejectPending
  split
  · rfl
  · dsimp only
    repeat' split
    all_goals simp

@[simp] theorem removeParcelVersions_link (p : Fin 6) (x : Link) (s : State) :
    (removeParcelVersions p s).link x = s.link x := by
  simp only [removeParcelVersions]
  split <;> simp

@[simp] theorem endParcel_link (p : Fin 6) (b : Bool) (x : Link) (s : State) :
    (endParcel p b s).link x = s.link x := by simp [endParcel]

@[simp] theorem enterProposed_link (p : Fin 6) (r : ParcelRecord) (x : Link) (s : State) :
    (enterProposed p r s).link x = s.link x := by
  simp only [enterProposed, announce_link]
  split <;> simp

@[simp] theorem enterDefined_link (p : Fin 6) (r : ParcelRecord) (x : Link) (s : State) :
    (enterDefined p r s).link x = s.link x := by simp [enterDefined]

@[simp] theorem suspendParcel_link (p : Fin 6) (r : SuspendReason) (x : Link) (s : State) :
    (suspendParcel p r s).link x = s.link x := by simp [suspendParcel]

@[simp] theorem settleParcel_link (p : Fin 6) (x : Link) (s : State) : (settleParcel p s).link x = s.link x := by
  simp [settleParcel]

@[simp] theorem resumeParcel_link (p : Fin 6) (x : Link) (s : State) : (resumeParcel p s).link x = s.link x := by
  simp [resumeParcel]

@[simp] theorem openParcel_link (p : Fin 6) (x : Link) (s : State) : (openParcel p s).link x = s.link x := by
  unfold openParcel
  split
  · rfl
  · simp only [announce_link]
    split <;> simp [openChannel]

@[simp] theorem closingSample_link (m : Fin 4) (x : Link) (s : State) : (closingSample m s).link x = s.link x := by
  unfold closingSample
  repeat' split
  all_goals simp

@[simp] theorem closeParcel_link (p : Fin 6) (x : Link) (s : State) : (closeParcel p s).link x = s.link x := by
  unfold closeParcel sampleAtClose
  repeat' split
  all_goals simp

@[simp] theorem abandonParcel_link (p : Fin 6) (b : Bool) (x : Link) (s : State) :
    (abandonParcel p b s).link x = s.link x := by
  unfold abandonParcel
  split <;> simp

@[simp] theorem evaluateParcel_link (p : Fin 6) (x : Link) (s : State) : (evaluateParcel p s).link x = s.link x := by
  unfold evaluateParcel
  split <;> simp

@[simp] theorem callClearParcel_link (p : Fin 6) (x : Link) (s : State) :
    (callClearParcel p s).link x = s.link x := by
  unfold callClearParcel
  split <;> simp [callClearParcel.removed]

@[simp] theorem takeSample_link (m : Fin 4) (x : Link) (s : State) : (takeSample m s).link x = s.link x := by
  unfold takeSample
  split <;> simp

@[simp] theorem completeWrite_link (x : Link) (s : State) : (completeWrite s).link x = s.link x := by
  unfold completeWrite
  split
  · rfl
  · rw [startWrite_link]
    cases x <;> rfl

end Sys2Proof.Machine
end

section
/-! The writer's queue (R200, R202): one write for each object, waiting only behind a write in flight, along every step. -/

namespace Sys2Proof.Machine

open Sys2Proof

/-- No object has two writes in the queue (R200). -/
def OneForEach (q : List StoreWrite) : Prop := q.Pairwise fun a b => a.object ≠ b.object

theorem OneForEach.given {q : List StoreWrite} (h : OneForEach q) (o : StoreObject) (c : StoredContent) :
    OneForEach ((q.filter fun w => w.object != o) ++ [{ object := o, content := c }]) := by
  refine List.pairwise_append.2 ⟨h.filter _, List.pairwise_singleton _ _, fun a ha b hb => ?_⟩
  obtain rfl := List.mem_singleton.1 hb
  simpa using (List.mem_filter.1 ha).2

/-- Whatever waits, the writer's taking of the head leaves nothing behind an idle writer. -/
theorem writerSound_startWrite {s : State} (h : OneForEach s.writeQueue) : WriterSound (startWrite s) := by
  unfold startWrite
  split
  next w rest _ queued =>
    rw [queued] at h
    exact ⟨h.of_cons, fun idle => nomatch idle⟩
  next busyOrEmpty =>
    refine ⟨h, fun idle => ?_⟩
    cases queued : s.writeQueue with
    | nil => rfl
    | cons w rest => exact (busyOrEmpty w rest idle queued).elim

theorem WriterSound.congr {s t : State} (h : WriterSound s) (queue : t.writeQueue = s.writeQueue)
    (flight : t.inFlight = s.inFlight) : WriterSound t := by
  unfold WriterSound at h ⊢
  rwa [queue, flight]

theorem writerSound_closed : Closed WriterSound where
  same h e := h.congr (congrArg Standing.writeQueue e) (congrArg Standing.inFlight e)
  slot h _ := h
  write o c h _ := writerSound_startWrite (OneForEach.given h.1 o c)

theorem WriterSound.completeWrite {s : State} (h : WriterSound s) : WriterSound (completeWrite s) := by
  unfold Machine.completeWrite
  split
  · exact h
  · exact writerSound_startWrite h.1

/-- The writer changes by the writes it is given and those it completes, and by nothing else. -/
theorem writerSound_kept : Kept (fun _ => True) WriterSound WriterSound where
  outer := writerSound_closed
  inner := writerSound_closed
  loosen h := h
  running := trivial
  pending _ _ := trivial
  interval _ _ := trivial
  parcel h _ := h
  line h _ := h
  settle _ _ h := h
  startInterval h _ := h
  bringUp _ _ h _ _ := h
  takeUp h _ := h
  complete h := h.completeWrite
  reset _ _ := ⟨.nil, fun _ => rfl⟩
  power _ h _ := h
  wake h _ := h

end Sys2Proof.Machine
end

section
/-! The links in their ranges along every request (R53, R183, R187). -/

namespace Sys2Proof.Machine

open Sys2Proof

/-! ### The record set -/

theorem LinksSound.setOutcome {s : State} (h : LinksSound s) (k : RecordSlot) (o : LastOutcome) :
    LinksSound (setOutcome k o s) := h.congr fun l => setOutcome_link k o l s

/-- Of the versions that enter force, the settings' alone touch the links, by the silence tests (R42). -/
theorem LinksSound.enterForce {s : State} (h : LinksSound s) (k : RecordSlot) (v : PendingVersion) :
    LinksSound (enterForce k v s) := by
  have written : LinksSound (giveRecordWrite k (enteredVersion v) (Machine.setOutcome k (s.entryOutcome k v)
      (supersede k v s))) := h.congr fun _ => by simp [giveRecordWrite, supersede]
  unfold Machine.enterForce tellEntered
  split
  · exact written.congr fun _ => computeTanks_link ..
  · exact written.congr fun _ => computeTank_link ..
  · exact written.congr fun _ => computeTank_link ..
  · split
    · exact written.congr fun _ => enterDefined_link ..
    · exact written.congr fun _ => computeTanks_link ..
  · exact written.settingsChanged
  · exact written

theorem LinksSound.tellWithdrawn {s : State} (h : LinksSound s) (k : RecordSlot) : LinksSound (tellWithdrawn k s) := by
  cases k with
  | settings => exact h.settingsChanged
  | vessel => exact h.congr fun _ => holdTanks_link ..
  | ship n => exact h.congr fun _ => clearTank_link ..
  | shore n => exact h.congr fun _ => clearTank_link ..
  | meter m => exact h
  | parcel p => exact h

theorem LinksSound.withdrawRecord {s : State} (h : LinksSound s) (k : RecordSlot) :
    LinksSound (withdrawRecord k s) := by
  obtain ⟨p, rfl⟩ | notParcel : (∃ p, k = .parcel p) ∨ ∀ p, k ≠ .parcel p := by
    cases k <;> simp
  · exact h.congr fun _ => endParcel_link ..
  · rw [withdrawRecord_eq notParcel]
    have removed : LinksSound (removeRecord k (Machine.setOutcome k .removed (dropCurrent k s))) :=
      h.congr fun _ => by simp [dropCurrent]
    exact removed.tellWithdrawn k

theorem LinksSound.tellSuspect {s : State} (h : LinksSound s) (k : RecordSlot) : LinksSound (tellSuspect k s) := by
  cases k with
  | settings => exact h.settingsChanged
  | vessel => exact h.congr fun _ => holdTanks_link ..
  | ship n => exact h.congr fun _ => holdTank_link ..
  | shore n => exact h.congr fun _ => holdTank_link ..
  | meter m => exact h
  | parcel p => exact h.congr fun _ => holdTanks_link ..

theorem LinksSound.auditStep {s : State} (h : LinksSound s) (k : RecordSlot) : LinksSound (auditStep k s) := by
  unfold Machine.auditStep
  split
  · exact h
  split
  · exact h.congr fun _ => setSlot_link ..
  · exact LinksSound.tellSuspect (h.congr fun _ => by simp) k

/-! ### The owners of record requests -/

theorem LinksSound.rejectPending {s : State} (h : LinksSound s) (k : RecordSlot) (d : RejectDetail) (b : Bool) :
    LinksSound (rejectPending k d b s) := h.congr fun l => rejectPending_link k d b l s

theorem LinksSound.setPending {s : State} (h : LinksSound s) (k : RecordSlot) (v : Option PendingVersion) :
    LinksSound (setPending k v s) := h.congr fun _ => setSlot_link ..

theorem LinksSound.proposeBegin {s : State} (h : LinksSound s) (l : Link) (payload : List Byte) :
    LinksSound (proposeBeginOwner l payload s).1 := by
  unfold proposeBeginOwner
  split
  · exact h
  refine onSlot_keeps (P := LinksSound) h (fun k => ?_) _
  split
  · exact h
  split
  · exact h
  unfold decideProposal
  split
  · exact (h.setPending k _).congr fun _ => setPoolFree_link ..
  split
  · show LinksSound (takeProposal l k _ _ s)
    simp only [takeProposal]
    repeat' split
    · exact h.setPending _ _
    · exact (h.setPending _ _).congr fun _ => enterProposed_link ..
    · exact h.setPending _ _
  · exact h.setOutcome k _

theorem LinksSound.proposeSegment {s : State} (h : LinksSound s) (l : Link) (payload : List Byte) :
    LinksSound (proposeSegmentOwner l payload s).1 := by
  unfold proposeSegmentOwner
  split
  · exact h
  refine onSlot_keeps (P := LinksSound) h (fun k => ?_) _
  split
  · exact h
  split
  · exact h
  · unfold decideSegment
    split
    · exact h.rejectPending k _ _
    split
    · exact h.setPending k _
    · show LinksSound (completeAssembly k _ _ s)
      unfold completeAssembly
      split
      · exact h.rejectPending k _ _
      split
      · exact h.setPending k _
      · exact h.rejectPending k _ _
  · exact h

theorem LinksSound.endorse {s : State} (h : LinksSound s) (l : Link) (payload : List Byte) :
    LinksSound (endorseOwner l payload s).1 := by
  unfold endorseOwner
  split
  · exact h
  refine onSlot_keeps (P := LinksSound) h (fun k => ?_) _
  split
  · exact h
  · show LinksSound (compareEndorsement k _ s)
    unfold compareEndorsement
    split
    · split
      · exact h.enterForce k _
      · exact h.rejectPending k _ _
    · exact h

theorem LinksSound.decline {s : State} (h : LinksSound s) (l : Link) (payload : List Byte) :
    LinksSound (declineOwner l payload s).1 := by
  refine onSlot_keeps (P := LinksSound) h (fun k => ?_) _
  split
  · exact h
  · exact h.rejectPending k _ _

theorem LinksSound.withdrawPending {s : State} (h : LinksSound s) (l : Link) (payload : List Byte) :
    LinksSound (withdrawPendingOwner l payload s).1 := by
  refine onSlot_keeps (P := LinksSound) h (fun k => ?_) _
  split
  · exact h
  · exact h.rejectPending k _ _

theorem LinksSound.withdrawCurrent {s : State} (h : LinksSound s) (l : Link) (payload : List Byte) :
    LinksSound (withdrawCurrentOwner l payload s).1 := by
  refine onSlot_keeps (P := LinksSound) h (fun k => ?_) _
  split
  · exact h
  · exact h.withdrawRecord k

/-! ### The owners of parcel requests -/

/-- A declaration whose step leaves the links. -/
theorem LinksSound.declare {s : State} (h : LinksSound s) {kind : DeclKind} {l : Link} {payload : List Byte}
    {met : State → Fin 6 → Bool} {step : Fin 6 → Bool → State → State}
    (hstep : ∀ p b w x, (step p b w).link x = w.link x) : LinksSound (declareParcel kind l payload met step s).1 := by
  have table : ∀ es, LinksSound (setConcurrence es s) := fun es => h.congr fun x => setConcurrence_link es x s
  exact declareParcel_keeps h table fun p b es => (table es).congr (hstep p b _)

/-- The clear empties both intake queues (R55, R131). -/
theorem LinksSound.callClear {s : State} (h : LinksSound s) : LinksSound (callClear s) := by
  have parcels : LinksSound (allParcels.foldl (fun w p => callClearParcel p w) s) :=
    foldl_keeps (P := LinksSound) (fun w p hw => hw.congr fun x => callClearParcel_link p x w) allParcels h
  have slots : LinksSound (clearSlots s) :=
    foldl_keeps (P := LinksSound) (fun w k hw => hw.congr fun _ => by simp [emptySlot]) vesselSlots parcels
  rw [callClear_eq]
  refine linksSound_iff.2 fun x => ?_
  rw [clearRest_link]
  exact (slots.link x).cleared

theorem LinksSound.declareUnit {s : State} (h : LinksSound s) (l : Link) (payload : List Byte) :
    LinksSound (declareUnit l payload s).1 := by
  have table : ∀ es, LinksSound (setConcurrence es s) := fun es => h.congr fun x => setConcurrence_link es x s
  exact declareUnit_keeps h table fun es => (table es).callClear

theorem LinksSound.suspend {s : State} (h : LinksSound s) (l : Link) (payload : List Byte) :
    LinksSound (suspendOwner l payload s).1 := by
  refine onParcel_keeps (P := LinksSound) h (fun p => ?_) payload
  split
  · exact h.congr fun _ => suspendParcel_link ..
  · exact h

theorem LinksSound.transferEnd {s : State} (h : LinksSound s) (payload : List Byte) :
    LinksSound (transferEndOwner payload s).1 := by
  refine onParcel_keeps (P := LinksSound) h (fun p => ?_) payload
  split
  · exact h.congr fun _ => settleParcel_link ..
  · exact h

/-! ### The owners of link requests -/

theorem LinksSound.counterReset {s : State} (h : LinksSound s) (l : Link) (payload : List Byte) :
    LinksSound (counterResetOwner l payload s).1 := by
  unfold counterResetOwner
  split
  · exact h.setLink fun ⟨_, rest⟩ => ⟨Nat.zero_le _, rest⟩
  · exact h

/-- Parameters out of their ranges are refused (R187). -/
theorem LinksSound.setLinkParameters {s : State} (h : LinksSound s) (l : Link) (payload : List Byte) :
    LinksSound (setLinkParametersOwner l payload s).1 := by
  unfold setLinkParametersOwner
  split
  · exact h
  split
  next inside => exact (h.setLink fun sound => sound.withParameters inside).congr fun _ => giveWrite_link ..
  · exact h

/-- Entries for which the queue has no room are refused (R51, R53). -/
theorem LinksSound.postReadings {s : State} (h : LinksSound s) (l : Link) (payload : List Byte) :
    LinksSound (postReadingsOwner l payload s).1 := by
  unfold postReadingsOwner
  split
  · exact h
  next es _ =>
    split
    · exact h
    next accepted =>
      have room : (s.link l).intake.length + es.length ≤ 64 := by
        rw [State.postingRefusal, firstRefusal_eq_none] at accepted
        simpa using accepted (decide ((s.link l).intake.length + es.length ≤ 64), .intakeFull) (by simp)
      have taken := List.length_filterMap_le entryReading es
      refine h.setLink fun sound => sound.withIntake ?_
      simp only [List.length_append, List.length_map]
      omega

theorem LinksSound.hold {s : State} (h : LinksSound s) (l : Link) (payload : List Byte) :
    LinksSound (holdOwner l payload s).1 := by
  unfold holdOwner
  split
  · exact h.setLink fun sound => sound
  · exact h

theorem LinksSound.releaseHold {s : State} (h : LinksSound s) (l : Link) (payload : List Byte) :
    LinksSound (releaseHoldOwner l payload s).1 := by
  unfold releaseHoldOwner
  repeat' split
  · exact h.setLink fun sound => sound
  · exact h
  · exact h

/-! ### The requests -/

/-- A request whose owner leaves the state: the frame alone acts on the links. -/
theorem LinksSound.request_same {s : State} (h : LinksSound s) {owner : State → State × Reply}
    (same : ∀ w, (owner w).1 = w) (l : Link) (code tag : Byte) (payload : List Byte) (counted : Bool)
    (ready : Readiness) : LinksSound (takeRequest l code tag payload counted ready owner s) :=
  h.request (fun w hw => by rwa [same]) l code tag payload counted

theorem status_same (payload : List Byte) (s : State) : (statusOwner payload s).1 = s := by
  unfold statusOwner
  split <;> rfl

theorem LinksSound.exec_request {s : State} (h : LinksSound s) {c : Instr} {r : Request} (hc : requestOf c = some r) :
    NextIs LinksSound (exec c s) := by
  have taken : ∀ {owner : State → State × Reply} {ready : Readiness}, (∀ w, LinksSound w → LinksSound (owner w).1) →
      ∀ l code tag payload counted, NextIs LinksSound (.next (takeRequest l code tag payload counted ready owner s)) :=
    fun howner l code tag payload counted => (nextIs_next _ _).2 (h.request howner l code tag payload counted)
  have read : ∀ {owner : State → State × Reply} {ready : Readiness}, (∀ w, (owner w).1 = w) →
      ∀ l code tag payload counted, NextIs LinksSound (.next (takeRequest l code tag payload counted ready owner s)) :=
    fun same l code tag payload counted => (nextIs_next _ _).2 (h.request_same same l code tag payload counted _)
  cases c
  case status l tag payload => exact read (status_same payload) l _ tag payload _
  case counterReset l tag payload => exact taken (fun _ hw => hw.counterReset l payload) l _ tag payload _
  case setLinkParameters l tag payload => exact taken (fun _ hw => hw.setLinkParameters l payload) l _ tag payload _
  case postReadings l tag payload => exact taken (fun _ hw => hw.postReadings l payload) l _ tag payload _
  case proposeBegin l tag payload => exact taken (fun _ hw => hw.proposeBegin l payload) l _ tag payload _
  case proposeSegment l tag payload => exact taken (fun _ hw => hw.proposeSegment l payload) l _ tag payload _
  case endorse l tag payload => exact taken (fun _ hw => hw.endorse l payload) l _ tag payload _
  case decline l tag payload => exact taken (fun _ hw => hw.decline l payload) l _ tag payload _
  case withdrawPending l tag payload => exact taken (fun _ hw => hw.withdrawPending l payload) l _ tag payload _
  case withdrawCurrent l tag payload => exact taken (fun _ hw => hw.withdrawCurrent l payload) l _ tag payload _
  case readRecordState l tag payload => exact read (readRecordState_same l payload) l _ tag payload _
  case declareOpen l tag payload =>
    exact taken (fun _ hw => hw.declare fun p _ w x => openParcel_link p x w) l _ tag payload _
  case declareResume l tag payload =>
    exact taken (fun _ hw => hw.declare fun p _ w x => resumeParcel_link p x w) l _ tag payload _
  case declareClose l tag payload =>
    exact taken (fun _ hw => hw.declare fun p _ w x => closeParcel_link p x w) l _ tag payload _
  case declareAbandon l tag payload =>
    exact taken (fun _ hw => hw.declare fun p b w x => abandonParcel_link p b x w) l _ tag payload _
  case declareRelease l tag payload =>
    exact taken (fun _ hw => hw.declare fun p b w x => endParcel_link p b x w) l _ tag payload _
  case declareCallClear l tag payload => exact taken (fun _ hw => hw.declareUnit l payload) l _ tag payload _
  case suspend l tag payload => exact taken (fun _ hw => hw.suspend l payload) l _ tag payload _
  case transferEnd l tag payload => exact taken (fun _ hw => hw.transferEnd payload) l _ tag payload _
  case readTank l tag payload => exact read (readTank_same l payload) l _ tag payload _
  case readParcel l part tag payload => exact read (readParcel_same l part payload) l _ tag payload _
  case readFinal l part tag payload => exact read (readFinal_same part payload) l _ tag payload _
  case readTrail l tag payload => exact read (readTrail_same payload) l _ tag payload _
  case hold l tag payload => exact taken (fun _ hw => hw.hold l payload) l _ tag payload _
  case releaseHold l tag payload => exact taken (fun _ hw => hw.releaseHold l payload) l _ tag payload _
  case unknownRequest l code selector tag payload =>
    simp only [exec, execUnknownRequest]
    split
    · exact (nextIs_next _ _).2 h
    · exact read (fun _ => rfl) l code tag payload _
  all_goals cases hc

end Sys2Proof.Machine
end

section
/-! The links in their ranges along the engine, the load, a full reset and every event, and so along every step (R53, R183 to
R187, R205). -/

namespace Sys2Proof.Machine

open Sys2Proof

/-! ### The engine (R56 to R60) -/

theorem LinksSound.reportDiscard {s : State} (h : LinksSound s) (l : Link) : LinksSound (reportDiscard l s) :=
  h.setLink fun sound => sound

/-- An entry that leaves its queue leaves no more behind it. -/
theorem LinksSound.removeHead {s : State} (h : LinksSound s) (l : Link) : LinksSound (removeHead l s) := by
  refine LinksSound.setLink (s := s) h fun sound => sound.withIntake ?_
  have room : (s.link l).intake.length ≤ 64 := by
    obtain ⟨-, -, -, -, -, -, room⟩ := sound
    exact room
  rw [List.length_tail]
  omega

theorem LinksSound.takeTank {s : State} (h : LinksSound s) (l : Link) (x : TankId) (f : TankFields) (arrival : Clock) :
    LinksSound (takeTank l x f arrival s) := by
  unfold Machine.takeTank
  split
  · exact h.congr fun _ => by simp [keepReading]
  · exact h.reportDiscard l

theorem LinksSound.takeLine {s : State} (h : LinksSound s) (l : Link) (m : Fin 4) (t : Int) (arrival : Clock) :
    LinksSound (takeLine l m t arrival s) := by
  unfold Machine.takeLine
  split
  · exact h.congr fun _ => setChannel_link ..
  · exact h.reportDiscard l

theorem LinksSound.execTakeTankReading {s : State} (h : LinksSound s) : NextIs LinksSound (execTakeTankReading s) := by
  unfold Machine.execTakeTankReading
  repeat' split
  all_goals rw [nextIs_next]
  · exact (h.removeHead _).takeTank ..
  · exact (h.removeHead _).takeTank ..
  · exact h
  · exact h

theorem LinksSound.execTakeShipCondition {s : State} (h : LinksSound s) :
    NextIs LinksSound (execTakeShipCondition s) := by
  unfold Machine.execTakeShipCondition
  repeat' split
  all_goals rw [nextIs_next]
  next l _ _ _ _ _ => exact (h.removeHead l).congr fun _ => by simp [takeCondition]
  · exact h
  · exact h

theorem LinksSound.execTakeLineConditions {s : State} (h : LinksSound s) :
    NextIs LinksSound (execTakeLineConditions s) := by
  unfold Machine.execTakeLineConditions
  repeat' split
  all_goals rw [nextIs_next]
  · exact (h.removeHead _).takeLine ..
  · exact h
  · exact h

/-! ### The load (R187, R205 to R208) -/

@[simp] theorem dropRecord_link (k : RecordSlot) (r : DropReason) (x : Link) (s : State) :
    (dropRecord k r s).link x = s.link x := by simp [dropRecord]

@[simp] theorem placeRecord_link (k : RecordSlot) (d : Digest) (c : Content) (points : List Breakpoint) (x : Link)
    (s : State) : (placeRecord k d c points s).link x = s.link x := by
  unfold placeRecord
  split <;> simp

theorem LinksSound.loadRecord {s : State} (h : LinksSound s) (k : RecordSlot) : LinksSound (loadRecord k s) := by
  unfold Machine.loadRecord
  dsimp only
  split
  · split
    · have placed : ∀ d c points, LinksSound (placeRecord k d c points s) :=
        fun d c points => h.congr fun x => placeRecord_link k d c points x s
      unfold tellReloaded
      split
      · exact (placed ..).settingsChanged
      · exact placed ..
    · exact h
  · split
    · exact h.congr fun _ => dropRecord_link ..
    · exact h

/-- Stored parameters pass their check with their ranges (R187, R198). -/
theorem LinksSound.loadLinkParameters {s : State} (h : LinksSound s) (l : Link) :
    LinksSound (loadLinkParameters l s) := by
  unfold Machine.loadLinkParameters
  split
  next copy =>
    split
    next threshold holdTimeout check stored =>
      have passes := storedCopy_passes copy
      simp only [copyPasses, contentPasses, stored, Bool.and_eq_true] at passes
      obtain ⟨-, -, inside⟩ := passes
      exact h.setLink fun sound => sound.withParameters inside
    · exact h
  · exact h

@[simp] theorem discardReloaded_link (p : Fin 6) (x : Link) (s : State) : (discardReloaded p s).link x = s.link x := by
  simp only [discardReloaded]
  split <;> simp

@[simp] theorem restoreAccumulators_link (r : ParcelRecord) (a : Option AccumulatorSet) (x : Link) (s : State) :
    (restoreAccumulators r a s).link x = s.link x := by
  unfold restoreAccumulators
  split <;> simp

@[simp] theorem announceRestored_link (p : Fin 6) (d : StateDetail) (x : Link) (s : State) :
    (announceRestored p d s).link x = s.link x := by simp [announceRestored, giveRestoredCheckpoint]

@[simp] theorem bringUp_link (p : Fin 6) (v : Parcel) (x : Link) (s : State) : (bringUp p v s).link x = s.link x := by
  simp [bringUp]

theorem loadCheckpoint_link (p : Fin 6) (x : Link) (s : State) : (loadCheckpoint p s).link x = s.link x := by
  obtain e | e | e | ⟨r, e⟩ | ⟨r, c, e⟩ | ⟨r, c, e⟩ := loadCheckpoint_cases p s <;> rw [e]
  · simp [dropParcel]
  · simp [freeParcel]
  · simp [restoreDefined]
  · simp [restoreSuspended]
  · simp [restoreAsStored]

theorem reportStopLine_link (l x : Link) (s : State) : (reportStopLine l s).link x = s.link x := by
  unfold reportStopLine
  split <;> simp

theorem startSampleTimers_link (x : Link) (s : State) : (startSampleTimers s).link x = s.link x :=
  foldl_keeps (P := fun w => w.link x = s.link x) (fun w m hw => (setChannel_link m _ x w).trans hw) allMeters rfl

theorem completeLoad_link (x : Link) (s : State) : (completeLoad s).link x = s.link x := by
  unfold completeLoad
  rw [reportStopLine_link, reportStopLine_link, startSampleTimers_link]
  cases x <;> rfl

theorem LinksSound.execStoreLoadRecord {s : State} (h : LinksSound s) : NextIs LinksSound (execStoreLoadRecord s) := by
  unfold Machine.execStoreLoadRecord
  repeat' split
  all_goals rw [nextIs_next]
  · exact (h.loadRecord _).congr fun _ => setLoad_link ..
  · exact h
  · exact h

theorem LinksSound.execStoreLoadLinkParameters {s : State} (h : LinksSound s) :
    NextIs LinksSound (execStoreLoadLinkParameters s) := by
  unfold Machine.execStoreLoadLinkParameters
  repeat' split
  all_goals rw [nextIs_next]
  · exact (h.loadLinkParameters _).congr fun _ => setLoad_link ..
  · exact h
  · exact h

theorem LinksSound.execStoreLoadCheckpoint {s : State} (h : LinksSound s) :
    NextIs LinksSound (execStoreLoadCheckpoint s) := by
  unfold Machine.execStoreLoadCheckpoint
  repeat' split
  all_goals rw [nextIs_next]
  next p _ =>
    have loaded : LinksSound (loadCheckpoint p s) := h.congr fun x => loadCheckpoint_link p x s
    unfold afterCheckpoint
    split
    · exact loaded.congr fun _ => setLoad_link ..
    · exact loaded.congr fun x => completeLoad_link x _
  · exact h
  · exact h

/-! ### Events of a link (R172, R174, R178 to R185) -/

theorem LinksSound.endDiscarding {s : State} (h : LinksSound s) (l : Link) : LinksSound (endDiscarding l s) :=
  h.setLink fun sound => sound

theorem LinksSound.execIdleGapInFrame {s : State} (h : LinksSound s) (l : Link) :
    NextIs LinksSound (execIdleGapInFrame l s) := by
  unfold Machine.execIdleGapInFrame
  repeat' split
  all_goals rw [nextIs_next]
  · exact h
  · exact h.endDiscarding l
  · exact (h.faultyFrame l .length).endDiscarding l

theorem LinksSound.execIdleGap {s : State} (h : LinksSound s) (l : Link) : NextIs LinksSound (execIdleGap l s) := by
  unfold Machine.execIdleGap
  split <;> rw [nextIs_next]
  · exact h
  · exact h.endDiscarding l

theorem LinksSound.execResponseSend {s : State} (h : LinksSound s) (l : Link) :
    NextIs LinksSound (execResponseSend l s) := by
  unfold Machine.execResponseSend
  split <;> rw [nextIs_next]
  · exact h.setLink fun sound => sound
  · exact h

theorem LinksSound.execResponseSent {s : State} (h : LinksSound s) (l : Link) :
    NextIs LinksSound (execResponseSent l s) := by
  unfold Machine.execResponseSent
  split <;> rw [nextIs_next]
  · exact h.setLink fun sound => sound
  · exact h

theorem LinksSound.execHoldTimerExpiry {s : State} (h : LinksSound s) (l : Link) :
    NextIs LinksSound (execHoldTimerExpiry l s) := by
  unfold Machine.execHoldTimerExpiry
  split <;> rw [nextIs_next]
  · have dropped : LinksSound (dropHold l s) := h.setLink fun sound => sound
    exact dropped.setLink fun sound => sound
  · exact h

theorem LinksSound.execSilenceTimeout {s : State} (h : LinksSound s) (l : Link) :
    NextIs LinksSound (execSilenceTimeout l s) := by
  unfold Machine.execSilenceTimeout
  split <;> rw [nextIs_next]
  · exact h
  · exact h.silenceTest l

/-! ### Every event and every step -/

theorem advanceWalk_link (i : Fin 60) (x : Link) (s : State) : (advanceWalk i s).link x = s.link x := by
  unfold advanceWalk startAuditTimer
  split <;> simp

theorem startInterval_link (x : Link) (s : State) : (startInterval s).link x = s.link x := by cases x <;> rfl

theorem stopTransfers_link (line x : Link) (s : State) : (stopTransfers line s).link x = s.link x := by
  rw [stopTransfers, appendTrail_link]
  refine foldl_keeps (P := fun w => w.link x = s.link x) (fun w p hw => ?_) allParcels rfl
  rw [← hw]
  unfold suspendByLine
  split <;> simp

theorem evaluateParcels_link (ps : List (Fin 6)) (x : Link) (s : State) :
    (evaluateParcels ps s).link x = s.link x :=
  foldl_keeps (P := fun w => w.link x = s.link x) (fun w p hw => (evaluateParcel_link p x w).trans hw) ps rfl

theorem LinksSound.exec_event {s : State} (h : LinksSound s) {c : Instr} (hc : requestOf c = none) :
    NextIs LinksSound (exec c s) := by
  cases c
  case damagedFrame l f =>
    refine (nextIs_next _ _).2 ?_
    split
    · exact h.faultyFrame l f
    · exact h
  case overrun l =>
    refine (nextIs_next _ _).2 ?_
    split
    · exact h.overrunFrame l
    · exact h
  case idleGapInFrame l => exact h.execIdleGapInFrame l
  case idleGap l => exact h.execIdleGap l
  case responseSend l => exact h.execResponseSend l
  case responseSent l => exact h.execResponseSent l
  case holdTimerExpiry l => exact h.execHoldTimerExpiry l
  case silenceTimeout l => exact h.execSilenceTimeout l
  case takeTankReading => exact h.execTakeTankReading
  case takeShipCondition => exact h.execTakeShipCondition
  case takeLineConditions => exact h.execTakeLineConditions
  case assemblyTimeout k =>
    refine (nextIs_next _ _).2 ?_
    split
    · exact h.rejectPending k _ _
    · exact h
  case auditTimerExpiry =>
    refine (nextIs_next _ _).2 ?_
    split
    · have untimed : LinksSound (setAuditTimer none s) := h.congr fun _ => setAuditTimer_link ..
      exact (untimed.auditStep .vessel).congr fun x => advanceWalk_link 0 x _
    · exact h
  case auditWalkStep =>
    refine (nextIs_next _ _).2 ?_
    split
    next i _ => exact (h.auditStep (slotAt i)).congr fun x => advanceWalk_link i x _
    next => exact h
  case sampleTimerExpiry m =>
    refine (nextIs_next _ _).2 ?_
    split
    · exact h.congr fun x => (setChannel_link ..).trans (takeSample_link m x s)
    · exact h
  case intervalTimerExpiry =>
    refine (nextIs_next _ _).2 ?_
    split
    · exact h.congr fun x => by rw [startInterval_link, setAlarm_link, evaluateParcels_link]
    · exact h
  case settleTimerExpiry p =>
    simp only [exec, execSettleTimerExpiry]
    split <;> rw [nextIs_next]
    · exact h.congr fun _ => setParcel_link ..
    · exact h
  case declarationLapse subject kind =>
    simp only [exec, execDeclarationLapse]
    split <;> rw [nextIs_next]
    · exact LinksSound.appendTrail (s := removeEntry subject kind s) h _
    · exact h
  case meterPulse m =>
    simp only [exec, execMeterPulse]
    split <;> rw [nextIs_next]
    · exact h
    · exact h.congr fun _ => setChannel_link ..
  case stopLineAsserted l =>
    simp only [exec, execStopLineAsserted]
    split <;> rw [nextIs_next]
    · exact h
    · have set : LinksSound (setStopLine l true s) := h.congr fun _ => setStopLine_link ..
      split
      · exact set.congr fun x => stopTransfers_link l x _
      · exact set
  case stopLineCleared l =>
    simp only [exec, execStopLineCleared]
    split <;> rw [nextIs_next]
    · exact h
    · have set : LinksSound (setStopLine l false s) := h.congr fun _ => setStopLine_link ..
      split
      · exact set.appendTrail _
      · exact set
  case fullResetBegin cause =>
    refine (nextIs_next _ _).2 ?_
    split
    · exact h.congr fun _ => setPowered_link ..
    · exact ⟨linkSound_reset, linkSound_reset⟩
  case fullResetEnd =>
    refine (nextIs_next _ _).2 ?_
    split
    · exact h
    · exact h
  case storeLoadStart =>
    refine (nextIs_next _ _).2 ?_
    split
    · exact (h.appendTrail _).congr fun _ => setLoad_link ..
    · exact h
  case storeLoadRecord => exact h.execStoreLoadRecord
  case storeLoadLinkParameters => exact h.execStoreLoadLinkParameters
  case storeLoadCheckpoint => exact h.execStoreLoadCheckpoint
  case storeWriteComplete => exact (nextIs_next _ _).2 (h.congr fun x => completeWrite_link x s)
  case unknownRequest l code selector tag payload =>
    simp only [requestOf] at hc
    simp only [exec, execUnknownRequest]
    split at hc
    next defined => rw [if_pos defined, nextIs_next]; exact h
    next => cases hc
  all_goals cases hc

theorem exec_keepsLinks (c : Instr) (s : State) (h : LinksSound s) : NextIs LinksSound (exec c s) := by
  cases hc : requestOf c with
  | some r => exact h.exec_request hc
  | none => exact h.exec_event hc

theorem LinksSound.tickClock {s : State} (h : LinksSound s) : LinksSound (tickClock s) := by
  unfold Machine.tickClock
  split
  · exact h
  · exact h

theorem LinksSound.step {s t : State} (h : LinksSound s) (ht : Machine.step s = .next t) : LinksSound t :=
  step_keeps exec_keepsLinks (fun _ _ hw => hw) (fun _ hw => hw.tickClock) h ht

/-- Settles O59: every command keeps the links in their ranges, and the writer changes by writes given and writes completed
alone. -/
theorem linksAndWriterStaySound : Obligations.LinksAndWriterStaySound := fun _ _ links writer h =>
  ⟨links.step h, writerSound_kept.step writer h⟩

end Sys2Proof.Machine
end

section
/-! The entries the engine takes (R52, R56 to R63): postings by the checks of R51, the queues in turn, and each kind of reading. -/

namespace Sys2Proof.Machine

open Sys2Proof

/-! ### POST READINGS (R51, R52) -/

theorem parseEntries_length {count : Nat} {bs : List Byte} {es : List EntryLayout}
    (h : parseEntries count bs = some es) : es.length = count := by
  fun_induction parseEntries count bs generalizing es
  case case1 => cases h; rfl
  case case3 count bs e rest _ es' parsed ih =>
    cases h
    exact congrArg (· + 1) (ih parsed)
  all_goals cases h

/-- A payload laid out as R190 says holds one to eight entries. -/
theorem parsePosting_length {payload : List Byte} {es : List EntryLayout} (h : parsePosting payload = some es) :
    1 ≤ es.length ∧ es.length ≤ 8 := by
  cases payload with
  | nil => cases h
  | cons count bs =>
    simp only [parsePosting] at h
    split at h
    next inside =>
      rw [parseEntries_length h]
      simpa [inRange] using inside
    next => cases h

/-- Entries whose numbers all name slots have their readings one by one. -/
theorem map_entryReading {es : List EntryLayout} (h : ∀ e ∈ es, (entryReading e).isSome = true) :
    es.map entryReading = (es.filterMap entryReading).map some := by
  induction es with
  | nil => rfl
  | cons e es ih =>
    obtain ⟨r, hr⟩ := Option.isSome_iff_exists.1 (h e (List.mem_cons_self ..))
    rw [List.map_cons, List.filterMap_cons_some hr, List.map_cons, hr, ih fun x hx => h x (List.mem_cons_of_mem _ hx)]

section

variable {s : State} {l : Link} {es : List EntryLayout}

/-- The checks of R51 in their order. -/
theorem postingRefusal_owner (h : ¬∀ e ∈ es, entryPosted l e = true) : s.postingRefusal l es = some .owner := by
  have fails : es.all (entryPosted l) = false := by simpa using h
  simp [State.postingRefusal, fails]

theorem postingRefusal_range (posted : ∀ e ∈ es, entryPosted l e = true)
    (h : ¬∀ e ∈ es, (entryReading e).isSome = true ∧ entryInRange e = true) : s.postingRefusal l es = some .range := by
  have passes : es.all (entryPosted l) = true := by simpa using posted
  rw [State.postingRefusal, passes, firstRefusal_cons, if_pos rfl, firstRefusal_cons, firstRefusal_cons]
  split
  next named =>
    rw [if_neg]
    intro inside
    rw [List.all_eq_true] at named inside
    exact h fun e he => ⟨named e he, inside e he⟩
  next => rfl

/-- A posting whose entries are all posted by the link and in range is refused for want of room alone. -/
theorem postingRefusal_room (posted : ∀ e ∈ es, entryPosted l e = true)
    (inside : ∀ e ∈ es, (entryReading e).isSome = true ∧ entryInRange e = true) :
    s.postingRefusal l es = if (s.link l).intake.length + es.length ≤ 64 then none else some .intakeFull := by
  have passes : es.all (entryPosted l) = true := by simpa using posted
  have named : (es.all fun e => (entryReading e).isSome) = true := List.all_eq_true.2 fun e he => (inside e he).1
  have ranged : es.all entryInRange = true := List.all_eq_true.2 fun e he => (inside e he).2
  simp [State.postingRefusal, passes, named, ranged]

end

theorem postReadingsOwner_unlaid {payload : List Byte} (h : parsePosting payload = none) (l : Link) (s : State) :
    postReadingsOwner l payload s = (s, bare .format) := by
  simp only [postReadingsOwner, h]
  rfl

theorem postReadingsOwner_refused {payload : List Byte} {es : List EntryLayout} (h : parsePosting payload = some es)
    {l : Link} {s : State} {c : ResultCode} (refused : s.postingRefusal l es = some c) :
    postReadingsOwner l payload s = (s, bare c) := by
  simp only [postReadingsOwner, h, refused]
  rfl

theorem postReadingsOwner_accepted {payload : List Byte} {es : List EntryLayout} (h : parsePosting payload = some es)
    {l : Link} {s : State} (accepted : s.postingRefusal l es = none) :
    postReadingsOwner l payload s = (queueReadings l (es.filterMap entryReading) s, bare .accepted) := by
  simp only [postReadingsOwner, h, accepted]

theorem exec_postReadings {l : Link} {tag : Byte} {payload : List Byte} {s w : State} {r : ResultCode}
    (h : ReadyRunning l payload s) (ho : postReadingsOwner l payload (takeFrame l true s) = (w, bare r)) :
    exec (.postReadings l tag payload) s = .next (answered l 0x10 tag r [] w) :=
  congrArg Host.Outcome.next (takeRequest_answers h ho 0x10 tag)

/-! ### Arbitration (R56) -/

theorem nextEntry_idle {s : State} (h : s.unit ≠ .running) : s.nextEntry = none := by
  simp [State.nextEntry, State.servedLink, h]

theorem nextEntry_empty {s : State} (ship : s.shipLink.intake = []) (terminal : s.terminalLink.intake = []) :
    s.nextEntry = none := by simp [State.nextEntry, State.servedLink, ship, terminal]

/-- The entry at the head of the queue served. -/
theorem nextEntry_served {s : State} {l : Link} {e : IntakeEntry} {es : List IntakeEntry}
    (served : s.servedLink = some l) (head : (s.link l).intake = e :: es) : s.nextEntry = some (l, e) := by
  simp [State.nextEntry, served, head]

theorem servedLink_ship {s : State} {e : IntakeEntry} {es : List IntakeEntry} (running : s.unit = .running)
    (head : s.shipLink.intake = e :: es) (turn : s.terminalLink.intake = [] ∨ s.lastServed = .terminal) :
    s.servedLink = some .ship := by
  cases other : s.terminalLink.intake with
  | nil => simp [State.servedLink, running, head, other]
  | cons x xs =>
    have last : s.lastServed = .terminal := turn.resolve_left (by simp [other])
    simp [State.servedLink, running, head, other, last, otherLink]

theorem servedLink_terminal {s : State} {e : IntakeEntry} {es : List IntakeEntry} (running : s.unit = .running)
    (head : s.terminalLink.intake = e :: es) (turn : s.shipLink.intake = [] ∨ s.lastServed = .ship) :
    s.servedLink = some .terminal := by
  cases other : s.shipLink.intake with
  | nil => simp [State.servedLink, running, head, other]
  | cons x xs =>
    have last : s.lastServed = .ship := turn.resolve_left (by simp [other])
    simp [State.servedLink, running, head, other, last, otherLink]

/-- Settles O15: the owner's answer by the first check of R51 that fails, and the queue served by what the queues hold. -/
theorem readingsPostedAndServed : Obligations.ReadingsPostedAndServed := by
  constructor
  · intro l tag payload s ready u
    refine ⟨fun unlaid => exec_postReadings ready (postReadingsOwner_unlaid unlaid l u), fun es laid =>
      ⟨fun alien => ?_, fun posted outside => ?_, fun posted inside full => ?_, fun posted inside room => ?_⟩⟩
    · exact exec_postReadings ready (postReadingsOwner_refused laid (postingRefusal_owner alien))
    · exact exec_postReadings ready (postReadingsOwner_refused laid (postingRefusal_range posted outside))
    · refine exec_postReadings ready (postReadingsOwner_refused laid ?_)
      rw [postingRefusal_room posted inside, takeFrame_intake, if_neg (by omega)]
    · have readings := map_entryReading fun e he => (inside e he).1
      have count : es.length = (es.filterMap entryReading).length := by simpa using congrArg List.length readings
      obtain ⟨one, eight⟩ := parsePosting_length laid
      refine ⟨es.filterMap entryReading, readings, by omega, by omega, ?_⟩
      refine exec_postReadings ready ((postReadingsOwner_accepted laid ?_).trans ?_)
      · rw [postingRefusal_room posted inside, takeFrame_intake, if_pos room]
      · simp only [queueReadings, takeFrame_intake, takeFrame_clock, u]
  · exact fun s => ⟨nextEntry_idle, nextEntry_empty,
      fun e es running head turn => nextEntry_served (servedLink_ship running head turn) head,
      fun e es running head turn => nextEntry_served (servedLink_terminal running head turn) head⟩

/-! ### Slots that readings name (R57, R59) -/

theorem knownSlot_iff {s : State} {k : RecordSlot} :
    s.knownSlot k = true ↔
      (s.slot k).current ≠ none ∨ ∃ v, (s.slot k).pending = some v ∧ v.assembly = none := by
  rw [State.knownSlot, Bool.or_eq_true, hasProposed_iff, Option.isSome_iff_ne_none]

@[simp] theorem removeHead_slot (l : Link) (k : RecordSlot) (s : State) : (removeHead l s).slot k = s.slot k :=
  setLink_slot l _ k s

@[simp] theorem removeHead_tank (l : Link) (x : TankId) (s : State) : (removeHead l s).tank x = s.tank x :=
  setLink_tank l _ x s

@[simp] theorem removeHead_channel (l : Link) (m : Fin 4) (s : State) : (removeHead l s).channel m = s.channel m :=
  setLink_channel l _ m s

@[simp] theorem removeHead_knownSlot (l : Link) (k : RecordSlot) (s : State) :
    (removeHead l s).knownSlot k = s.knownSlot k := by simp [State.knownSlot, State.hasProposed]

/-- An entry discarded leaves its mark on the link that posted it (R60). -/
theorem reportDiscard_removeHead (l : Link) (s : State) :
    reportDiscard l (removeHead l s) =
      { setLink l
          { s.link l with
            intake := (s.link l).intake.tail, report := { (s.link l).report with readingDiscarded := true } } s with
        lastServed := l } := by cases l <;> rfl

/-! ### Line conditions (R59) -/

theorem exec_takeLineConditions {l : Link} {e : IntakeEntry} {m : Fin 4} {t : Int} {s : State}
    (serves : s.nextEntry = some (l, e)) (he : e.reading = .lineConditions m t) :
    exec .takeLineConditions s = .next (takeLine l m t e.arrival (removeHead l s)) := by
  simp only [exec, execTakeLineConditions, serves, he]

/-- Settles O18: kept or discarded by what the meter's slot holds. -/
theorem lineConditionsTaken : Obligations.LineConditionsTaken := by
  intro l e m temperature s serves he taken known
  rw [exec_takeLineConditions serves he, takeLine, removeHead_knownSlot]
  refine ⟨fun holds => ?_, fun unknown => ?_⟩
  · rw [if_pos (knownSlot_iff.2 holds), removeHead_channel]
    cases l <;> rfl
  · rw [if_neg (mt knownSlot_iff.1 unknown), reportDiscard_removeHead]

/-! ### Ship conditions (R58) -/

theorem exec_takeShipCondition {l : Link} {e : IntakeEntry} {f : ConditionFields} {s : State}
    (serves : s.nextEntry = some (l, e)) (he : e.reading = .shipCondition f) :
    exec .takeShipCondition s = .next (takeCondition f e.arrival (removeHead l s)) := by
  simp only [exec, execTakeShipCondition, serves, he]

theorem takeCondition_frame (f : ConditionFields) (arrival : Clock) (s : State) :
    takeCondition f arrival s =
      { s with shipCondition := some { fields := f, arrival }, tanks := (takeCondition f arrival s).tanks } :=
  computeTanks_frame shipTankIds (setShipCondition (some { fields := f, arrival }) s)

/-- The new condition leaves the shore tanks, and every ship tank is computed with it. -/
theorem takeCondition_tank (f : ConditionFields) (arrival : Clock) (s : State) (x : TankId) :
    (takeCondition f arrival s).tank x =
      if x ∈ shipTankIds then
        { s.tank x with figure := figureDue (takeCondition f arrival s) x (s.tank x) }
      else s.tank x := by
  have due : figureDue (takeCondition f arrival s) x = figureDue (setShipCondition (some { fields := f, arrival }) s) x :=
    funext fun k => figureDue_congr (computeTanks_slots ..) (computeTanks_parcels ..) (computeTanks_shipCondition ..) x k
  rw [due]
  exact computeTanks_tank shipTankIds x _

/-- Settles O17: the condition replaces the latest one, and each ship tank has the figure due with it. -/
theorem shipConditionTaken : Obligations.ShipConditionTaken := by
  intro l e f s serves he
  refine ⟨_, exec_takeShipCondition serves he, takeCondition_frame f e.arrival (removeHead l s), fun x => ?_⟩
  rw [takeCondition_tank, removeHead_tank]
  cases x with
  | ship n =>
    rw [if_pos ((mem_shipTankIds _).2 ⟨n, rfl⟩)]
    exact ⟨rfl, rfl⟩
  | shore n =>
    rw [if_neg fun ship => by obtain ⟨m, hm⟩ := (mem_shipTankIds _).1 ship; cases hm]
    exact ⟨rfl, rfl⟩

end Sys2Proof.Machine
end

section
/-! A tank reading taken (R57, R60, R62), and the stages of its computation as they are spelled (R68 to R79). -/

namespace Sys2Proof.Machine

open Sys2Proof

/-! ### The reading kept (R57, R84) -/

theorem exec_takeTankReading {l : Link} {e : IntakeEntry} {x : TankId} {f : TankFields} {s : State}
    (serves : s.nextEntry = some (l, e))
    (he : (∃ n, x = .ship n ∧ e.reading = .shipTank n f) ∨ ∃ n, x = .shore n ∧ e.reading = .shoreTank n f) :
    exec .takeTankReading s = .next (takeTank l x f e.arrival (removeHead l s)) := by
  obtain ⟨n, rfl, reading⟩ | ⟨n, rfl, reading⟩ := he <;> simp only [exec, execTakeTankReading, serves, reading]

theorem keepReading_frame (x : TankId) (f : TankFields) (arrival : Clock) (s : State) :
    keepReading x f arrival s = { s with tanks := (keepReading x f arrival s).tanks } :=
  computeTank_frame x (setTank x _ s)

/-- The tank keeps the reading with the figure due from it, and no other tank changes. -/
theorem keepReading_tank (x y : TankId) (f : TankFields) (arrival : Clock) (s : State) :
    (keepReading x f arrival s).tank y =
      if y = x then
        { reading := some { fields := f, arrival }
          figure := figureDue (keepReading x f arrival s) x
            { reading := some { fields := f, arrival }, figure := (s.tank x).figure } }
      else s.tank y := by
  have due : figureDue (keepReading x f arrival s) x =
      figureDue (setTank x { s.tank x with reading := some { fields := f, arrival } } s) x :=
    funext fun k => figureDue_congr (computeTank_slots ..) (computeTank_parcels ..) (computeTank_shipCondition ..) x k
  rw [due, keepReading, computeTank_tank]
  split
  next own => rw [own, setTank_tank_same]
  next other => exact setTank_tank_ne other _ _

/-! ### Slopes, ullage and level (R69, R70) -/

theorem clampInt_eq {lo hi : Int} (h : lo ≤ hi) (v : Int) : clampInt lo hi v = max lo (min hi v) := by
  unfold clampInt
  split
  · omega
  · split <;> omega

/-- The slopes before clamping, trim then list; 0 and 0 for a shore tank and without a ship condition (R69). -/
def rawSlopes (g : Geometry) (c : Option ShipCondition) : Int × Int :=
  match g, c with
  | .ship _ _ _ lbp, some v => (rawTrimSlope v.fields lbp, v.fields.listSlope)
  | _, _ => (0, 0)

/-- The slopes used (R69). -/
def slopesUsed (g : Geometry) (c : Option ShipCondition) : Int × Int :=
  (clampSlope (rawSlopes g c).1, clampSlope (rawSlopes g c).2)

/-- The corrected ullage of a ship tank from the slopes used; a shore tank has none (R70). -/
def ullageOf (g : Geometry) (c : Option ShipCondition) (f : TankFields) : Int :=
  match g with
  | .ship _ longitudinal transverse _ =>
    correctedUllage f.gauge longitudinal transverse (slopesUsed g c).1 (slopesUsed g c).2
  | .shore => 0

theorem slopesUsed_ship (height : Nat) (longitudinal transverse : Int) (lbp : Nat) (c : Option ShipCondition) :
    slopesUsed (.ship height longitudinal transverse lbp) c = (trimSlope c lbp, listSlope c) := by cases c <;> rfl

/-- TRIM_CLAMPED marks slopes that were brought into their range. -/
theorem trimMark_iff (g : Geometry) (c : Option ShipCondition) :
    trimMark g c = true ↔ slopesUsed g c ≠ rawSlopes g c := by
  cases g with
  | shore => exact iff_of_false Bool.false_ne_true (not_not.2 rfl)
  | ship height longitudinal transverse lbp =>
    cases c with
    | none => exact iff_of_false Bool.false_ne_true (not_not.2 rfl)
    | some v =>
      simp only [trimMark, slopesClamped, slopesUsed, rawSlopes, Bool.or_eq_true, bne_iff_ne, ne_eq, Prod.mk.injEq]
      tauto

theorem levelOf_eq (g : Geometry) (c : Option ShipCondition) (f : TankFields) :
    levelOf g c f = match g with
      | .ship height _ _ _ => height - clampInt 0 height (ullageOf g c f)
      | .shore => f.gauge := by
  cases g with
  | shore => rfl
  | ship height longitudinal transverse lbp => simp only [levelOf, ullageOf, slopesUsed_ship]

theorem ullageClamped_iff (g : Geometry) (c : Option ShipCondition) (f : TankFields) :
    ullageClamped g c f = true ↔
      ∃ height x y z, g = .ship height x y z ∧ clampInt 0 height (ullageOf g c f) ≠ ullageOf g c f := by
  cases g with
  | shore => simp [ullageClamped]
  | ship height longitudinal transverse lbp =>
    simp only [ullageClamped, ullageOf, slopesUsed_ship, bne_iff_ne]
    constructor
    · exact fun clamped => ⟨height, longitudinal, transverse, lbp, rfl, clamped⟩
    · rintro ⟨_, _, _, _, same, clamped⟩
      cases same
      exact clamped

/-! ### Water and temperature (R72 to R75) -/

theorem waterLevel_eq (water : Nat) (level : Int) : waterLevel water level = min (water : Int) level := by
  unfold waterLevel
  split <;> omega

theorem waterClamped_iff (water : Option Nat) (level : Int) :
    waterClamped water level = true ↔ ∃ v, water = some v ∧ level < v := by
  cases water <;> simp [waterClamped]

theorem validTemperature_iff (v : Int) : validTemperature v = true ↔ -4000 ≤ v ∧ v ≤ 15000 := by
  simp [validTemperature]

/-- The value of a probe at its height, where it counts (R73). -/
def countedProbe (level : Int) : Option Int × Nat → Option Int
  | (some v, height) => if -4000 ≤ v ∧ v ≤ 15000 ∧ (height : Int) ≤ level then some v else none
  | (none, _) => none

/-- The values that count are taken probe by probe (R73). -/
theorem countedValues_eq (heights : List Nat) (values : List (Option Int)) (level : Int) :
    countedValues heights values level = (values.zip heights).filterMap (countedProbe level) := by
  induction heights generalizing values with
  | nil => cases values <;> rfl
  | cons h hs ih =>
    cases values with
    | nil => rfl
    | cons value vs =>
      cases value with
      | none => exact ih vs
      | some v =>
        have counts : (validTemperature v && decide ((h : Int) ≤ level)) = true ↔
            -4000 ≤ v ∧ v ≤ 15000 ∧ (h : Int) ≤ level := by simp [validTemperature, and_assoc]
        rw [countedValues, List.zip_cons_cons, List.filterMap_cons, countedProbe, ih]
        simp only [counts]
        split <;> rfl

theorem temperatureUsed_eq (counted : List Int) (held : Option Int) :
    temperatureUsed counted held = if counted = [] then held else some (roundDiv counted.sum counted.length) := by
  cases counted <;> rfl

/-! ### Factors (R76, R77) -/

theorem vcfOf_eq (a b : Nat) (t : Int) : vcfOf a b t = max 850000 (min 1050000 (rawVcf a b t)) :=
  clampInt_eq (by decide) _

theorem shellTemperature_eq (posted used : Option Int) :
    shellTemperature posted used = match posted with
      | some v => if -4000 ≤ v ∧ v ≤ 15000 then some v else used
      | none => used := by
  cases posted with
  | none => rfl
  | some v => simp only [shellTemperature, validTemperature_iff]

/-! ### The figure (R75, R79) -/

section

variable (b : TankBasis) (c : Option ShipCondition) (r : TankReading) (held : Option Int)

/-- The probe values that count at the figure's level (R73). -/
def figureCounted : List Int := countedValues b.probes (probeValues r.fields) (levelOf b.geometry c r.fields)

/-- The temperature a figure is computed with (R74, R75). -/
def figureTemperature : Option Int := temperatureUsed (figureCounted b c r) held

/-- The volumes of a figure (R71, R72). -/
def figureVolumes : Volumes :=
  let tov := volumeAt b.table (levelOf b.geometry c r.fields)
  let fw := freeWater b.table r.fields.water (levelOf b.geometry c r.fields)
  { tov, fw, nov := tov - fw, readingTime := r.arrival }

/-- The marks of a figure, stage by stage (R69 to R77). -/
def figureMarks : Marks :=
  let used := figureTemperature b c r held
  let level := levelOf b.geometry c r.fields
  { levelClamped := ullageClamped b.geometry c r.fields || decide ((topLevel b.table : Int) < level)
      || waterClamped r.fields.water level
    trimClamped := trimMark b.geometry c
    tempHeld := (figureCounted b c r).isEmpty && held.isSome
    noTemp := used.isNone
    vcfClamped := used.any (vcfWasClamped b.a b.b)
    tableHeld := false }

variable {b c r held}

/-- A figure with a temperature is CURRENT. -/
theorem computeFigure_some {t : Int} (h : figureTemperature b c r held = some t) :
    computeFigure b c r held =
      { status := .current, volumes := some (figureVolumes b c r), temperature := some t
        shell := figureShell b.geometry r.fields.shell (some t), vcf := some (vcfOf b.a b.b t)
        gsv := some (gsvOf (figureVolumes b c r).nov (figureShell b.geometry r.fields.shell (some t)) (vcfOf b.a b.b t))
        marks := figureMarks b c r held } := by
  have used : temperatureUsed (figureCounted b c r) held = some t := h
  simp only [figureMarks, h]
  unfold figureCounted at used ⊢
  simp only [computeFigure, used]
  rfl

/-- A figure without a temperature is CURRENT where the tank holds no product (R75). -/
theorem computeFigure_none (h : figureTemperature b c r held = none) :
    computeFigure b c r held =
      let figure : Figure :=
        { status := .none, volumes := some (figureVolumes b c r), temperature := none, shell := none, vcf := none
          gsv := none, marks := figureMarks b c r held }
      if (figureVolumes b c r).nov = 0 then
        { figure with status := .current, shell := figureShell b.geometry r.fields.shell none, gsv := some 0 }
      else figure := by
  have used : temperatureUsed (figureCounted b c r) held = none := h
  simp only [figureMarks, h]
  unfold figureCounted at used ⊢
  simp only [computeFigure, used]
  rfl

variable (b c r held)

/-- What a figure holds whether it is CURRENT or not. -/
theorem computeFigure_always :
    (computeFigure b c r held).volumes = some (figureVolumes b c r)
      ∧ (computeFigure b c r held).temperature = figureTemperature b c r held
      ∧ (computeFigure b c r held).vcf = (figureTemperature b c r held).map (vcfOf b.a b.b)
      ∧ (computeFigure b c r held).marks = figureMarks b c r held := by
  cases used : figureTemperature b c r held with
  | some t =>
    rw [computeFigure_some used]
    exact ⟨rfl, rfl, rfl, rfl⟩
  | none =>
    rw [computeFigure_none used]
    dsimp only
    split <;> exact ⟨rfl, rfl, rfl, rfl⟩

variable {b c r held}

/-- A figure with a VCF is CURRENT, its GSV taken from the VCF (R78, R79). -/
theorem computeFigure_of_vcf {v : Int} (h : (figureTemperature b c r held).map (vcfOf b.a b.b) = some v) :
    (computeFigure b c r held).status = .current
      ∧ (computeFigure b c r held).shell = figureShell b.geometry r.fields.shell (figureTemperature b c r held)
      ∧ (computeFigure b c r held).gsv =
          some (gsvOf (figureVolumes b c r).nov
            (figureShell b.geometry r.fields.shell (figureTemperature b c r held)) v) := by
  obtain ⟨t, used, rfl⟩ := Option.map_eq_some_iff.1 h
  rw [computeFigure_some used, used]
  exact ⟨rfl, rfl, rfl⟩

/-- A figure without a VCF is CURRENT with a GSV of 0 where TOV is FW, and else NONE (R75). -/
theorem computeFigure_without_vcf (h : (figureTemperature b c r held).map (vcfOf b.a b.b) = none) :
    ((figureVolumes b c r).tov = (figureVolumes b c r).fw →
      (computeFigure b c r held).status = .current
        ∧ (computeFigure b c r held).shell = figureShell b.geometry r.fields.shell (figureTemperature b c r held)
        ∧ (computeFigure b c r held).gsv = some 0)
      ∧ ((figureVolumes b c r).tov ≠ (figureVolumes b c r).fw →
        (computeFigure b c r held).status = .none ∧ (computeFigure b c r held).shell = none
          ∧ (computeFigure b c r held).gsv = none) := by
  have used := Option.map_eq_none_iff.1 h
  have nov : (figureVolumes b c r).nov = 0 ↔ (figureVolumes b c r).tov = (figureVolumes b c r).fw := Int.sub_eq_zero
  rw [computeFigure_none used, used]
  refine ⟨fun same => ?_, fun other => ?_⟩
  · rw [if_pos (nov.2 same)]
    exact ⟨rfl, rfl, rfl⟩
  · rw [if_neg (mt nov.1 other)]
    exact ⟨rfl, rfl, rfl⟩

end

/-! ### The statement's own spelling of the stages -/

section

variable (b : TankBasis) (c : Option ShipCondition) (r : TankReading) (held : Option Int)

theorem levelClamped_iff :
    (figureMarks b c r held).levelClamped = true ↔
      (∃ height x y z, b.geometry = .ship height x y z
          ∧ clampInt 0 height (ullageOf b.geometry c r.fields) ≠ ullageOf b.geometry c r.fields)
        ∨ (topLevel b.table : Int) < levelOf b.geometry c r.fields
        ∨ ∃ v, r.fields.water = some v ∧ levelOf b.geometry c r.fields < v := by
  simp only [figureMarks, Bool.or_eq_true, decide_eq_true_eq, ullageClamped_iff, waterClamped_iff, or_assoc]

theorem tempHeld_iff :
    (figureMarks b c r held).tempHeld = true ↔ figureCounted b c r = [] ∧ held ≠ none := by
  simp only [figureMarks, Bool.and_eq_true, List.isEmpty_iff, Option.isSome_iff_ne_none]

theorem vcfClamped_iff :
    (figureMarks b c r held).vcfClamped = true ↔
      ∃ t, figureTemperature b c r held = some t
        ∧ (figureTemperature b c r held).map (vcfOf b.a b.b) ≠ some (rawVcf b.a b.b t) := by
  cases used : figureTemperature b c r held with
  | none => simp [figureMarks, used]
  | some t => simp [figureMarks, used, vcfWasClamped]

theorem figureVolumes_fw :
    (figureVolumes b c r).fw = match r.fields.water with
      | some v => volumeAt b.table (min (v : Int) (levelOf b.geometry c r.fields))
      | none => 0 := by
  cases water : r.fields.water with
  | none => simp [figureVolumes, freeWater, water]
  | some v => simp [figureVolumes, freeWater, water, waterLevel_eq]

end

/-- Settles O16: kept or discarded by what the tank's slot holds; the computation stage by stage. -/
theorem tankReadingTaken : Obligations.TankReadingTaken := by
  constructor
  · intro l e x f s serves he taken known
    rw [exec_takeTankReading serves he, takeTank, removeHead_knownSlot]
    refine ⟨fun unknown => ?_, fun holds => ⟨_, by rw [if_pos (knownSlot_iff.2 holds)], ?_, fun y hy => ?_, ?_⟩⟩
    · rw [if_neg (mt knownSlot_iff.1 unknown), reportDiscard_removeHead]
    · exact keepReading_frame x f e.arrival (removeHead l s)
    · rw [keepReading_tank, if_neg hy, removeHead_tank]
    · rw [keepReading_tank, if_pos rfl, removeHead_tank]
      exact ⟨rfl, rfl⟩
  · intro b c r held clamp raw slopes ullage level counted used rawVcf vcf shellAt shell tov fw gross f
    have clampEq : ∀ {low high : Int} v, low ≤ high → clamp low high v = clampInt low high v :=
      fun v h => (clampInt_eq h v).symm
    have rawEq : raw = rawSlopes b.geometry c := rfl
    have slopesEq : slopes = slopesUsed b.geometry c := by
      simp only [slopes, rawEq, clampEq _ (show (-5000 : Int) ≤ 5000 by decide)]
      rfl
    have ullageEq : ullage = ullageOf b.geometry c r.fields := by
      simp only [ullage, slopesEq]
      rfl
    have levelEq : level = levelOf b.geometry c r.fields := by
      rw [levelOf_eq]
      simp only [level, ullageEq, clampEq _ (Int.natCast_nonneg _)] <;> rfl
    have countedEq : counted = figureCounted b c r := by
      rw [figureCounted, countedValues_eq, ← levelEq]
      rfl
    have usedEq : used = figureTemperature b c r held := by
      rw [figureTemperature, temperatureUsed_eq, ← countedEq]
    have vcfEq : vcf = (figureTemperature b c r held).map (vcfOf b.a b.b) := by
      rw [← usedEq, show vcfOf b.a b.b = _ from funext (vcfOf_eq b.a b.b)]
      rfl
    have shellEq : shell = figureShell b.geometry r.fields.shell (figureTemperature b c r held) := by
      rw [← usedEq]
      have shellAtEq : shellAt = shellTemperature r.fields.shell used := (shellTemperature_eq _ _).symm
      simp only [shell, shellAtEq]
      rfl
    have tovEq : tov = (figureVolumes b c r).tov := by
      simp only [tov, levelEq]
      rfl
    have fwEq : fw = (figureVolumes b c r).fw := by
      rw [figureVolumes_fw]
      simp only [fw, levelEq] <;> rfl
    have gsvEq : ∀ v, roundDiv (gross * v) 1000000 =
        gsvOf (figureVolumes b c r).nov (figureShell b.geometry r.fields.shell (figureTemperature b c r held)) v := by
      intro v
      simp only [gross, tovEq, fwEq, shellEq]
      cases figureShell b.geometry r.fields.shell (figureTemperature b c r held) <;> rfl
    obtain ⟨volumes, temperature, vcfHeld, marks⟩ := computeFigure_always b c r held
    refine ⟨?_, temperature.trans usedEq.symm, vcfHeld.trans vcfEq.symm, fun v hv => ?_, fun hv same => ?_,
      fun hv other => ?_, ?_, ?_, ?_, ?_, ?_, congrArg Marks.tableHeld marks⟩
    · rw [tovEq, fwEq]
      exact volumes
    · rw [shellEq, gsvEq]
      exact computeFigure_of_vcf (vcfEq.symm.trans hv)
    · rw [shellEq]
      exact (computeFigure_without_vcf (vcfEq.symm.trans hv)).1 (tovEq.symm.trans (same.trans fwEq))
    · exact (computeFigure_without_vcf (vcfEq.symm.trans hv)).2 (tovEq ▸ fwEq ▸ other)
    all_goals simp only [f, marks]
    · rw [slopesEq, rawEq]
      exact trimMark_iff b.geometry c
    · rw [levelClamped_iff, levelEq, ullageEq]
      simp only [clampEq _ (Int.natCast_nonneg _)]
    · rw [tempHeld_iff, countedEq]
    · rw [usedEq]
      exact Option.isNone_iff_eq_none
    · rw [usedEq, vcfEq]
      exact vcfClamped_iff b c r held

end Sys2Proof.Machine
end

section
/-! Pulses counted (R91, R92) and the sample of a channel by its mode (R93 to R98). -/

namespace Sys2Proof.Machine

open Sys2Proof

/-! ### A channel written twice, or with what it holds -/

theorem setChannel_setChannel (m : Fin 4) (u v : Channel) (s : State) :
    setChannel m u (setChannel m v s) = setChannel m u s := by simp [setChannel]

/-- Writing to a channel what it holds changes nothing. -/
theorem setChannel_self (m : Fin 4) (s : State) : setChannel m (s.channel m) s = s := by
  have held : s.channels.set m (s.channel m) = s.channels := vector_ext_get fun i => by
    rw [vector_get_set]
    split
    next same => rw [same]; rfl
    next => rfl
  rw [setChannel, held]

/-! ### Pulses (R92) -/

theorem exec_meterPulse {s : State} (taken : s.unit ≠ .inactive) (m : Fin 4) :
    exec (.meterPulse m) s = .next (setChannel m { s.channel m with pulses := (s.channel m).pulses + 1 } s) := by
  simp only [exec, execMeterPulse, if_neg taken]

/-! ### The rate test (R94) -/

theorem rateExceeded_eq (maxRate difference span : Nat) :
    rateExceeded maxRate difference span = decide (span ≠ 0 ∧ maxRate * span < difference * 10) := by
  simp [rateExceeded, bne, beq_eq_decide]

theorem markAfter_eq (maxRate difference span : Nat) (mark : Bool) :
    markAfter maxRate difference span mark =
      if span = 0 then mark else decide (maxRate * span < difference * 10) := by
  unfold markAfter
  split
  next => rfl
  next moved => simp only [rateExceeded_eq, ne_eq, moved, not_false_eq_true, true_and]

/-! ### The sample by mode (R93, R94) -/

/-- A RUNNING channel is bound to a live parcel (R93). -/
theorem isLive_of_running {s : State} {m : Fin 4} {p : Fin 6} (running : s.channelMode m = .running)
    (bound : s.meterParcel m = some p) : isLive (s.parcel p).state = true := by
  by_contra idle
  simp [State.channelMode, bound, idle] at running

theorem takeSample_idle {s : State} {m : Fin 4} (idle : s.channelMode m = .idle) :
    takeSample m s = setChannel m (idleSample s.clock (s.meterInForce m) (s.channel m)) s := by
  rw [takeSample, idle]

theorem takeSample_waiting {s : State} {m : Fin 4} (waiting : s.channelMode m = .waiting) : takeSample m s = s := by
  rw [takeSample, waiting]

theorem closingSample_live {s : State} {m : Fin 4} {p : Fin 6} {meter : MeterRecord} {r : ParcelRecord}
    (bound : s.meterParcel m = some p) (live : isLive (s.parcel p).state = true)
    (metered : s.meterInForce m = some meter) (recorded : s.parcelInForce p = some r) :
    closingSample m s = setChannel m (runningSample s.clock meter r (s.channel m)) s := by
  simp only [closingSample, bound, live, metered, recorded, if_true]

theorem takeSample_running {s : State} {m : Fin 4} {p : Fin 6} {meter : MeterRecord} {r : ParcelRecord}
    (running : s.channelMode m = .running) (bound : s.meterParcel m = some p)
    (metered : s.meterInForce m = some meter) (recorded : s.parcelInForce p = some r) :
    takeSample m s = setChannel m (runningSample s.clock meter r (s.channel m)) s := by
  rw [takeSample, running]
  exact closingSample_live bound (isLive_of_running running bound) metered recorded

/-- A closing sample writes its own channel alone. -/
theorem closingSample_frame (m : Fin 4) (s : State) :
    closingSample m s = setChannel m ((closingSample m s).channel m) s := by
  unfold closingSample
  repeat' split
  all_goals simp only [setChannel_channel_same, setChannel_self]

/-- A sample writes its own channel alone. -/
theorem takeSample_frame (m : Fin 4) (s : State) : takeSample m s = setChannel m ((takeSample m s).channel m) s := by
  cases mode : s.channelMode m with
  | idle => rw [takeSample_idle mode, setChannel_channel_same]
  | waiting => rw [takeSample_waiting mode, setChannel_self]
  | running =>
    rw [takeSample, mode]
    exact closingSample_frame m s

/-! ### What a sample leaves in its channel (R94 to R98) -/

/-- Without a meter record in force the mark is cleared. -/
theorem idleSample_none (now : Clock) (c : Channel) :
    idleSample now none c = { c with lastCount := c.pulses, lastTime := now, overRate := false } := rfl

theorem idleSample_some (now : Clock) (r : MeterRecord) (c : Channel) :
    idleSample now (some r) c =
      { c with
        lastCount := c.pulses, lastTime := now
        overRate :=
          if (now - c.lastTime).toNat = 0 then c.overRate
          else decide (r.maxRate * (now - c.lastTime).toNat < (c.pulses - c.lastCount).toNat * 10) } := by
  simp only [idleSample, advanceSample, markAfter_eq, pulseDifference, sampleSpan, elapsed]

theorem runningSample_eq {c : Channel} {a : AccumulatorSet} (h : c.accumulators = some a) (now : Clock)
    (meter : MeterRecord) (r : ParcelRecord) :
    runningSample now meter r c =
      { c with
        lastCount := c.pulses, lastTime := now, lastLineVcf := some (lineVcf r c.lineConditions)
        overRate :=
          if (now - c.lastTime).toNat = 0 then c.overRate
          else decide (meter.maxRate * (now - c.lastTime).toNat < (c.pulses - c.lastCount).toNat * 10)
        accumulators := some (addSample now meter r c a) } := by
  simp only [runningSample, advanceSample, markAfter_eq, pulseDifference, sampleSpan, elapsed, h, Option.map_some]

/-! ### The sample timer (R94) -/

theorem sampleDue_iff {s : State} {m : Fin 4} {start : Clock} (h : (s.channel m).timer = some start) :
    s.sampleDue m = true ↔ 100 ≤ (s.clock - start).toNat := by
  simp only [State.sampleDue, h, reaches_iff, samplePeriod]

theorem exec_sampleTimerExpiry_early {s : State} {m : Fin 4} (early : ¬s.sampleDue m = true) :
    exec (.sampleTimerExpiry m) s = .next s := by
  simp only [exec, execSampleTimerExpiry, if_neg early]

/-- A due sample leaves its channel as the sample has it, with the timer started again. -/
theorem exec_sampleTimerExpiry_due {s : State} {m : Fin 4} (due : s.sampleDue m = true) :
    exec (.sampleTimerExpiry m) s =
      .next (setChannel m { (takeSample m s).channel m with timer := some s.clock } s) := by
  have clock : (takeSample m s).clock = s.clock := by rw [takeSample_frame, setChannel_clock]
  have restarted : startSampleTimer m (takeSample m s) =
      setChannel m { (takeSample m s).channel m with timer := some s.clock } s := by
    rw [startSampleTimer, clock]
    conv_lhs => rw [takeSample_frame m s]
    rw [setChannel_setChannel, setChannel_channel_same]
  simp only [exec, execSampleTimerExpiry, if_pos due, restarted]

/-- Settles O43: the pulse by its one channel write; the sample by the mode of its channel. -/
theorem metersCountAndSample : Obligations.MetersCountAndSample := by
  constructor
  · intro m s taken
    refine ⟨_, exec_meterPulse taken m, rfl, ?_, ?_, fun x other => setChannel_channel_ne other _ _⟩
    · rw [setChannel_channel_same]
      exact BitVec.toNat_add _ _
    · rw [setChannel_channel_same]
  · intro m s start timer c span pulses due
    refine ⟨fun early => exec_sampleTimerExpiry_early (mt (sampleDue_iff timer).1 early), fun reached =>
      ⟨_, exec_sampleTimerExpiry_due ((sampleDue_iff timer).2 reached), rfl,
        fun x other => setChannel_channel_ne other _ _, ?_⟩⟩
    rw [setChannel_channel_same]
    refine ⟨fun waiting => ?_, fun idle => ?_, fun p meter r a running bound metered recorded held => ?_⟩
    · rw [takeSample_waiting waiting]
    · rw [takeSample_idle idle, setChannel_channel_same]
      cases s.meterInForce m with
      | none => rw [idleSample_none]
      | some meter => rw [idleSample_some]
    · rw [takeSample_running running bound metered recorded, setChannel_channel_same, runningSample_eq held, addSample,
        rateExceeded_eq]
      rfl

end Sys2Proof.Machine
end

section
/-! Who holds what: the unit and its load, the record slots, the states of the parcel slots and the concurrence table, and the
moves by which a command can change them (R22, R36, R110 to R117, R203 to R208). -/

namespace Sys2Proof.Machine

open Sys2Proof

/-- The parts of the state that the concurrence table and the bindings rest on. -/
structure Custody where
  unit : UnitState
  load : LoadPhase
  slots : Vector Slot 60
  states : Fin 6 → ParcelState
  concurrence : List Concurrence

/-- The unit's own parts of that kind. -/
def State.custody (s : State) : Custody :=
  { unit := s.unit, load := s.load, slots := s.slots, states := fun p => (s.parcel p).state, concurrence := s.concurrence }

/-- Record slot `k` holds `v`. -/
def Custody.setSlot (k : RecordSlot) (v : Slot) (c : Custody) : Custody :=
  { c with slots := c.slots.set (slotIndex k) v }

/-- Parcel slot `p` is in state `st`; the table stands. -/
def Custody.setState (p : Fin 6) (st : ParcelState) (c : Custody) : Custody :=
  { c with states := Function.update c.states p st }

/-- Parcel slot `p` enters state `st`, and the entries that `st` does not allow leave the table (R117). -/
def Custody.enter (p : Fin 6) (st : ParcelState) (c : Custody) : Custody :=
  { c.setState p st with concurrence := c.concurrence.filter (entryStays p st) }

/-! ### Reading the parts back -/

section

variable {s t : State}

theorem unit_of_custody {c : Custody} (h : t.custody = c) : t.unit = c.unit := congrArg Custody.unit h

theorem load_of_custody {c : Custody} (h : t.custody = c) : t.load = c.load := congrArg Custody.load h

theorem slots_of_custody {c : Custody} (h : t.custody = c) : t.slots = c.slots := congrArg Custody.slots h

theorem state_of_custody {c : Custody} (h : t.custody = c) (p : Fin 6) : (t.parcel p).state = c.states p :=
  congrFun (congrArg Custody.states h) p

theorem concurrence_of_custody {c : Custody} (h : t.custody = c) : t.concurrence = c.concurrence :=
  congrArg Custody.concurrence h

theorem slot_of_custody {c : Custody} (h : t.custody = c) (k : RecordSlot) : t.slot k = c.slots.get (slotIndex k) := by
  rw [State.slot, slots_of_custody h]

theorem awaitsCheckpoints_congr (h : t.load = s.load) : t.awaitsCheckpoints ↔ s.awaitsCheckpoints := by
  rw [State.awaitsCheckpoints, State.awaitsCheckpoints, h]

theorem awaitsCheckpoints_of_custody (h : t.custody = s.custody) : t.awaitsCheckpoints ↔ s.awaitsCheckpoints :=
  awaitsCheckpoints_congr (load_of_custody h)

end

theorem Custody.setSlot_get (k j : RecordSlot) (v : Slot) (s : State) :
    (s.custody.setSlot k v).slots.get (slotIndex j) = if j = k then v else s.slot j :=
  setSlot_slot k j v s

@[simp] theorem Custody.enter_slots (p : Fin 6) (st : ParcelState) (c : Custody) : (c.enter p st).slots = c.slots := rfl

@[simp] theorem Custody.enter_unit (p : Fin 6) (st : ParcelState) (c : Custody) : (c.enter p st).unit = c.unit := rfl

@[simp] theorem Custody.enter_load (p : Fin 6) (st : ParcelState) (c : Custody) : (c.enter p st).load = c.load := rfl

theorem Custody.setState_same (p : Fin 6) (st : ParcelState) (c : Custody) : (c.setState p st).states p = st :=
  Function.update_self ..

theorem Custody.setState_other {p q : Fin 6} (h : q ≠ p) (st : ParcelState) (c : Custody) :
    (c.setState p st).states q = c.states q := Function.update_of_ne h ..

/-! ### The moves -/

/-- DEFINED or beyond: the states in which the current record of a slot is bound (R35, R109). -/
def bindsCurrent (st : ParcelState) : Prop := st ≠ .free ∧ st ≠ .proposed

/-- The change from `u` to `v` brings no version into a record slot, unless the pending version, with its content, becomes
the current one. -/
def VersionsKept (u v : Slot) : Prop :=
  (v.pending = none ∨ v.pending = u.pending)
    ∧ ∀ c, v.current = some c →
      (∃ b, u.current = some b ∧ c.content = b.content) ∨ (u.pending ≠ none ∧ v.pending = none)

/-- What one move of a command can change of those parts (R110 to R117, R203 to R208). A parcel record slot takes a new
version in a move of its own, the parcel slot with it, but for a reload and for a proposal that restores a SUSPECT version. -/
inductive CustodyMove (s t : State) : Prop
  | same (h : t.custody = s.custody)
  | removed (es : List Concurrence) (h : t.custody = { s.custody with concurrence := es }) (fewer : es.Sublist s.concurrence)
  | declared (e : Concurrence) (h : t.custody = { s.custody with concurrence := s.concurrence ++ [e] })
      (running : s.unit = .running) (first : s.entry e.subject e.kind = none) (allowed : s.EntryAllowed e)
  | record (k : RecordSlot) (v : Slot) (h : t.custody = s.custody.setSlot k v) (move : SlotMove s.unit (s.slot k) v)
      (kept : ∀ p, k = .parcel p → VersionsKept (s.slot k) v ∨ s.isSuspect k = true
        ∨ (s.awaitsCheckpoints ∧ v.pending = (s.slot k).pending))
  | entered (p : Fin 6) (st : ParcelState) (h : t.custody = s.custody.enter p st)
      (bound : (st = .free ∧ (s.slot (.parcel p)).pending = none) ∨ (bindsCurrent (s.parcel p).state ∧ bindsCurrent st))
  | proposed (p : Fin 6) (r : ParcelRecord) (q : PendingVersion)
      (h : t.custody = (s.custody.setSlot (.parcel p) { s.slot (.parcel p) with pending := some q }).enter p .proposed)
      (running : s.unit = .running)
      (complete : q.assembly = none → recordDigest q.content q.points = q.declaredDigest)
      (content : q.content = .parcel r) (unbound : s.boundElsewhere p r = false)
  | defined (p : Fin 6) (r : ParcelRecord) (q : PendingVersion) (o : LastOutcome)
      (h : t.custody = (s.custody.setSlot (.parcel p)
        { current := some (enteredVersion q), pending := none, last := o }).enter p .defined)
      (state : (s.parcel p).state = .proposed) (held : (s.slot (.parcel p)).pending = some q)
      (complete : q.assembly = none) (content : q.content = .parcel r)
  | broughtUp (p : Fin 6) (r : ParcelRecord) (st : ParcelState) (h : t.custody = s.custody.setState p st)
      (loading : s.unit ≠ .running) (reached : ¬s.awaitsCheckpoints) (record : s.parcelRecord p = some r)
      (unbound : s.boundElsewhere p r = false) (binds : bindsCurrent st)
  | phase (u : UnitState) (ph : LoadPhase) (h : t.custody = { s.custody with unit := u, load := ph })
      (loading : s.unit ≠ .running) (complete : u = .running → ph = .complete)
      (awaits : t.awaitsCheckpoints → s.awaitsCheckpoints)
  | reset (h : t.custody = { State.reset.custody with unit := .inactive })

/-- What any number of moves, one after another, can change. -/
abbrev CustodyMoves : State → State → Prop := Relation.ReflTransGen CustodyMove

end Sys2Proof.Machine
end

section
/-! The concurrence table along the moves (R113, R117): entries are made where they are allowed, and leave where a slot's new
state does not allow them. -/

namespace Sys2Proof.Machine

open Sys2Proof

section

variable {s t : State}

theorem entryAllowed_congr (states : ∀ p, (t.parcel p).state = (s.parcel p).state) (e : Concurrence) :
    t.EntryAllowed e ↔ s.EntryAllowed e := by
  unfold State.EntryAllowed
  cases e.subject <;> simp [states]

/-- An entry that stays when slot `p` has changed state is allowed where it was allowed before (R117). -/
theorem State.EntryAllowed.stays {e : Concurrence} (h : s.EntryAllowed e) {p : Fin 6}
    (others : ∀ q, q ≠ p → (t.parcel q).state = (s.parcel q).state) (stays : entryStays p (t.parcel p).state e = true) :
    t.EntryAllowed e := by
  unfold State.EntryAllowed at h ⊢
  unfold entryStays at stays
  cases subject : e.subject with
  | parcel q =>
    rw [subject] at h stays
    by_cases hq : q = p
    · subst hq
      simpa using stays
    · simpa [others q hq] using h
  | unit =>
    rw [subject] at h stays
    obtain ⟨kind, states⟩ := h
    refine ⟨kind, fun q => ?_⟩
    by_cases hq : q = p
    · rw [hq]
      exact stays
    · rw [others q hq]
      exact states q

/-- Fewer entries, in the same states, are as allowed as the table was. -/
theorem TableAllowed.fewer (h : TableAllowed s) (unit : t.unit = s.unit)
    (states : ∀ p, (t.parcel p).state = (s.parcel p).state) (fewer : t.concurrence.Sublist s.concurrence) :
    TableAllowed t := by
  obtain ⟨allowed, once, idle⟩ := h
  refine ⟨fun e he => (entryAllowed_congr states e).2 (allowed e (fewer.subset he)), once.sublist fewer, fun hu => ?_⟩
  have empty := idle (unit ▸ hu)
  rw [empty] at fewer
  exact List.sublist_nil.1 fewer

/-- A slot that enters a state takes the entries that state does not allow out of the table (R117). -/
theorem TableAllowed.entered (h : TableAllowed s) {c : Custody} {p : Fin 6} {st : ParcelState}
    (custody : t.custody = c.enter p st) (unit : c.unit = s.unit) (states : c.states = s.custody.states)
    (table : c.concurrence = s.concurrence) : TableAllowed t := by
  obtain ⟨allowed, once, idle⟩ := h
  have filtered : t.concurrence = s.concurrence.filter (entryStays p st) := by
    rw [← table]
    exact concurrence_of_custody custody
  have own : (t.parcel p).state = st := (state_of_custody custody p).trans (Custody.setState_same ..)
  have others : ∀ q, q ≠ p → (t.parcel q).state = (s.parcel q).state := fun q hq =>
    ((state_of_custody custody q).trans (Custody.setState_other hq _ _)).trans (congrFun states q)
  refine ⟨fun e he => ?_, ?_, fun hu => ?_⟩
  · rw [filtered, List.mem_filter] at he
    obtain ⟨member, stays⟩ := he
    exact (allowed e member).stays others (own ▸ stays)
  · rw [filtered]
    exact once.sublist List.filter_sublist
  · rw [filtered, idle]
    · rfl
    · rw [← unit]
      rwa [unit_of_custody custody] at hu

/-- A first declaration joins the table (R113, R115). -/
theorem TableAllowed.declared (h : TableAllowed s) {e : Concurrence} (unit : t.unit = s.unit)
    (states : ∀ p, (t.parcel p).state = (s.parcel p).state) (table : t.concurrence = s.concurrence ++ [e])
    (running : s.unit = .running) (first : s.entry e.subject e.kind = none) (allowed : s.EntryAllowed e) :
    TableAllowed t := by
  obtain ⟨all, once, -⟩ := h
  refine ⟨fun x hx => ?_, ?_, fun hu => absurd (unit.trans running) hu⟩
  · rw [entryAllowed_congr states]
    rw [table, List.mem_append, List.mem_singleton] at hx
    obtain hx | rfl := hx
    · exact all x hx
    · exact allowed
  · rw [table, List.pairwise_append]
    refine ⟨once, List.pairwise_singleton _ _, fun a ha b hb => ?_⟩
    rw [List.mem_singleton] at hb
    subst hb
    rintro ⟨subject, kind⟩
    have none := List.find?_eq_none.1 first a ha
    simp [subject, kind] at none

/-- Without entries nothing has to be allowed. -/
theorem tableAllowed_empty (h : t.concurrence = []) : TableAllowed t := by
  refine ⟨fun e he => ?_, ?_, fun _ => h⟩
  · rw [h] at he
    cases he
  · rw [h]
    exact .nil

theorem TableAllowed.move (h : TableAllowed s) (move : CustodyMove s t) : TableAllowed t := by
  have idle : s.unit ≠ .running → s.concurrence = [] := h.2.2
  cases move with
  | same e => exact h.fewer (unit_of_custody e) (state_of_custody e) (concurrence_of_custody e ▸ List.Sublist.refl _)
  | removed es e fewer =>
    exact h.fewer (unit_of_custody e) (state_of_custody e) ((concurrence_of_custody e).symm ▸ fewer)
  | declared x e running first allowed =>
    exact h.declared (unit_of_custody e) (state_of_custody e) (concurrence_of_custody e) running first allowed
  | record k v e _ _ =>
    exact h.fewer (unit_of_custody e) (state_of_custody e) ((concurrence_of_custody e).symm ▸ List.Sublist.refl _)
  | entered p st e _ => exact h.entered e rfl rfl rfl
  | proposed p r q e => exact h.entered e rfl rfl rfl
  | defined p r q o e => exact h.entered e rfl rfl rfl
  | broughtUp p r st e loading => exact tableAllowed_empty ((concurrence_of_custody e).trans (idle loading))
  | phase u ph e loading => exact tableAllowed_empty ((concurrence_of_custody e).trans (idle loading))
  | reset e => exact tableAllowed_empty (concurrence_of_custody e)

end

end Sys2Proof.Machine
end

section
/-! The bindings along the moves (R89, R108, R207): a slot binds what its record names only where no other slot has it
bound. -/

namespace Sys2Proof.Machine

open Sys2Proof

section

variable {s t : State}

/-! ### One slot's binding -/

theorem boundRecord_congr {p : Fin 6} (state : (t.parcel p).state = (s.parcel p).state)
    (slot : t.slot (.parcel p) = s.slot (.parcel p)) : t.boundRecord p = s.boundRecord p := by
  unfold State.boundRecord State.parcelRecord
  rw [state, slot]

theorem boundRecord_proposed {p : Fin 6} (h : (s.parcel p).state = .proposed) :
    s.boundRecord p = (s.slot (.parcel p)).pending.bind fun v => contentParcel v.content := by
  simp [State.boundRecord, h]

theorem boundRecord_current {p : Fin 6} (h : bindsCurrent (s.parcel p).state) : s.boundRecord p = s.parcelRecord p := by
  obtain ⟨notFree, notProposed⟩ := h
  unfold State.boundRecord
  split
  · contradiction
  · contradiction
  · rfl

/-- A slot that changes alone keeps every tank and meter bound once where what it then binds it bound before, or no other
slot has bound. -/
theorem BoundOnce.change (h : BoundOnce s) {p : Fin 6} (others : ∀ q, q ≠ p → t.boundRecord q = s.boundRecord q)
    (own : ∀ r, t.boundRecord p = some r → s.boundRecord p = some r ∨ s.boundElsewhere p r = false) : BoundOnce t := by
  have apart : ∀ q r o, q ≠ p → t.boundRecord p = some r → t.boundRecord q = some o →
      (∀ x ∈ tanksNamed r, x ∉ tanksNamed o) ∧ ∀ m, r.meter = some m → o.meter ≠ some m := by
    intro q r o hq hr ho
    rw [others q hq] at ho
    obtain bound | unbound := own r hr
    · exact h p q r o (Ne.symm hq) bound ho
    · have no := mt (boundElsewhere_iff s p r).2 (by simp [unbound])
      exact ⟨fun x hx ho' => no ⟨q, o, hq, ho, .inl ⟨x, hx, ho'⟩⟩, fun m hm ho' => no ⟨q, o, hq, ho, .inr ⟨m, hm, ho'⟩⟩⟩
  intro a b r o hab ha hb
  by_cases hap : a = p
  · subst hap
    exact apart b r o (Ne.symm hab) ha hb
  by_cases hbp : b = p
  · subst hbp
    obtain ⟨tanks, meters⟩ := apart a o r hab hb ha
    exact ⟨fun x hx hx' => tanks x hx' hx, fun m hm hm' => meters m hm' hm⟩
  rw [others a hap] at ha
  rw [others b hbp] at hb
  exact h a b r o hab ha hb

/-! ### What the bindings stand on -/

/-- The bindings, with what they rest on along the moves. -/
structure BindingStands (s : State) : Prop where
  digests : DigestsHold s
  loaded : s.unit = .running → s.load = .complete
  bound : BindingSound s

theorem BindingStands.not_awaits (h : BindingStands s) (running : s.unit = .running) : ¬s.awaitsCheckpoints := by
  rw [State.awaitsCheckpoints, h.loaded running]
  exact id

theorem BindingStands.pending_none (h : BindingStands s) (loading : s.unit ≠ .running) (p : Fin 6) :
    (s.slot (.parcel p)).pending = none := by
  by_contra pending
  exact loading (h.bound.2.1 p pending).2

theorem BindingStands.pending_none_of_state (h : BindingStands s) {p : Fin 6} (state : (s.parcel p).state ≠ .proposed) :
    (s.slot (.parcel p)).pending = none := by
  by_contra pending
  exact state (h.bound.2.1 p pending).1

theorem BindingStands.free (h : BindingStands s) (awaits : s.awaitsCheckpoints) (p : Fin 6) :
    (s.parcel p).state = .free := h.bound.2.2 awaits p

/-- The bindings rest on the unit, the load, the states of the parcel slots and the parcel records. -/
theorem BindingSound.congr (h : BindingSound s) (states : ∀ p, (t.parcel p).state = (s.parcel p).state)
    (slots : ∀ p, t.slot (.parcel p) = s.slot (.parcel p)) (running : s.unit = .running → t.unit = .running)
    (awaits : t.awaitsCheckpoints → s.awaitsCheckpoints) : BindingSound t := by
  obtain ⟨once, pending, free⟩ := h
  have bound : ∀ p, t.boundRecord p = s.boundRecord p := fun p => boundRecord_congr (states p) (slots p)
  refine ⟨fun p q r o hpq hp hq => once p q r o hpq (bound p ▸ hp) (bound q ▸ hq), fun p hp => ?_, fun ha p => ?_⟩
  · rw [slots p] at hp
    obtain ⟨proposed, run⟩ := pending p hp
    exact ⟨(states p).trans proposed, running run⟩
  · rw [states p]
    exact free (awaits ha) p

/-- The bindings after a change of slot `p` alone. -/
theorem BindingSound.change (h : BindingSound s) {p : Fin 6} (unit : t.unit = s.unit) (load : t.load = s.load)
    (states : ∀ q, q ≠ p → (t.parcel q).state = (s.parcel q).state)
    (slots : ∀ q, q ≠ p → t.slot (.parcel q) = s.slot (.parcel q))
    (own : ∀ r, t.boundRecord p = some r → s.boundRecord p = some r ∨ s.boundElsewhere p r = false)
    (pending : (t.slot (.parcel p)).pending ≠ none → (t.parcel p).state = .proposed ∧ s.unit = .running)
    (free : s.awaitsCheckpoints → (t.parcel p).state = .free) : BindingSound t := by
  obtain ⟨once, held, idle⟩ := h
  refine ⟨once.change (fun q hq => boundRecord_congr (states q hq) (slots q hq)) own, fun q hq => ?_, fun ha q => ?_⟩
  · rw [unit]
    by_cases hqp : q = p
    · subst hqp
      exact pending hq
    · rw [states q hqp]
      exact held q (slots q hqp ▸ hq)
  · rw [awaitsCheckpoints_congr load] at ha
    by_cases hqp : q = p
    · subst hqp
      exact free ha
    · rw [states q hqp]
      exact idle ha q

/-! ### The moves -/

theorem digestsHold_move (h : DigestsHold s) (move : CustodyMove s t) : DigestsHold t := by
  have moved : ∀ {k v}, SlotMove s.unit (s.slot k) v → t.slots = s.slots.set (slotIndex k) v → DigestsHold t :=
    fun move e => (digestsHold_closed.slot h move).congr e
  cases move with
  | same e => exact h.congr (slots_of_custody e)
  | removed es e => exact h.congr (slots_of_custody e)
  | declared x e => exact h.congr (slots_of_custody e)
  | record k v e move => exact moved move (slots_of_custody e)
  | entered p st e => exact h.congr (slots_of_custody e)
  | proposed p r q e running complete => exact moved (.proposed q running complete) (slots_of_custody e)
  | defined p r q o e state held complete =>
    refine digestsHold_iff.2 fun j => ?_
    rw [slot_of_custody e j, Custody.enter_slots, Custody.setSlot_get]
    split
    · have entered : SlotMove s.unit (s.slot (.parcel p)) _ := .entered q held complete
      exact SlotMove.slotTrue (u := s.unit) (.outcome o) (entered.slotTrue (h.slot (.parcel p)))
    · exact h.slot j
  | broughtUp p r st e => exact h.congr (slots_of_custody e)
  | phase u ph e => exact h.congr (slots_of_custody e)
  | reset e => exact digestsHold_reset.congr (slots_of_custody e)

/-- A record slot's change that brings its parcel no version leaves the bindings (R22). -/
theorem BindingStands.record (h : BindingStands s) {p : Fin 6} {v : Slot}
    (custody : t.custody = s.custody.setSlot (.parcel p) v)
    (kept : VersionsKept (s.slot (.parcel p)) v ∨ (s.awaitsCheckpoints ∧ v.pending = (s.slot (.parcel p)).pending)) :
    BindingSound t := by
  have states := state_of_custody custody
  have own : t.slot (.parcel p) = v := by rw [slot_of_custody custody, Custody.setSlot_get, if_pos rfl]
  have others : ∀ q, q ≠ p → t.slot (.parcel q) = s.slot (.parcel q) := fun q hq => by
    rw [slot_of_custody custody, Custody.setSlot_get, if_neg (by simpa using hq)]
  have older : v.pending = none ∨ v.pending = (s.slot (.parcel p)).pending := kept.elim (·.1) (.inr ·.2)
  refine h.bound.change (p := p) (unit_of_custody custody) (load_of_custody custody) (fun q _ => states q) others
    (fun r hr => .inl ?_) (fun pending => ?_) fun awaits => (states p).trans (h.free awaits p)
  · by_cases free : (t.parcel p).state = .free
    · rw [boundRecord_free free] at hr
      cases hr
    by_cases proposed : (t.parcel p).state = .proposed
    · rw [boundRecord_proposed proposed, own] at hr
      obtain none | same := older
      · rw [none] at hr
        cases hr
      · rwa [boundRecord_proposed ((states p).symm.trans proposed), ← same]
    · have binds : bindsCurrent (s.parcel p).state := by
        rw [bindsCurrent, ← show (t.parcel p).state = (s.parcel p).state from states p]
        exact ⟨free, proposed⟩
      rw [boundRecord_current (s := t) ⟨free, proposed⟩, State.parcelRecord, own] at hr
      obtain ⟨c, current, content⟩ := Option.bind_eq_some_iff.1 hr
      rw [boundRecord_current binds, State.parcelRecord]
      obtain ⟨-, versions⟩ | ⟨awaits, -⟩ := kept
      · obtain ⟨b, before, same⟩ | ⟨entered, -⟩ := versions c current
        · rw [before, Option.bind_some, ← same, content]
        · exact absurd (h.pending_none_of_state binds.2) entered
      · exact absurd (h.free awaits p) binds.1
  · rw [own] at pending
    obtain none | same := older
    · exact absurd none pending
    · rw [same] at pending
      obtain ⟨proposed, running⟩ := h.bound.2.1 p pending
      exact ⟨(states p).trans proposed, running⟩

/-- The bindings after a move that leaves every other parcel slot and its record slot. -/
theorem BindingStands.enter (h : BindingStands s) {c : Custody} (custody : t.custody = c) {p : Fin 6} {st : ParcelState}
    (states : c.states = (s.custody.setState p st).states) (unit : c.unit = s.unit) (load : c.load = s.load)
    (slots : ∀ q, q ≠ p → t.slot (.parcel q) = s.slot (.parcel q))
    (own : (t.parcel p).state = st → ∀ r, t.boundRecord p = some r → s.boundRecord p = some r ∨ s.boundElsewhere p r = false)
    (pending : (t.slot (.parcel p)).pending ≠ none → st = .proposed ∧ s.unit = .running)
    (free : s.awaitsCheckpoints → st = .free) : BindingSound t := by
  have state : ∀ q, (t.parcel q).state = (s.custody.setState p st).states q := fun q => by
    rw [state_of_custody custody, states]
  have entered : (t.parcel p).state = st := (state p).trans (Custody.setState_same ..)
  refine h.bound.change (p := p) ((unit_of_custody custody).trans unit) ((load_of_custody custody).trans load)
    (fun q hq => (state q).trans (Custody.setState_other hq ..)) slots (own entered) (fun hp => ?_) fun ha => ?_
  · rw [entered]
    exact pending hp
  · rw [entered]
    exact free ha

theorem bindingSound_move (h : BindingStands s) (move : CustodyMove s t) : BindingSound t := by
  have same : (∀ p, (t.parcel p).state = (s.parcel p).state) → t.slots = s.slots → t.unit = s.unit → t.load = s.load →
      BindingSound t := fun states slots unit load =>
    h.bound.congr states (fun p => congrArg (fun v => v.get (slotIndex (.parcel p))) slots) (unit.trans ·) (awaitsCheckpoints_congr load).1
  have written : ∀ {c : Custody} {p : Fin 6} {v : Slot}, t.custody = c → c.slots = (s.custody.setSlot (.parcel p) v).slots →
      ∀ q, t.slot (.parcel q) = if q = p then v else s.slot (.parcel q) := fun e slots q => by
    rw [slot_of_custody e, slots, Custody.setSlot_get]
    simp
  cases move with
  | same e => exact same (state_of_custody e) (slots_of_custody e) (unit_of_custody e) (load_of_custody e)
  | removed es e => exact same (state_of_custody e) (slots_of_custody e) (unit_of_custody e) (load_of_custody e)
  | declared x e => exact same (state_of_custody e) (slots_of_custody e) (unit_of_custody e) (load_of_custody e)
  | record k v e move kept =>
    obtain ⟨p, rfl⟩ | other : (∃ p, k = .parcel p) ∨ ∀ p, .parcel p ≠ k := by cases k <;> simp
    · refine h.record e ?_
      obtain versions | suspect | awaits := kept p rfl
      · exact .inl versions
      · unfold State.isSuspect at suspect
        split at suspect
        next c current =>
          have sound := (h.digests.1 _ c current).1
          rw [sound] at suspect
          cases suspect
        next => cases suspect
      · exact .inr awaits
    · refine h.bound.congr (state_of_custody e) (fun p => ?_) ((unit_of_custody e).trans ·)
        (awaitsCheckpoints_congr (load_of_custody e)).1
      rw [slot_of_custody e, Custody.setSlot_get, if_neg (other p)]
  | entered p st e bound =>
    have slot : ∀ k, t.slot k = s.slot k := slot_of_custody e
    refine h.enter e (p := p) rfl rfl rfl (fun q _ => slot _)
      (fun state r hr => .inl ?_) (fun pending => ?_) fun awaits => ?_
    · obtain ⟨rfl, -⟩ | ⟨before, after⟩ := bound
      · rw [boundRecord_free state] at hr
        cases hr
      · rw [boundRecord_current (state ▸ after), State.parcelRecord, slot] at hr
        rwa [boundRecord_current before]
    · rw [slot] at pending
      obtain ⟨-, none⟩ | ⟨before, -⟩ := bound
      · exact absurd none pending
      · exact absurd (h.pending_none_of_state before.2) pending
    · obtain ⟨free, -⟩ | ⟨before, -⟩ := bound
      · exact free
      · exact absurd (h.free awaits p) before.1
  | proposed p r q e running complete content unbound =>
    have slot := written e rfl
    refine h.enter e (p := p) rfl rfl rfl
      (fun x hx => by rw [slot, if_neg hx]) (fun state o ho => .inr ?_) (fun _ => ⟨rfl, running⟩) fun awaits =>
        absurd awaits (h.not_awaits running)
    rw [boundRecord_proposed state, slot, if_pos rfl] at ho
    simp only [Option.bind_some, content, contentParcel, Option.some.injEq] at ho
    rwa [← ho]
  | defined p r q o e state held complete content =>
    have slot := written e rfl
    refine h.enter e (p := p) rfl rfl rfl
      (fun x hx => by rw [slot, if_neg hx]) (fun defined x hx => .inl ?_) (fun pending => ?_) fun awaits => ?_
    · have binds : bindsCurrent (t.parcel p).state := by rw [defined]; exact ⟨nofun, nofun⟩
      rw [boundRecord_current binds, State.parcelRecord, slot, if_pos rfl] at hx
      rwa [boundRecord_proposed state, held]
    · rw [slot, if_pos rfl] at pending
      exact absurd rfl pending
    · rw [h.free awaits p] at state
      cases state
  | broughtUp p r st e loading reached record unbound binds =>
    have slot : ∀ k, t.slot k = s.slot k := slot_of_custody e
    refine h.enter e (p := p) rfl rfl rfl (fun q _ => slot _)
      (fun state o ho => .inr ?_) (fun pending => ?_) fun awaits => absurd awaits reached
    · rw [boundRecord_current (state ▸ binds), State.parcelRecord, slot] at ho
      cases record.symm.trans ho
      exact unbound
    · rw [slot] at pending
      exact absurd (h.pending_none loading p) pending
  | phase u ph e loading _ awaits =>
    exact h.bound.congr (state_of_custody e) (fun p => slot_of_custody e _) (fun running => absurd running loading) awaits
  | reset e =>
    exact bindingSound_reset.congr (state_of_custody e) (fun p => slot_of_custody e _) (fun running => by cases running)
      (awaitsCheckpoints_congr (load_of_custody e)).1

theorem BindingStands.move (h : BindingStands s) (move : CustodyMove s t) : BindingStands t := by
  refine ⟨digestsHold_move h.digests move, fun running => ?_, bindingSound_move h move⟩
  have same : t.unit = s.unit → t.load = s.load → t.load = .complete := fun unit load =>
    load.trans (h.loaded (unit.symm.trans running))
  cases move with
  | same e => exact same (unit_of_custody e) (load_of_custody e)
  | removed es e => exact same (unit_of_custody e) (load_of_custody e)
  | declared x e => exact same (unit_of_custody e) (load_of_custody e)
  | record k v e => exact same (unit_of_custody e) (load_of_custody e)
  | entered p st e => exact same (unit_of_custody e) (load_of_custody e)
  | proposed p r q e => exact same (unit_of_custody e) (load_of_custody e)
  | defined p r q o e => exact same (unit_of_custody e) (load_of_custody e)
  | broughtUp p r st e => exact same (unit_of_custody e) (load_of_custody e)
  | phase u ph e _ complete => exact (load_of_custody e).trans (complete ((unit_of_custody e).symm.trans running))
  | reset e =>
    rw [unit_of_custody e] at running
    cases running

end

end Sys2Proof.Machine
end

section
/-! Operations on records and parcel slots as moves (R16 to R44, R110 to R131): first those that move nothing, then each by the
moves it is made of. -/

namespace Sys2Proof.Machine

open Sys2Proof

/-! ### Operations that move nothing -/

section

variable (s : State)

@[simp] theorem setLink_custody (l : Link) (u : LinkUnit) : (setLink l u s).custody = s.custody := by
  simp [State.custody]
@[simp] theorem setTank_custody (x : TankId) (v : Tank) : (setTank x v s).custody = s.custody := rfl
@[simp] theorem setChannel_custody (m : Fin 4) (v : Channel) : (setChannel m v s).custody = s.custody := rfl
@[simp] theorem setAccumulators_custody (m : Fin 4) (a : Option AccumulatorSet) :
    (setAccumulators m a s).custody = s.custody := rfl
@[simp] theorem setPoolFree_custody (n : Nat) : (setPoolFree n s).custody = s.custody := rfl
@[simp] theorem setAlarm_custody : (setAlarm s).custody = s.custody := rfl
@[simp] theorem setShipCondition_custody (c : Option ShipCondition) : (setShipCondition c s).custody = s.custody := rfl
@[simp] theorem setPowered_custody (b : Bool) : (setPowered b s).custody = s.custody := rfl
@[simp] theorem setAuditTimer_custody (t : Option Timer) : (setAuditTimer t s).custody = s.custody := rfl
@[simp] theorem setRestored_custody (p : Fin 6) (v : RestoredItems) : (setRestored p v s).custody = s.custody := rfl
@[simp] theorem setPendingCommands_custody (cs : List Instr) : (setPendingCommands cs s).custody = s.custody := rfl
@[simp] theorem startInterval_custody : (startInterval s).custody = s.custody := rfl
@[simp] theorem removeEntry_custody (subject : Subject) (kind : DeclKind) :
    (removeEntry subject kind s).custody =
      { s.custody with concurrence := s.concurrence.filter fun e => !(e.subject == subject && e.kind == kind) } := rfl
@[simp] theorem setStopLine_custody (l : Link) (b : Bool) : (setStopLine l b s).custody = s.custody := by
  simp [State.custody]
@[simp] theorem appendTrail_custody (b : TrailBody) : (appendTrail b s).custody = s.custody := by
  simp [State.custody]
@[simp] theorem giveWrite_custody (o : StoreObject) (c : StoredContent) : (giveWrite o c s).custody = s.custody := by
  simp [State.custody]
@[simp] theorem startWrite_custody : (startWrite s).custody = s.custody := by
  simp [State.custody]
@[simp] theorem completeWrite_custody : (completeWrite s).custody = s.custody := by
  unfold completeWrite
  split
  · rfl
  · exact startWrite_custody _
@[simp] theorem silenceTest_custody (l : Link) : (silenceTest l s).custody = s.custody := by
  simp [State.custody]
@[simp] theorem settingsChanged_custody : (settingsChanged s).custody = s.custody := by
  simp [State.custody]
@[simp] theorem computeTank_custody (x : TankId) : (computeTank x s).custody = s.custody := by
  simp [State.custody]
@[simp] theorem computeTanks_custody (xs : List TankId) : (computeTanks xs s).custody = s.custody := by
  simp [State.custody]
@[simp] theorem holdTank_custody (x : TankId) : (holdTank x s).custody = s.custody := rfl
@[simp] theorem holdTanks_custody (xs : List TankId) : (holdTanks xs s).custody = s.custody := by
  simp [State.custody]
@[simp] theorem clearTank_custody (x : TankId) : (clearTank x s).custody = s.custody := rfl
@[simp] theorem clearTanks_custody (xs : List TankId) : (clearTanks xs s).custody = s.custody := by
  simp [State.custody]
@[simp] theorem tellSuspect_custody (k : RecordSlot) : (tellSuspect k s).custody = s.custody := by
  cases k <;> simp [tellSuspect]
@[simp] theorem tellWithdrawn_custody (k : RecordSlot) : (tellWithdrawn k s).custody = s.custody := by
  cases k <;> simp [tellWithdrawn]
@[simp] theorem tellReloaded_custody (k : RecordSlot) : (tellReloaded k s).custody = s.custody := by
  cases k <;> simp [tellReloaded]
@[simp] theorem clearReadings_custody (xs : List TankId) : (clearReadings xs s).custody = s.custody := by
  rw [clearReadings_frame]
  rfl
@[simp] theorem openChannel_custody (p : Fin 6) (m : Fin 4) : (openChannel p m s).custody = s.custody := rfl
@[simp] theorem closingSample_custody (m : Fin 4) : (closingSample m s).custody = s.custody := by
  unfold closingSample
  repeat' split
  all_goals rfl
@[simp] theorem sampleAtClose_custody (p : Fin 6) : (sampleAtClose p s).custody = s.custody := by
  unfold sampleAtClose
  split <;> simp
@[simp] theorem takeSample_custody (m : Fin 4) : (takeSample m s).custody = s.custody := by
  unfold takeSample
  split <;> simp
@[simp] theorem faultyFrame_custody (l : Link) (f : FrameFault) : (faultyFrame l f s).custody = s.custody := by
  cases f <;> simp [faultyFrame]
@[simp] theorem removeHead_custody (l : Link) : (removeHead l s).custody = s.custody :=
  setLink_custody s l _
@[simp] theorem takeTank_custody (l : Link) (x : TankId) (f : TankFields) (arrival : Clock) :
    (takeTank l x f arrival s).custody = s.custody := by
  unfold takeTank
  split <;> simp [keepReading, reportDiscard, updateReport]
@[simp] theorem takeLine_custody (l : Link) (m : Fin 4) (temperature : Int) (arrival : Clock) :
    (takeLine l m temperature arrival s).custody = s.custody := by
  unfold takeLine
  split <;> simp [reportDiscard, updateReport]
@[simp] theorem advanceWalk_custody (i : Fin 60) : (advanceWalk i s).custody = s.custody := by
  unfold advanceWalk
  split <;> rfl
@[simp] theorem restoreAccumulators_custody (r : ParcelRecord) (a : Option AccumulatorSet) :
    (restoreAccumulators r a s).custody = s.custody := by
  unfold restoreAccumulators
  split <;> rfl
@[simp] theorem loadLinkParameters_custody (l : Link) : (loadLinkParameters l s).custody = s.custody := by
  unfold loadLinkParameters
  repeat' split
  all_goals simp
@[simp] theorem reportStopLine_custody (l : Link) : (reportStopLine l s).custody = s.custody := by
  unfold reportStopLine
  split <;> simp
@[simp] theorem startSampleTimers_custody : (startSampleTimers s).custody = s.custody :=
  foldl_keeps (P := fun w => w.custody = s.custody) (fun _ _ h => h) allMeters rfl
@[simp] theorem tickClock_custody : (tickClock s).custody = s.custody := by
  unfold tickClock
  split <;> rfl

/-! ### Operations that write one part -/

theorem setOutcome_custody (k : RecordSlot) (o : LastOutcome) :
    (setOutcome k o s).custody = s.custody.setSlot k { s.slot k with last := o } := by
  cases o <;> simp only [setOutcome, appendTrail_custody] <;> rfl

theorem setParcel_custody (p : Fin 6) (v : Parcel) : (setParcel p v s).custody = s.custody.setState p v.state := by
  have states : (fun q => ((setParcel p v s).parcel q).state) = Function.update s.custody.states p v.state := by
    funext q
    rw [setParcel_parcel, Function.update_apply]
    split <;> rfl
  simp only [State.custody, setParcel_unit, setParcel_load, setParcel_slots, setParcel_concurrence, states]
  rfl

/-- A parcel slot written with its state as it stood. -/
theorem setParcel_custody_same {p : Fin 6} {v : Parcel} (h : v.state = (s.parcel p).state) :
    (setParcel p v s).custody = s.custody := by
  rw [setParcel_custody, Custody.setState, h]
  show { s.custody with states := Function.update s.custody.states p (s.custody.states p) } = s.custody
  rw [Function.update_eq_self]

theorem emptyParcel_custody (p : Fin 6) (m : Option (Fin 4)) :
    (emptyParcel p m s).custody = s.custody.setState p .free := by
  cases m <;> exact setParcel_custody s p .reset

/-- The hand-offs of a slot in state `st` take the entries `st` does not allow out of the table (R117). -/
theorem pruneConcurrence_custody {c : Custody} {p : Fin 6} {st : ParcelState} (h : s.custody = c.setState p st) :
    (pruneConcurrence p s).custody = c.enter p st := by
  have state : (s.parcel p).state = st := (state_of_custody h p).trans (Custody.setState_same ..)
  have pruned : (pruneConcurrence p s).custody =
      { s.custody with concurrence := s.concurrence.filter (entryStays p (s.parcel p).state) } := rfl
  rw [pruned, state, concurrence_of_custody h, h]
  rfl

theorem announce_custody {c : Custody} {p : Fin 6} {st : ParcelState} (d : StateDetail)
    (h : s.custody = c.setState p st) : (announce p d s).custody = c.enter p st := by
  simpa [announce, giveCheckpoint] using pruneConcurrence_custody s h

theorem announceFree_custody {c : Custody} {p : Fin 6} {st : ParcelState} (b : Bool)
    (h : s.custody = c.setState p st) : (announceFree p b s).custody = c.enter p st := by
  simpa [announceFree] using pruneConcurrence_custody s h

theorem leaveProposed_custody (p : Fin 6) (m : Option (Fin 4)) (b : Bool) :
    (leaveProposed p m b s).custody = s.custody.enter p .free := by
  simpa [leaveProposed, removeCheckpoint] using announceFree_custody _ b (emptyParcel_custody s p m)

end

/-! ### One move -/

section

variable {s t w : State}

/-- What differs in nothing the moves tell is moved to as well. -/
theorem CustodyMoves.same (h : CustodyMoves s t) (e : w.custody = t.custody) : CustodyMoves s w := h.tail (.same e)

theorem custodyMoves_same (e : t.custody = s.custody) : CustodyMoves s t := .single (.same e)

theorem custodyMoves_removed {es : List Concurrence} (e : t.custody = { s.custody with concurrence := es })
    (fewer : es.Sublist s.concurrence) : CustodyMoves s t := .single (.removed es e fewer)

theorem custodyMoves_entered {p : Fin 6} {st : ParcelState} (e : t.custody = s.custody.enter p st)
    (before : bindsCurrent (s.parcel p).state) (after : bindsCurrent st) : CustodyMoves s t :=
  .single (.entered p st e (.inr ⟨before, after⟩))

theorem custodyMoves_freed {p : Fin 6} (e : t.custody = s.custody.enter p .free)
    (gone : (s.slot (.parcel p)).pending = none) : CustodyMoves s t := .single (.entered p .free e (.inl ⟨rfl, gone⟩))

/-- A slot changed and announced enters the state it was changed to. -/
theorem custodyMoves_change (p : Fin 6) (d : StateDetail) (v : Parcel) (before : bindsCurrent (s.parcel p).state)
    (after : bindsCurrent v.state) : CustodyMoves s (announce p d (setParcel p v s)) :=
  custodyMoves_entered (announce_custody _ d (setParcel_custody s p v)) before after

theorem custodyMoves_record {k : RecordSlot} {v : Slot} (e : t.custody = s.custody.setSlot k v)
    (move : SlotMove s.unit (s.slot k) v) (kept : VersionsKept (s.slot k) v) : CustodyMoves s t :=
  .single (.record k v e move fun _ _ => .inl kept)

/-! ### Record slots -/

/-- Versions that leave, and outcomes, bring no version in. -/
theorem versionsKept_of_le {u v : Slot} (current : v.current = none ∨ v.current = u.current)
    (pending : v.pending = none ∨ v.pending = u.pending) : VersionsKept u v := by
  refine ⟨pending, fun c hc => ?_⟩
  obtain none | same := current
  · rw [none] at hc
    cases hc
  · exact .inl ⟨c, same ▸ hc, rfl⟩

theorem setOutcome_moves (k : RecordSlot) (o : LastOutcome) (s : State) : CustodyMoves s (setOutcome k o s) :=
  custodyMoves_record (setOutcome_custody s k o) (.outcome o) (versionsKept_of_le (.inr rfl) (.inr rfl))

/-- A pending version leaves its slot. -/
theorem pendingGone_moves {k : RecordSlot} (e : t.custody = s.custody.setSlot k { s.slot k with pending := none }) :
    CustodyMoves s t := custodyMoves_record e .pendingGone (versionsKept_of_le (.inr rfl) (.inl rfl))

/-- A current version leaves its slot. -/
theorem currentGone_moves {k : RecordSlot} (e : t.custody = s.custody.setSlot k { s.slot k with current := none }) :
    CustodyMoves s t := custodyMoves_record e .currentGone (versionsKept_of_le (.inl rfl) (.inr rfl))

theorem emptied_moves {k : RecordSlot} (e : t.custody = s.custody.setSlot k .reset) : CustodyMoves s t :=
  custodyMoves_record e .emptied (versionsKept_of_le (.inl rfl) (.inl rfl))

/-! ### Endings of a version (R16, R24, R112) -/

theorem versionRejected_moves (k : RecordSlot) (d : RejectDetail) (v : PendingVersion) (s : State) :
    CustodyMoves s (versionRejected k d v s) :=
  (pendingGone_moves rfl).trans (setOutcome_moves k _ _)

theorem rejectPending_moves (k : RecordSlot) (d : RejectDetail) (b : Bool) (s : State) :
    CustodyMoves s (rejectPending k d b s) := by
  cases held : (s.slot k).pending with
  | none => exact custodyMoves_same (by simp [rejectPending, held])
  | some v =>
    have rejected := versionRejected_moves k d v s
    obtain ⟨p, rfl⟩ | ⟨x, rfl⟩ | ⟨noTank, notParcel⟩ :
        (∃ p, k = .parcel p) ∨ (∃ x, k = slotOfTank x) ∨ (tankOfSlot k = none ∧ ∀ p, k ≠ .parcel p) := by
      cases k
      case ship n => exact .inr (.inl ⟨.ship n, rfl⟩)
      case shore n => exact .inr (.inl ⟨.shore n, rfl⟩)
      case parcel p => exact .inl ⟨p, rfl⟩
      all_goals exact .inr (.inr ⟨rfl, nofun⟩)
    · rw [rejectPending_parcel held]
      split
      · refine rejected.trans (custodyMoves_freed (leaveProposed_custody _ p _ b) ?_)
        rw [(versionRejected_slotBecomes (.parcel p) d v s).1]
      · exact rejected
    · rw [rejectPending_tank held]
      split
      · exact rejected.same (clearTank_custody _ x)
      · exact rejected
    · rwa [rejectPending_other held noTank notParcel]

theorem removeParcelVersions_moves (p : Fin 6) (s : State) : CustodyMoves s (removeParcelVersions p s) := by
  have removed : CustodyMoves s (setOutcome (.parcel p) .removed
      (setSlot (.parcel p) { s.slot (.parcel p) with current := none } s)) :=
    (currentGone_moves rfl).trans (setOutcome_moves _ _ _)
  simp only [removeParcelVersions]
  split
  · exact removed.trans ((pendingGone_moves rfl).trans (setOutcome_moves _ _ _))
  · exact removed

theorem removeParcelVersions_pending (p : Fin 6) (s : State) :
    ((removeParcelVersions p s).slot (.parcel p)).pending = none := by
  simp only [removeParcelVersions]
  split
  · rw [(setOutcome_slotBecomes _ _ _).1, setSlot_slot_same]
  next absent => simpa using absent

theorem endParcel_moves (p : Fin 6) (b : Bool) (s : State) : CustodyMoves s (endParcel p b s) := by
  refine (removeParcelVersions_moves p s).trans (custodyMoves_freed (p := p) ?_ (removeParcelVersions_pending p s))
  have ended : (endParcel p b s).custody = (announceFree p b (computeTanks (s.parcelTanks p)
      (emptyParcel p (s.boundMeter p) (removeParcelVersions p s)))).custody := by
    simp [endParcel, removeCheckpoint, removeRecord]
  rw [ended]
  exact announceFree_custody _ b ((computeTanks_custody _ _).trans (emptyParcel_custody _ p _))

theorem withdrawRecord_moves (k : RecordSlot) (s : State) : CustodyMoves s (withdrawRecord k s) := by
  obtain ⟨p, rfl⟩ | other : (∃ p, k = .parcel p) ∨ ∀ p, k ≠ .parcel p := by cases k <;> simp
  · exact endParcel_moves p false s
  · rw [withdrawRecord_eq other]
    have dropped : CustodyMoves s (setOutcome k .removed (dropCurrent k s)) :=
      (currentGone_moves rfl).trans (setOutcome_moves k _ _)
    exact dropped.same (by simp [versionRemoved, removeRecord])

/-! ### The audit walk (R44) -/

theorem auditStep_moves (k : RecordSlot) (s : State) : CustodyMoves s (auditStep k s) := by
  unfold auditStep
  split
  · exact .refl
  next v hv =>
    have current : (s.slot k).current = some v := by
      unfold State.inForce at hv
      grind
    have same : ∀ c : CurrentVersion, c.content = v.content →
        VersionsKept (s.slot k) { s.slot k with current := some c } := fun c content => by
      refine ⟨.inr rfl, fun b hb => .inl ⟨v, current, ?_⟩⟩
      cases hb
      exact content
    split
    · exact custodyMoves_record rfl (.passed v current) (same _ rfl)
    next altered =>
      have marked : CustodyMoves s (setSlot k { s.slot k with current := some { v with suspect := true } } s) :=
        custodyMoves_record rfl (.suspect v current altered) (same _ rfl)
      exact CustodyMoves.same (marked.trans (setOutcome_moves k .suspect _)) (tellSuspect_custody _ k)

/-! ### Proposals and segments (R25 to R29, R108) -/

/-- A pending version comes into a slot of a kind that no parcel binds, or restores a SUSPECT parcel record. -/
theorem setPending_moves {k : RecordSlot} {q : PendingVersion} (running : s.unit = .running)
    (complete : q.assembly = none → recordDigest q.content q.points = q.declaredDigest)
    (kept : ∀ p, k = .parcel p → s.isSuspect k = true) : CustodyMoves s (setPending k (some q) s) :=
  .single (.record k _ rfl (.proposed q running complete) fun p hp => .inr (.inl (kept p hp)))

/-- The header of a parcel record is that of a parcel record. -/
theorem headerContent_parcel {p : Fin 6} {bytes : List Byte} {h : Header} (read : parseHeader (.parcel p) bytes = some h) :
    ∃ r, headerContent h = .parcel r := by
  obtain ⟨layout, -, held⟩ := Option.bind_eq_some_iff.1 read
  split at held
  · cases held
    exact ⟨_, rfl⟩
  · cases held

theorem isSuspect_of_isRestoring {k : RecordSlot} {d : Digest} (h : s.isRestoring k d = true) : s.isSuspect k = true := by
  obtain ⟨v, current, suspect, -⟩ := (isRestoring_iff s k d).1 h
  simp [State.isSuspect, current, suspect]

/-- A parcel proposal that passes the checks of R108 enters PROPOSED with the record it names, or restores. -/
theorem takeProposal_parcel_moves {l : Link} {p : Fin 6} {b : BeginLayout} {r : ParcelRecord} (running : s.unit = .running)
    (equal : recordDigest (.parcel r) [] = b.digest)
    (unbound : s.isRestoring (.parcel p) b.digest = false → s.boundElsewhere p r = false) :
    CustodyMoves s (takeProposal l (.parcel p) b (.parcel r) s) := by
  simp only [takeProposal]
  split
  next restoring =>
    exact setPending_moves running (fun _ => equal) fun _ _ => isSuspect_of_isRestoring restoring
  next fresh =>
    refine .single (.proposed p r (s.newPending l (.parcel p) b (.parcel r) none) ?_ running (fun _ => equal) rfl
      (unbound (by simpa using fresh)))
    refine announce_custody _ .plain ?_
    cases r.meter with
    | none => exact setParcel_custody _ p _
    | some m => exact (setAccumulators_custody _ m _).trans (setParcel_custody _ p _)

theorem takeProposal_moves {l : Link} {k : RecordSlot} {b : BeginLayout} {bytes : List Byte} {h : Header}
    (running : s.unit = .running) (read : parseHeader k bytes = some h)
    (equal : recordDigest (headerContent h) [] = b.digest)
    (binding : s.bindingRefusal k (s.isRestoring k b.digest) (headerContent h) = none) :
    CustodyMoves s (takeProposal l k b (headerContent h) s) := by
  obtain ⟨p, rfl⟩ | other : (∃ p, k = .parcel p) ∨ ∀ p, k ≠ .parcel p := by cases k <;> simp
  · obtain ⟨r, content⟩ := headerContent_parcel read
    rw [content] at equal binding ⊢
    refine takeProposal_parcel_moves running equal fun fresh => ?_
    simp only [State.bindingRefusal, fresh, Bool.false_eq_true, if_false, firstRefusal_eq_none] at binding
    simpa using binding (!s.boundElsewhere p r, .bound) (by simp)
  · have taken : takeProposal l k b (headerContent h) s =
        setPending k (some (s.newPending l k b (headerContent h) none)) s := by
      cases k
      case parcel p => exact absurd rfl (other p)
      all_goals rfl
    rw [taken]
    exact setPending_moves running (fun _ => equal) fun p hp => absurd hp (other p)

theorem proposeBegin_moves (running : s.unit = .running) (l : Link) (payload : List Byte) :
    CustodyMoves s (proposeBeginOwner l payload s).1 := by
  unfold proposeBeginOwner
  split
  · exact .refl
  next b _ =>
    refine onSlot_keeps (P := CustodyMoves s) .refl (fun k => ?_) _
    split
    · exact .refl
    next header read =>
      split
      · exact .refl
      next refusal =>
        obtain ⟨-, -, -, binding, -⟩ := beginRefusal_eq_none refusal
        unfold decideProposal
        split
        next tank =>
          have begun : CustodyMoves s (setPending k
              (some (s.newPending l k b (headerContent header) (some s.assemblyTimer))) s) :=
            setPending_moves running (fun whole => by cases whole) fun p hp => by subst hp; cases tank
          exact begun.same rfl
        split
        next equal => exact takeProposal_moves running read equal binding
        · exact setOutcome_moves k (.rejected .digestMismatch) s

theorem proposeSegment_moves (running : s.unit = .running) (l : Link) (payload : List Byte) :
    CustodyMoves s (proposeSegmentOwner l payload s).1 := by
  unfold proposeSegmentOwner
  split
  · exact .refl
  next g _ =>
    refine onSlot_keeps (P := CustodyMoves s) .refl (fun k => ?_) _
    split
    · exact .refl
    next table =>
      have joined : ∀ {q : PendingVersion}, (q.assembly = none → recordDigest q.content q.points = q.declaredDigest) →
          CustodyMoves s (setPending k (some q) s) := fun complete =>
        setPending_moves running complete fun p hp => by subst hp; exact absurd rfl table
      split
      · exact .refl
      next v _ held =>
        unfold decideSegment
        split
        · exact rejectPending_moves k _ _ s
        split
        · exact joined fun whole => by cases whole
        · show CustodyMoves s (completeAssembly k v g s)
          unfold completeAssembly
          split
          · exact rejectPending_moves k _ _ s
          split
          next equal => exact joined fun _ => equal
          · exact rejectPending_moves k _ _ s
      · exact .refl

/-! ### Entry into force (R36) -/

theorem Custody.setSlot_setSlot (k : RecordSlot) (u v : Slot) (c : Custody) :
    (c.setSlot k u).setSlot k v = c.setSlot k v := by simp [Custody.setSlot]

theorem supersede_custody (k : RecordSlot) (v : PendingVersion) (o : LastOutcome) (s : State) :
    (giveRecordWrite k (enteredVersion v) (setOutcome k o (supersede k v s))).custody =
      s.custody.setSlot k { current := some (enteredVersion v), pending := none, last := o } := by
  have superseded : (supersede k v s).custody =
      s.custody.setSlot k { s.slot k with current := some (enteredVersion v), pending := none } := rfl
  have held : (supersede k v s).slot k = { s.slot k with current := some (enteredVersion v), pending := none } :=
    setSlot_slot_same ..
  rw [giveRecordWrite, giveWrite_custody, setOutcome_custody, superseded, held, Custody.setSlot_setSlot]

theorem enterForce_moves {k : RecordSlot} {v : PendingVersion} (held : (s.slot k).pending = some v)
    (complete : v.assembly = none) : CustodyMoves s (enterForce k v s) := by
  have superseded := supersede_custody k v (s.entryOutcome k v) s
  have entered : CustodyMoves s (giveRecordWrite k (enteredVersion v) (setOutcome k (s.entryOutcome k v) (supersede k v s))) := by
    have current : CustodyMoves s (supersede k v s) :=
      custodyMoves_record rfl (.entered v held complete)
        ⟨.inl rfl, fun _ _ => .inr ⟨by rw [held]; exact Option.some_ne_none v, rfl⟩⟩
    exact CustodyMoves.same (current.trans (setOutcome_moves k _ _)) (giveWrite_custody _ _ _)
  unfold enterForce tellEntered
  split
  · exact entered.same (by simp)
  · exact entered.same (by simp)
  · exact entered.same (by simp)
  next p r content =>
    split
    next proposed =>
      rw [state_of_custody superseded] at proposed
      refine .single (.defined p r v (s.entryOutcome (.parcel p) v) ?_ proposed held complete content)
      refine announce_custody _ .plain ((computeTanks_custody _ _).trans ?_)
      rw [setParcel_custody, superseded]
      rfl
    · exact entered.same (by simp)
  · exact entered.same (by simp)
  · exact entered

theorem endorse_moves (l : Link) (payload : List Byte) (s : State) : CustodyMoves s (endorseOwner l payload s).1 := by
  unfold endorseOwner
  split
  · exact .refl
  · refine onSlot_keeps (P := CustodyMoves s) .refl (fun k => ?_) _
    split
    · exact .refl
    next refusal =>
      rw [State.endorseRefusal, firstRefusal_eq_none] at refusal
      obtain ⟨v, held, complete⟩ := hasProposed_iff.1 (refusal (s.hasProposed k, .state) (by simp))
      show CustodyMoves s (compareEndorsement k _ s)
      simp only [compareEndorsement, held]
      split
      · exact enterForce_moves held complete
      · exact rejectPending_moves k _ _ s

theorem decline_moves (l : Link) (payload : List Byte) (s : State) : CustodyMoves s (declineOwner l payload s).1 := by
  refine onSlot_keeps (P := CustodyMoves s) .refl (fun k => ?_) _
  split
  · exact .refl
  · exact rejectPending_moves k _ _ s

theorem withdrawPending_moves (l : Link) (payload : List Byte) (s : State) :
    CustodyMoves s (withdrawPendingOwner l payload s).1 := by
  refine onSlot_keeps (P := CustodyMoves s) .refl (fun k => ?_) _
  split
  · exact .refl
  · exact rejectPending_moves k _ _ s

theorem withdrawCurrent_moves (l : Link) (payload : List Byte) (s : State) :
    CustodyMoves s (withdrawCurrentOwner l payload s).1 := by
  refine onSlot_keeps (P := CustodyMoves s) .refl (fun k => ?_) _
  split
  · exact .refl
  · exact withdrawRecord_moves k s

end

end Sys2Proof.Machine
end

section
/-! Declarations, the clear, the stop lines and the store load as moves (R110 to R133, R203 to R208). -/

namespace Sys2Proof.Machine

open Sys2Proof

section

variable {s : State}

/-! ### The steps of declarations (R119 to R130) -/

/-- Outside PROPOSED a declaration is allowed only in a state that binds the current record (R113). -/
theorem bindsCurrent_of_kindAllowed {kind : DeclKind} {st : ParcelState} (h : kindAllowed kind st = true)
    (notProposed : st ≠ .proposed) : bindsCurrent st := by
  refine ⟨?_, notProposed⟩
  rintro rfl
  cases kind <;> cases h

theorem openParcel_moves {p : Fin 6} (before : bindsCurrent (s.parcel p).state) : CustodyMoves s (openParcel p s) := by
  unfold openParcel
  split
  · exact .refl
  next r _ =>
    refine custodyMoves_entered (p := p) (st := .transfer) (announce_custody _ .plain ?_) before ⟨nofun, nofun⟩
    cases r.meter with
    | none => exact setParcel_custody _ p _
    | some m => exact (openChannel_custody _ p m).trans (setParcel_custody _ p _)

theorem suspendParcel_moves {p : Fin 6} (reason : SuspendReason) (before : bindsCurrent (s.parcel p).state) :
    CustodyMoves s (suspendParcel p reason s) := custodyMoves_change p _ _ before ⟨nofun, nofun⟩

theorem settleParcel_moves {p : Fin 6} (before : bindsCurrent (s.parcel p).state) : CustodyMoves s (settleParcel p s) :=
  custodyMoves_change p _ _ before ⟨nofun, nofun⟩

theorem resumeParcel_moves {p : Fin 6} (before : bindsCurrent (s.parcel p).state) : CustodyMoves s (resumeParcel p s) :=
  custodyMoves_change p _ _ before ⟨nofun, nofun⟩

theorem closeParcel_moves {p : Fin 6} (before : bindsCurrent (s.parcel p).state) : CustodyMoves s (closeParcel p s) := by
  unfold closeParcel
  split
  next r o _ _ =>
    have sampled := sampleAtClose_custody s p
    refine (custodyMoves_same sampled).trans (custodyMoves_change p .plain _ ?_ ⟨nofun, nofun⟩)
    rwa [state_of_custody sampled]
  · exact .refl

theorem abandonParcel_moves {p : Fin 6} (b : Bool) (allowed : kindAllowed .abandon (s.parcel p).state = true) :
    CustodyMoves s (abandonParcel p b s) := by
  unfold abandonParcel
  split
  · exact rejectPending_moves _ _ _ s
  next notProposed =>
    exact custodyMoves_change p _ _ (bindsCurrent_of_kindAllowed allowed notProposed) ⟨nofun, nofun⟩

/-! ### CALL CLEAR (R131) -/

theorem callClearParcel_moves (p : Fin 6) (s : State) : CustodyMoves s (callClearParcel p s) := by
  have removed : CustodyMoves s (callClearParcel.removed p s) := by
    refine (emptied_moves (t := setSlot (.parcel p) .reset s) rfl).trans (custodyMoves_freed (p := p) ?_ ?_)
    · simpa [callClearParcel.removed, removeCheckpoint, removeRecord] using
        announceFree_custody _ false (emptyParcel_custody (setSlot (.parcel p) .reset s) p (s.boundMeter p))
    · rw [setSlot_slot_same]
      rfl
  by_cases ended : s.ended p
  · rwa [callClearParcel_ended ended]
  · rw [callClearParcel_other ended]

/-- A fold of operations that are moves is moves. -/
theorem foldl_moves {α : Type} {f : State → α → State} (hf : ∀ w a, CustodyMoves w (f w a)) (xs : List α) (s : State) :
    CustodyMoves s (xs.foldl f s) := foldl_keeps (P := CustodyMoves s) (fun w a hw => hw.trans (hf w a)) xs .refl

theorem callClear_moves (s : State) : CustodyMoves s (callClear s) := by
  have emptied : ∀ w k, CustodyMoves w (removeRecord k (emptySlot k w)) := fun w k => by
    have slot : CustodyMoves w (emptySlot k w) := emptied_moves rfl
    exact slot.same (giveWrite_custody _ _ _)
  have slots : CustodyMoves s (clearSlots s) :=
    (foldl_moves (fun w p => callClearParcel_moves p w) _ _).trans (foldl_moves emptied _ _)
  refine slots.trans (custodyMoves_removed (es := []) ?_ (List.nil_sublist _))
  have read : (appendTrail .callClear (clearReadings s.returningShoreTanks (clearSlots s))).custody =
      (clearSlots s).custody := by simp
  rw [← read]
  rfl

/-! ### Declarations decided (R115, R116) -/

theorem removeEntry_moves (subject : Subject) (kind : DeclKind) (s : State) :
    CustodyMoves s (removeEntry subject kind s) := custodyMoves_removed rfl List.filter_sublist

/-- A declaration that passed its checks moves what its step moves, once its entry has left, or makes its entry. -/
theorem decideDeclaration_moves {subject : Subject} {kind : DeclKind} {l : Link} {unilateral met : Bool}
    {step : Bool → State → State} (running : s.unit = .running)
    (allowed : ∀ e : Concurrence, e.subject = subject → e.kind = kind → s.EntryAllowed e)
    (hstep : ∀ b, CustodyMoves (removeEntry subject kind s) (step b (removeEntry subject kind s))) :
    CustodyMoves s (decideDeclaration subject kind l unilateral met step s).1 := by
  have stepped : ∀ b, CustodyMoves s (step b (removeEntry subject kind s)) := fun b =>
    (removeEntry_moves subject kind s).trans (hstep b)
  have alone : CustodyMoves s (decideDeclaration.unilateralStep subject kind l step s).1 := by
    unfold decideDeclaration.unilateralStep
    split
    · exact stepped true
    · exact .refl
  unfold decideDeclaration
  split
  · split
    · split
      · exact stepped false
      · exact .refl
    · split
      · exact alone
      · exact .refl
  next first =>
    split
    · exact alone
    · exact .single (.declared _ rfl running first (allowed _ rfl rfl))

theorem declareParcel_moves {kind : DeclKind} {l : Link} {payload : List Byte} {met : State → Fin 6 → Bool}
    {step : Fin 6 → Bool → State → State} (running : s.unit = .running)
    (hstep : ∀ p b w, kindAllowed kind (w.parcel p).state = true → CustodyMoves w (step p b w)) :
    CustodyMoves s (declareParcel kind l payload met step s).1 := by
  unfold declareParcel
  split
  · split
    · split
      · exact .refl
      next p _ =>
        split
        · exact .refl
        next checks =>
          rw [State.declarationRefusal, firstRefusal_eq_none] at checks
          have allowed : kindAllowed kind (s.parcel p).state = true :=
            checks (kindAllowed kind (s.parcel p).state, .state) (by simp)
          refine decideDeclaration_moves running (fun e subject same => ?_) fun b => hstep p b _ allowed
          rw [State.EntryAllowed, subject, same]
          exact allowed
    · exact .refl
  · exact .refl

theorem declareUnit_moves (running : s.unit = .running) (l : Link) (payload : List Byte) :
    CustodyMoves s (declareUnit l payload s).1 := by
  unfold declareUnit
  split
  · split
    · split
      · split
        next states =>
          refine decideDeclaration_moves running (fun e subject same => ?_) fun _ => callClear_moves _
          rw [State.EntryAllowed, subject]
          exact ⟨same, fun p => List.all_eq_true.1 states p (mem_allParcels p)⟩
        · exact .refl
      · exact .refl
    · exact .refl
  · exact .refl

theorem suspend_moves (l : Link) (payload : List Byte) (s : State) : CustodyMoves s (suspendOwner l payload s).1 := by
  refine onParcel_keeps (P := CustodyMoves s) .refl (fun p => ?_) _
  split
  next transfer => exact suspendParcel_moves _ (by rw [transfer]; exact ⟨nofun, nofun⟩)
  · exact .refl

theorem transferEnd_moves (payload : List Byte) (s : State) : CustodyMoves s (transferEndOwner payload s).1 := by
  refine onParcel_keeps (P := CustodyMoves s) .refl (fun p => ?_) _
  split
  next live =>
    refine settleParcel_moves ?_
    obtain transfer | suspended := live
    · rw [transfer]
      exact ⟨nofun, nofun⟩
    · rw [suspended]
      exact ⟨nofun, nofun⟩
  · exact .refl

/-! ### Stop lines, evaluations and the settle timer (R125, R133, R136) -/

theorem stopTransfers_moves (line : Link) (s : State) : CustodyMoves s (stopTransfers line s) := by
  have suspended : ∀ w p, CustodyMoves w (suspendByLine line p w) := by
    intro w p
    unfold suspendByLine
    split
    next transfer => exact suspendParcel_moves _ (by rw [transfer]; exact ⟨nofun, nofun⟩)
    · exact .refl
  exact (foldl_moves suspended allParcels s).same (appendTrail_custody _ _)

theorem evaluateParcels_custody (ps : List (Fin 6)) (s : State) : (evaluateParcels ps s).custody = s.custody := by
  refine foldl_keeps (P := fun w => w.custody = s.custody) (fun w p hw => ?_) ps rfl
  rw [← hw]
  unfold evaluateParcel
  split
  · simp only [giveCheckpoint, giveWrite_custody, appendTrail_custody]
    exact setParcel_custody_same w rfl
  · rfl

/-! ### The load of the records (R205) -/

theorem parcelRecord_of_parcelInForce {p : Fin 6} {r : ParcelRecord} (h : s.parcelInForce p = some r) :
    s.parcelRecord p = some r := by
  unfold State.parcelInForce State.inForce at h
  unfold State.parcelRecord
  grind

theorem dropRecord_custody (k : RecordSlot) (reason : DropReason) (s : State) :
    (dropRecord k reason s).custody = s.custody := by simp [dropRecord, removeRecord]

theorem loadRecord_moves (k : RecordSlot) (awaits : s.awaitsCheckpoints) : CustodyMoves s (loadRecord k s) := by
  simp only [loadRecord]
  split
  next copy =>
    split
    next d content points stored =>
      have passes := storedCopy_passes copy
      have endorsed : recordDigest content points = d := by
        simp only [copyPasses, contentPasses, stored, Bool.and_eq_true, beq_iff_eq] at passes
        exact passes.2.2
      refine CustodyMoves.same (t := placeRecord k d content points s) ?_ (tellReloaded_custody _ k)
      unfold placeRecord
      split
      · exact .single (.record k _ rfl (.reloaded d content points endorsed) fun _ _ => .inr (.inr ⟨awaits, rfl⟩))
      · exact custodyMoves_same (dropRecord_custody k .poolFull s)
    · exact .refl
  · split
    · exact custodyMoves_same (dropRecord_custody k .digestFailed s)
    · exact .refl

theorem loadRecord_unit_load (k : RecordSlot) (s : State) :
    (loadRecord k s).unit = s.unit ∧ (loadRecord k s).load = s.load := by
  have placed : ∀ d c points, (placeRecord k d c points s).unit = s.unit ∧ (placeRecord k d c points s).load = s.load := by
    intro d c points
    unfold placeRecord
    split
    · exact ⟨rfl, rfl⟩
    · simp [dropRecord, removeRecord]
  simp only [loadRecord]
  repeat' split
  · have told := tellReloaded_custody (placeRecord k ‹_› ‹_› ‹_› s) k
    obtain ⟨unit, load⟩ := placed ‹_› ‹_› ‹_›
    exact ⟨(unit_of_custody told).trans unit, (load_of_custody told).trans load⟩
  · exact ⟨rfl, rfl⟩
  · simp [dropRecord, removeRecord]
  · exact ⟨rfl, rfl⟩

/-! ### The load of a parcel slot (R206, R207) -/

theorem discardReloaded_moves (p : Fin 6) (s : State) : CustodyMoves s (discardReloaded p s) := by
  simp only [discardReloaded]
  split
  · refine CustodyMoves.same (custodyMoves_record rfl .discarded ?_) (giveWrite_custody _ _ _)
    exact versionsKept_of_le (.inl rfl) (.inr rfl)
  · exact .refl

theorem dropParcel_moves (p : Fin 6) (s : State) : CustodyMoves s (dropParcel p s) := by
  have told : CustodyMoves s (removeCheckpoint p (appendTrail (.storeDrop (.parcel p) .checkpointFailed) s)) :=
    custodyMoves_same (by simp [removeCheckpoint])
  exact told.trans (discardReloaded_moves p _)

theorem freeParcel_custody (p : Fin 6) (s : State) : (freeParcel p s).custody = s.custody := by
  simp [freeParcel, removeCheckpoint]

theorem bringUp_custody (p : Fin 6) (v : Parcel) (s : State) : (bringUp p v s).custody = s.custody.setState p v.state :=
  (setRestored_custody _ p _).trans (setParcel_custody s p _)

theorem announceRestored_custody (p : Fin 6) (d : StateDetail) (s : State) :
    (announceRestored p d s).custody = s.custody := by simp [announceRestored, giveRestoredCheckpoint]

/-- What the load's step for a parcel slot can come to, with what it takes for a slot to come up (R206, R207). -/
theorem loadCheckpoint_restores (p : Fin 6) (s : State) :
    loadCheckpoint p s = s ∨ loadCheckpoint p s = dropParcel p s ∨ loadCheckpoint p s = freeParcel p s
      ∨ ∃ r, s.parcelInForce p = some r ∧ s.boundElsewhere p r = false
        ∧ (loadCheckpoint p s = restoreDefined p r s ∨ (∃ c, loadCheckpoint p s = restoreSuspended p r c s)
          ∨ ∃ c, bindsCurrent c.state ∧ loadCheckpoint p s = restoreAsStored p r c s) := by
  unfold loadCheckpoint restoreParcel restoreWithoutRecord bindsCurrent
  repeat' split
  all_goals grind

theorem loadCheckpoint_moves (p : Fin 6) (loading : s.unit ≠ .running) (reached : ¬s.awaitsCheckpoints) :
    CustodyMoves s (loadCheckpoint p s) := by
  obtain e | e | e | ⟨r, record, unbound, restored⟩ := loadCheckpoint_restores p s
  · exact custodyMoves_same (congrArg _ e)
  · rw [e]
    exact dropParcel_moves p s
  · rw [e]
    exact custodyMoves_same (freeParcel_custody p s)
  · have up : ∀ {t : State} {st : ParcelState}, t.custody = s.custody.setState p st → bindsCurrent st →
        CustodyMoves s t := fun custody binds =>
      .single (.broughtUp p r _ custody loading reached (parcelRecord_of_parcelInForce record) unbound binds)
    obtain e | ⟨c, e⟩ | ⟨c, binds, e⟩ := restored <;> rw [e]
    · refine up (st := .defined) ?_ ⟨nofun, nofun⟩
      rw [restoreDefined, announceRestored_custody, restoreAccumulators_custody, bringUp_custody]
      rfl
    · refine up (st := .suspended) ?_ ⟨nofun, nofun⟩
      simp only [restoreSuspended]
      rw [announceRestored_custody, restoreAccumulators_custody, bringUp_custody]
      rfl
    · refine up ?_ binds
      rw [restoreAsStored, restoreAccumulators_custody, bringUp_custody]
      rfl

/-! ### Phases of the unit and of the load (R203 to R208) -/

/-- The unit and its load go on to a phase that awaits the checkpoints only where the one before it did. -/
theorem setLoad_moves (ph : LoadPhase) (loading : s.unit ≠ .running)
    (awaits : (setLoad ph s).awaitsCheckpoints → s.awaitsCheckpoints) : CustodyMoves s (setLoad ph s) :=
  .single (.phase s.unit ph rfl loading (fun running => absurd running loading) awaits)

theorem completeLoad_moves (loading : s.unit ≠ .running) : CustodyMoves s (completeLoad s) := by
  have states : (fun p => ((takeUpItems s).parcel p).state) = fun p => (s.parcel p).state := by
    funext p
    rw [takeUpItems_parcel]
    rfl
  have running : ({ takeUpItems s with unit := .running, load := .complete } : State).custody =
      { s.custody with unit := .running, load := .complete } :=
    congrArg (fun f => ({ s.custody with unit := .running, load := .complete, states := f } : Custody)) states
  refine .single (.phase .running .complete ?_ loading (fun _ => rfl) fun awaits => ?_)
  · simp only [completeLoad, reportStopLine_custody, startSampleTimers_custody]
    exact running
  · have complete : (completeLoad s).load = .complete := by
      refine load_of_custody (c := { s.custody with unit := .running, load := .complete }) ?_
      simp only [completeLoad, reportStopLine_custody, startSampleTimers_custody]
      exact running
    rw [State.awaitsCheckpoints, complete] at awaits
    exact awaits.elim

theorem storeLoadRecord_moves (s : State) : NextIs (CustodyMoves s) (execStoreLoadRecord s) := by
  unfold execStoreLoadRecord
  split
  next starting =>
    split
    next i load =>
      have awaits : s.awaitsCheckpoints := by
        rw [State.awaitsCheckpoints, load]
        trivial
      obtain ⟨unit, phase⟩ := loadRecord_unit_load (slotAt i) s
      rw [nextIs_next]
      refine (loadRecord_moves (slotAt i) awaits).trans (setLoad_moves _ ?_ fun _ => ?_)
      · rw [unit, starting]
        exact nofun
      · exact (awaitsCheckpoints_congr phase).2 awaits
    · exact (nextIs_next _ _).2 .refl
  · exact (nextIs_next _ _).2 .refl

theorem storeLoadLinkParameters_moves (s : State) : NextIs (CustodyMoves s) (execStoreLoadLinkParameters s) := by
  unfold execStoreLoadLinkParameters
  split
  next starting =>
    split
    next l load =>
      have awaits : s.awaitsCheckpoints := by
        rw [State.awaitsCheckpoints, load]
        trivial
      have loaded := loadLinkParameters_custody s l
      rw [nextIs_next]
      refine (custodyMoves_same loaded).trans (setLoad_moves _ ?_ fun _ => (awaitsCheckpoints_of_custody loaded).2 awaits)
      rw [unit_of_custody loaded]
      show s.unit ≠ .running
      rw [starting]
      exact nofun
    · exact (nextIs_next _ _).2 .refl
  · exact (nextIs_next _ _).2 .refl

theorem storeLoadCheckpoint_moves (s : State) : NextIs (CustodyMoves s) (execStoreLoadCheckpoint s) := by
  unfold execStoreLoadCheckpoint
  split
  next starting =>
    have idle : s.unit ≠ .running := by
      rw [starting]
      exact nofun
    split
    next p load =>
      have loaded : CustodyMoves s (loadCheckpoint p s) := by
        refine loadCheckpoint_moves p idle ?_
        rw [State.awaitsCheckpoints, load]
        exact id
      have loading : (loadCheckpoint p s).unit ≠ .running := by rwa [loadCheckpoint_unit]
      rw [nextIs_next]
      unfold afterCheckpoint
      split
      · exact loaded.trans (setLoad_moves _ loading False.elim)
      · exact loaded.trans (completeLoad_moves loading)
    · exact (nextIs_next _ _).2 .refl
  · exact (nextIs_next _ _).2 .refl

end

end Sys2Proof.Machine
end

section
/-! Every command and so every step as moves, and the invariants that the moves keep: the concurrence table and the bindings
(R89, R108, R110, R113, R117, R207). -/

namespace Sys2Proof.Machine

open Sys2Proof

section

variable {s : State}

/-! ### The requests -/

theorem request_moves {owner : State → State × Reply} {ready : Readiness}
    (howner : ∀ w, (ready = .whenRunning → w.unit = .running) → CustodyMoves w (owner w).1) (l : Link) (code tag : Byte)
    (payload : List Byte) (counted : Bool) :
    NextIs (CustodyMoves s) (.next (takeRequest l code tag payload counted ready owner s)) :=
  (nextIs_next _ _).2 (takeRequest_keeps (P := CustodyMoves s) (fun _ _ w hw => hw.same (setLink_custody w _ _))
    (fun _ w hw => hw.same (appendTrail_custody w _)) (fun w running hw => hw.trans (howner w running)) l code tag payload
    counted .refl)

/-- A request whose owner moves nothing. -/
theorem request_moves_same {owner : State → State × Reply} {ready : Readiness}
    (same : ∀ w, (owner w).1.custody = w.custody) (l : Link) (code tag : Byte) (payload : List Byte) (counted : Bool) :
    NextIs (CustodyMoves s) (.next (takeRequest l code tag payload counted ready owner s)) :=
  request_moves (fun w _ => custodyMoves_same (same w)) l code tag payload counted

theorem counterReset_custody (l : Link) (payload : List Byte) (s : State) :
    (counterResetOwner l payload s).1.custody = s.custody := by
  unfold counterResetOwner
  split <;> simp [refuseWith]

theorem setLinkParameters_custody (l : Link) (payload : List Byte) (s : State) :
    (setLinkParametersOwner l payload s).1.custody = s.custody := by
  unfold setLinkParametersOwner
  repeat' split
  all_goals simp [refuseWith, setLinkParameters]

theorem postReadings_custody (l : Link) (payload : List Byte) (s : State) :
    (postReadingsOwner l payload s).1.custody = s.custody := by
  unfold postReadingsOwner
  repeat' split
  all_goals simp [refuseWith, queueReadings]

theorem hold_custody (l : Link) (payload : List Byte) (s : State) : (holdOwner l payload s).1.custody = s.custody := by
  unfold holdOwner
  split <;> simp [refuseWith]

theorem releaseHold_custody (l : Link) (payload : List Byte) (s : State) :
    (releaseHoldOwner l payload s).1.custody = s.custody := by
  unfold releaseHoldOwner
  repeat' split
  all_goals simp [refuseWith, dropHold]

theorem exec_request_moves {c : Instr} {r : Request} (hc : requestOf c = some r) :
    NextIs (CustodyMoves s) (exec c s) := by
  have read : ∀ {owner : State → State × Reply}, (∀ w, (owner w).1 = w) → ∀ w, (owner w).1.custody = w.custody :=
    fun same w => congrArg State.custody (same w)
  have declared : ∀ {kind : DeclKind} {w : State} {p : Fin 6}, kindAllowed kind .proposed = false →
      kindAllowed kind (w.parcel p).state = true → bindsCurrent (w.parcel p).state := fun not allowed =>
    bindsCurrent_of_kindAllowed allowed fun proposed => by rw [proposed, not] at allowed; cases allowed
  cases c
  case status l tag payload => exact request_moves_same (read (status_same payload)) l _ tag payload _
  case counterReset l tag payload => exact request_moves_same (counterReset_custody l payload) l _ tag payload _
  case setLinkParameters l tag payload => exact request_moves_same (setLinkParameters_custody l payload) l _ tag payload _
  case postReadings l tag payload => exact request_moves_same (postReadings_custody l payload) l _ tag payload _
  case proposeBegin l tag payload =>
    exact request_moves (fun _ running => proposeBegin_moves (running rfl) l payload) l _ tag payload _
  case proposeSegment l tag payload =>
    exact request_moves (fun _ running => proposeSegment_moves (running rfl) l payload) l _ tag payload _
  case endorse l tag payload => exact request_moves (fun w _ => endorse_moves l payload w) l _ tag payload _
  case decline l tag payload => exact request_moves (fun w _ => decline_moves l payload w) l _ tag payload _
  case withdrawPending l tag payload =>
    exact request_moves (fun w _ => withdrawPending_moves l payload w) l _ tag payload _
  case withdrawCurrent l tag payload =>
    exact request_moves (fun w _ => withdrawCurrent_moves l payload w) l _ tag payload _
  case readRecordState l tag payload =>
    exact request_moves_same (read (readRecordState_same l payload)) l _ tag payload _
  case declareOpen l tag payload =>
    exact request_moves (fun _ running => declareParcel_moves (running rfl) fun _ _ _ allowed =>
      openParcel_moves (declared rfl allowed)) l _ tag payload _
  case declareResume l tag payload =>
    exact request_moves (fun _ running => declareParcel_moves (running rfl) fun _ _ _ allowed =>
      resumeParcel_moves (declared rfl allowed)) l _ tag payload _
  case declareClose l tag payload =>
    exact request_moves (fun _ running => declareParcel_moves (running rfl) fun _ _ _ allowed =>
      closeParcel_moves (declared rfl allowed)) l _ tag payload _
  case declareAbandon l tag payload =>
    exact request_moves (fun _ running => declareParcel_moves (running rfl) fun _ b _ allowed =>
      abandonParcel_moves b allowed) l _ tag payload _
  case declareRelease l tag payload =>
    exact request_moves (fun _ running => declareParcel_moves (running rfl) fun p b w _ =>
      endParcel_moves p b w) l _ tag payload _
  case declareCallClear l tag payload =>
    exact request_moves (fun _ running => declareUnit_moves (running rfl) l payload) l _ tag payload _
  case suspend l tag payload => exact request_moves (fun w _ => suspend_moves l payload w) l _ tag payload _
  case transferEnd l tag payload => exact request_moves (fun w _ => transferEnd_moves payload w) l _ tag payload _
  case readTank l tag payload => exact request_moves_same (read (readTank_same l payload)) l _ tag payload _
  case readParcel l part tag payload =>
    exact request_moves_same (read (readParcel_same l part payload)) l _ tag payload _
  case readFinal l part tag payload => exact request_moves_same (read (readFinal_same part payload)) l _ tag payload _
  case readTrail l tag payload => exact request_moves_same (read (readTrail_same payload)) l _ tag payload _
  case hold l tag payload => exact request_moves_same (hold_custody l payload) l _ tag payload _
  case releaseHold l tag payload => exact request_moves_same (releaseHold_custody l payload) l _ tag payload _
  case unknownRequest l code selector tag payload =>
    simp only [exec, execUnknownRequest]
    split
    · exact (nextIs_next _ _).2 .refl
    · exact request_moves_same (fun _ => rfl) l code tag payload _
  all_goals cases hc

/-! ### The events -/

/-- The outcome moves nothing. -/
def CustodyStands (s : State) : Host.Outcome State Fault Refusal → Prop := NextIs fun t => t.custody = s.custody

theorem custodyStands_next {s t : State} : CustodyStands s (.next t) ↔ t.custody = s.custody := nextIs_next _ t

theorem CustodyStands.moves {o : Host.Outcome State Fault Refusal} (h : CustodyStands s o) : NextIs (CustodyMoves s) o :=
  fun t ht => custodyMoves_same (h t ht)

section

variable (l : Link) (s : State)

theorem execDamagedFrame_custody (f : FrameFault) : CustodyStands s (execDamagedFrame l f s) := by
  unfold execDamagedFrame
  split <;> simp [custodyStands_next]

theorem execOverrun_custody : CustodyStands s (execOverrun l s) := by
  unfold execOverrun
  split <;> simp [custodyStands_next, overrunFrame]

theorem execIdleGapInFrame_custody : CustodyStands s (execIdleGapInFrame l s) := by
  unfold execIdleGapInFrame
  repeat' split
  all_goals simp [custodyStands_next, endDiscarding]

theorem execIdleGap_custody : CustodyStands s (execIdleGap l s) := by
  unfold execIdleGap
  split <;> simp [custodyStands_next, endDiscarding]

theorem execResponseSend_custody : CustodyStands s (execResponseSend l s) := by
  unfold execResponseSend
  split <;> simp [custodyStands_next]

theorem execResponseSent_custody : CustodyStands s (execResponseSent l s) := by
  unfold execResponseSent
  split <;> simp [custodyStands_next]

theorem execHoldTimerExpiry_custody : CustodyStands s (execHoldTimerExpiry l s) := by
  unfold execHoldTimerExpiry
  split <;> simp [custodyStands_next, updateReport, dropHold]

theorem execSilenceTimeout_custody : CustodyStands s (execSilenceTimeout l s) := by
  unfold execSilenceTimeout
  split <;> simp [custodyStands_next]

theorem execTakeTankReading_custody : CustodyStands s (execTakeTankReading s) := by
  unfold execTakeTankReading
  repeat' split
  all_goals simp [custodyStands_next]

theorem execTakeShipCondition_custody : CustodyStands s (execTakeShipCondition s) := by
  unfold execTakeShipCondition
  repeat' split
  all_goals simp [custodyStands_next, takeCondition]

theorem execTakeLineConditions_custody : CustodyStands s (execTakeLineConditions s) := by
  unfold execTakeLineConditions
  repeat' split
  all_goals simp [custodyStands_next]

theorem execMeterPulse_custody (m : Fin 4) : CustodyStands s (execMeterPulse m s) := by
  unfold execMeterPulse
  split <;> simp [custodyStands_next]

theorem execStopLineCleared_custody : CustodyStands s (execStopLineCleared l s) := by
  unfold execStopLineCleared
  repeat' split
  all_goals simp [custodyStands_next]

theorem execSettleTimerExpiry_custody (p : Fin 6) : CustodyStands s (execSettleTimerExpiry p s) := by
  unfold execSettleTimerExpiry
  split <;> rw [custodyStands_next]
  exact setParcel_custody_same s rfl

end

theorem stopLineAsserted_moves (l : Link) (s : State) : NextIs (CustodyMoves s) (execStopLineAsserted l s) := by
  unfold execStopLineAsserted
  split <;> rw [nextIs_next]
  have set : CustodyMoves s (setStopLine l true s) := custodyMoves_same (setStopLine_custody s l true)
  split
  · exact set.trans (stopTransfers_moves l _)
  · exact set

theorem declarationLapse_moves (subject : Subject) (kind : DeclKind) (s : State) :
    NextIs (CustodyMoves s) (execDeclarationLapse subject kind s) := by
  unfold execDeclarationLapse
  split <;> rw [nextIs_next]
  exact (removeEntry_moves subject kind s).same (appendTrail_custody _ _)

theorem fullResetEnd_moves (s : State) : NextIs (CustodyMoves s) (execFullResetEnd s) := by
  unfold execFullResetEnd
  split <;> rw [nextIs_next]
  next inactive => exact .single (.phase .starting s.load rfl (by rw [inactive]; exact nofun) nofun id)

theorem exec_event_moves {c : Instr} (hc : requestOf c = none) : NextIs (CustodyMoves s) (exec c s) := by
  cases c
  case damagedFrame l f => exact (execDamagedFrame_custody l s f).moves
  case overrun l => exact (execOverrun_custody l s).moves
  case idleGapInFrame l => exact (execIdleGapInFrame_custody l s).moves
  case idleGap l => exact (execIdleGap_custody l s).moves
  case responseSend l => exact (execResponseSend_custody l s).moves
  case responseSent l => exact (execResponseSent_custody l s).moves
  case holdTimerExpiry l => exact (execHoldTimerExpiry_custody l s).moves
  case silenceTimeout l => exact (execSilenceTimeout_custody l s).moves
  case takeTankReading => exact (execTakeTankReading_custody s).moves
  case takeShipCondition => exact (execTakeShipCondition_custody s).moves
  case takeLineConditions => exact (execTakeLineConditions_custody s).moves
  case meterPulse m => exact (execMeterPulse_custody s m).moves
  case stopLineCleared l => exact (execStopLineCleared_custody l s).moves
  case settleTimerExpiry p => exact (execSettleTimerExpiry_custody s p).moves
  case stopLineAsserted l => exact stopLineAsserted_moves l s
  case declarationLapse subject kind => exact declarationLapse_moves subject kind s
  case assemblyTimeout k =>
    refine (nextIs_next _ _).2 ?_
    split
    · exact rejectPending_moves k _ _ s
    · exact .refl
  case auditTimerExpiry =>
    refine (nextIs_next _ _).2 ?_
    split
    · have untimed : CustodyMoves s (setAuditTimer none s) := custodyMoves_same rfl
      exact CustodyMoves.same (untimed.trans (auditStep_moves .vessel _)) (advanceWalk_custody _ _)
    · exact .refl
  case auditWalkStep =>
    refine (nextIs_next _ _).2 ?_
    split
    next i _ => exact (auditStep_moves (slotAt i) s).same (advanceWalk_custody _ i)
    · exact .refl
  case sampleTimerExpiry m =>
    refine (nextIs_next _ _).2 (custodyMoves_same ?_)
    split
    · exact (setChannel_custody _ _ _).trans (takeSample_custody s m)
    · rfl
  case intervalTimerExpiry =>
    refine (nextIs_next _ _).2 (custodyMoves_same ?_)
    split
    · rw [startInterval_custody, setAlarm_custody, evaluateParcels_custody]
    · rfl
  case fullResetBegin cause =>
    refine (nextIs_next _ _).2 ?_
    split
    · exact custodyMoves_same (setPowered_custody s _)
    · exact .single (.reset rfl)
  case fullResetEnd => exact fullResetEnd_moves s
  case storeLoadStart =>
    refine (nextIs_next _ _).2 ?_
    split
    next loads =>
      rw [State.loadsAt, Bool.and_eq_true, beq_iff_eq, beq_iff_eq] at loads
      obtain ⟨starting, load⟩ := loads
      have told := appendTrail_custody s (.recovery s.resetCause)
      refine (custodyMoves_same told).trans (setLoad_moves _ ?_ fun _ => (awaitsCheckpoints_of_custody told).2 ?_)
      · rw [appendTrail_unit, starting]
        exact nofun
      · rw [State.awaitsCheckpoints, load]
        trivial
    · exact .refl
  case storeLoadRecord => exact storeLoadRecord_moves s
  case storeLoadLinkParameters => exact storeLoadLinkParameters_moves s
  case storeLoadCheckpoint => exact storeLoadCheckpoint_moves s
  case storeWriteComplete => exact (nextIs_next _ _).2 (custodyMoves_same (completeWrite_custody s))
  case unknownRequest l code selector tag payload =>
    simp only [requestOf] at hc
    simp only [exec, execUnknownRequest]
    split at hc
    next defined => rw [if_pos defined, nextIs_next]
    next => cases hc
  all_goals cases hc

/-! ### The invariants -/

theorem exec_moves (c : Instr) (s : State) : NextIs (CustodyMoves s) (exec c s) := by
  cases hc : requestOf c with
  | some r => exact exec_request_moves hc
  | none => exact exec_event_moves hc

theorem step_moves {t : State} (ht : step s = .next t) : CustodyMoves s t :=
  step_keeps (P := CustodyMoves s) (fun c w hw => fun u hu => hw.trans (exec_moves c w u hu))
    (fun cs w hw => hw.same (setPendingCommands_custody w cs)) (fun w hw => hw.same (tickClock_custody w)) .refl ht

/-- What every move keeps, every step keeps. -/
theorem CustodyMoves.keep {P : State → Prop} (kept : ∀ {u v : State}, P u → CustodyMove u v → P v) {t : State}
    (h : CustodyMoves s t) (hs : P s) : P t := by
  induction h with
  | refl => exact hs
  | tail _ move ih => exact kept ih move

end

/-- Settles O57: each move leaves the table with allowed entries, and brings a slot no tank or meter that another has bound. -/
theorem tableStaysAllowed : Obligations.TableStaysAllowed := by
  refine ⟨fun s t h ht => (step_moves ht).keep TableAllowed.move h, fun s t pool digests bound ht => ?_⟩
  obtain ⟨-, -, -, loaded, -⟩ := pool
  exact ((step_moves ht).keep BindingStands.move ⟨digests, loaded, bound⟩).bound

end Sys2Proof.Machine
end

section
/-! The OPEN and CLOSE steps (R99 to R101, R111, R115, R119 to R121, R127, R128): a second declaration decided, its conditions,
and what the step leaves of the slot, of the meter and of the rest. -/

namespace Sys2Proof.Machine

open Sys2Proof

/-! ### A second declaration (R115) -/

/-- A second parcel declaration is answered DONE with its step taken, or NOT_READY. -/
theorem takeRequest_second {kind : DeclKind} {l : Link} {b : Byte} {s : State} {p : Fin 6} {e : Concurrence}
    (ready : ReadyRunning l [b, 0] s) (named : parcelOfByte b = some p) (checks : s.declarationRefusal kind p = none)
    (entry : s.entry (.parcel p) kind = some e) (first : e.first = otherLink l) (met : State → Fin 6 → Bool)
    (step : Fin 6 → Bool → State → State) (tag : Byte) :
    takeRequest l 0x30 tag [b, 0] true .whenRunning (declareParcel kind l [b, 0] met step) s =
      if met (takeFrame l true s) p then
        answered l 0x30 tag .done [] (step p false (removeEntry (.parcel p) kind (takeFrame l true s)))
      else answered l 0x30 tag .notReady [] (takeFrame l true s) := by
  rw [takeRequest_running ready, declareParcel_second rfl named ((takeFrame_declarationRefusal ..).trans checks)
    ((takeFrame_entry ..).trans entry) first]
  split <;> rfl

/-- Nothing is refused once each of checks 3 to 5 of R114 passes. -/
theorem declarationRefusal_eq_none {s : State} {kind : DeclKind} {p : Fin 6}
    (allowed : kindAllowed kind (s.parcel p).state = true)
    (clear : kind = .opening ∨ kind = .resume → s.shipStop = false ∧ s.terminalStop = false)
    (settled : kind = .closing → settleExpired (s.parcel p) = true) : s.declarationRefusal kind p = none := by
  rw [State.declarationRefusal, firstRefusal_eq_none]
  simp only [List.mem_cons, List.not_mem_nil, or_false, forall_eq_or_imp, forall_eq]
  refine ⟨allowed, ?_, ?_⟩
  · by_cases stops : kind = .opening ∨ kind = .resume
    · obtain ⟨ship, terminal⟩ := clear stops
      simp [State.stopLinesClear, ship, terminal]
    · simp [not_or.1 stops]
  · by_cases closing : kind = .closing
    · simp [settled closing]
    · simp [closing]

/-- A step that changes slot `p` and channels and announces the slot, told from the state before its entry left. -/
theorem announced_step {p : Fin 6} {kind : DeclKind} {y : Parcel} {u x : State}
    (frame : x = { removeEntry (.parcel p) kind u with parcels := x.parcels, channels := x.channels })
    (becomes : ParcelBecomes p y u x) (leaves : kindAllowed kind y.state = false) :
    ParcelBecomes p y u (announce p .plain x) ∧ HandedOff p .plain u (announce p .plain x)
      ∧ announce p .plain x =
        { u with
          parcels := (announce p .plain x).parcels, channels := (announce p .plain x).channels
          concurrence := (announce p .plain x).concurrence, trail := (announce p .plain x).trail
          newest := (announce p .plain x).newest, writeQueue := (announce p .plain x).writeQueue
          inFlight := (announce p .plain x).inFlight, alarm := (announce p .plain x).alarm } := by
  have after : ParcelBecomes p y u (announce p .plain x) := becomes.congr (announce_parcels ..)
  refine ⟨after, HandedOff.of_removed (kind := kind) ?_ (after.1.symm ▸ leaves), ?_⟩
  · rw [frame]
    exact (announce_handedOff p .plain _).of_same rfl ⟨rfl, rfl⟩ rfl ⟨rfl, rfl⟩
  · rw [frame, announce_frame]
    rfl

/-! ### The conditions of the two steps (R119, R127) -/

section

variable {s : State}

theorem tankReady_iff (x : TankId) :
    s.tankReady x = true ↔ (s.tank x).figure.status = .current ∧ (s.tank x).figure.marks.tableHeld = false
      ∧ s.tankStale x = false := by
  simp [State.tankReady, and_assoc]

theorem gaugedAfter_iff (start : Clock) (x : TankId) :
    s.gaugedAfter start x = true ↔ ∃ k, (s.tank x).reading = some k ∧ laterThan k.arrival start = true := by
  unfold State.gaugedAfter
  cases (s.tank x).reading <;> simp

theorem openReady_iff {p : Fin 6} {r : ParcelRecord} (record : s.parcelRecord p = some r) :
    s.openReady p = true ↔ (∀ x ∈ tanksNamed r, (s.tank x).figure.status = .current
        ∧ (s.tank x).figure.marks.tableHeld = false ∧ s.tankStale x = false)
      ∧ s.shipCondition ≠ none ∧ ∀ m, r.meter = some m → s.meterInForce m ≠ none := by
  simp only [State.openReady, record, Bool.and_eq_true, List.all_eq_true, tankReady_iff, Option.isSome_iff_ne_none,
    and_assoc]
  cases r.meter <;> simp [Option.isSome_iff_ne_none]

theorem closeReady_iff {p : Fin 6} {r : ParcelRecord} {timer : SettleTimer} (record : s.parcelRecord p = some r)
    (settling : (s.parcel p).settle = some timer) :
    s.closeReady p = true ↔ (∀ x ∈ tanksNamed r, (s.tank x).figure.status = .current
        ∧ (s.tank x).figure.marks.tableHeld = false ∧ s.tankStale x = false
        ∧ ∃ k, (s.tank x).reading = some k ∧ laterThan k.arrival timer.start = true)
      ∧ ∃ c, s.shipCondition = some c ∧ laterThan c.arrival timer.start = true := by
  simp only [State.closeReady, record, settling, Bool.and_eq_true, List.all_eq_true, tankReady_iff, gaugedAfter_iff,
    ← forall_and, and_assoc]
  cases s.shipCondition <;> simp

/-- What the conditions rest on, a frame leaves. -/
theorem takeFrame_openReady (l : Link) (counted : Bool) (p : Fin 6) :
    (takeFrame l counted s).openReady p = s.openReady p := by
  rw [takeFrame_frame]
  rfl

theorem takeFrame_closeReady (l : Link) (counted : Bool) (p : Fin 6) :
    (takeFrame l counted s).closeReady p = s.closeReady p := by
  rw [takeFrame_frame]
  rfl

/-! ### What a declaration and its frame leave -/

section

variable (l : Link) (subject : Subject) (kind : DeclKind) (s : State)

theorem parcel_declared (p : Fin 6) : (removeEntry subject kind (takeFrame l true s)).parcel p = s.parcel p :=
  takeFrame_parcel l true p s

theorem channel_declared (m : Fin 4) : (removeEntry subject kind (takeFrame l true s)).channel m = s.channel m :=
  takeFrame_channel l true m s

theorem clock_declared : (removeEntry subject kind (takeFrame l true s)).clock = s.clock := takeFrame_clock l true s

theorem parcelRecord_declared (p : Fin 6) :
    (removeEntry subject kind (takeFrame l true s)).parcelRecord p = s.parcelRecord p := by
  rw [takeFrame_frame]
  rfl

theorem boundMeter_declared (p : Fin 6) :
    (removeEntry subject kind (takeFrame l true s)).boundMeter p = s.boundMeter p := by
  rw [takeFrame_frame]
  rfl

theorem openingFigures_declared (r : ParcelRecord) :
    (removeEntry subject kind (takeFrame l true s)).openingFigures r = s.openingFigures r := by
  rw [takeFrame_frame]
  rfl

end

/-! ### The OPEN step (R99, R120, R121) -/

/-- The opening fix at the meter of a record, if it names one (R99). -/
def openMeter (p : Fin 6) (m : Option (Fin 4)) (s : State) : State :=
  match m with
  | some m => openChannel p m s
  | none => s

theorem openMeter_frame (p : Fin 6) (m : Option (Fin 4)) (s : State) :
    openMeter p m s = { s with channels := (openMeter p m s).channels } := by cases m <;> rfl

theorem openMeter_channel (p : Fin 6) (m : Option (Fin 4)) (x : Fin 4) :
    (openMeter p m s).channel x =
      if m = some x then
        { s.channel x with
          lastCount := (s.channel x).pulses, lastTime := s.clock, accumulators := some (zeroAccumulators p) }
      else s.channel x := by
  cases m with
  | none => simp [openMeter]
  | some m =>
    simp only [openMeter, openChannel, setChannel_channel, Option.some.injEq]
    by_cases same : x = m
    · subst same
      simp [advanceSample]
    · simp [same, Ne.symm same]

/-- The slot after the opening fix, before its hand-offs. -/
def openedState (p : Fin 6) (r : ParcelRecord) (s : State) : State :=
  openMeter p r.meter (setParcel p (openedParcel (s.openingFigures r) r (s.parcel p)) s)

theorem openParcel_eq {p : Fin 6} {r : ParcelRecord} (record : s.parcelRecord p = some r) :
    openParcel p s = announce p .plain (openedState p r s) := by
  simp only [openParcel, record]
  rfl

theorem openedState_frame (p : Fin 6) (r : ParcelRecord) (s : State) :
    openedState p r s =
      { s with parcels := (openedState p r s).parcels, channels := (openedState p r s).channels } := by
  unfold openedState
  rw [openMeter_frame]
  rfl

theorem openedState_becomes (p : Fin 6) (r : ParcelRecord) (s : State) :
    ParcelBecomes p (openedParcel (s.openingFigures r) r (s.parcel p)) s (openedState p r s) := by
  unfold openedState
  rw [openMeter_frame]
  exact parcelBecomes_setParcel p _ s

theorem openedState_channel (p : Fin 6) (r : ParcelRecord) (s : State) (x : Fin 4) :
    (openedState p r s).channel x =
      if r.meter = some x then
        { s.channel x with
          lastCount := (s.channel x).pulses, lastTime := s.clock, accumulators := some (zeroAccumulators p) }
      else s.channel x := openMeter_channel p r.meter x

end

/-- Settles O32: by the conditions of R119; the fix, the meter and the hand-offs each from the step's own operation. -/
theorem openStepTaken : Obligations.OpenStepTaken := by
  intro l tag b s p e r running named state ship terminal entry first record u ready ships shores
  have checks : s.declarationRefusal .opening p = none :=
    declarationRefusal_eq_none (by rw [state]; rfl) (fun _ => ⟨ship, terminal⟩) nofun
  have answer : exec (.declareOpen l tag [b, 0]) s = .next (if s.openReady p then
      answered l 0x30 tag .done [] (openParcel p (removeEntry (.parcel p) .opening u))
      else answered l 0x30 tag .notReady [] u) := by
    rw [← takeFrame_openReady (s := s) l true p]
    exact congrArg _ (takeRequest_second running named checks entry first _ _ tag)
  have conditions : s.openReady p = true ↔ ready := openReady_iff record
  refine ⟨fun not => by rw [answer, if_neg (mt conditions.1 not)], fun met => ?_⟩
  rw [if_pos (conditions.2 met)] at answer
  rw [openParcel_eq ((parcelRecord_declared ..).trans record)] at answer
  have becomes := openedState_becomes p r (removeEntry (.parcel p) .opening u)
  rw [openingFigures_declared, parcel_declared] at becomes
  obtain ⟨slot, handed, rest⟩ := announced_step (openedState_frame p r _) (becomes.of_same rfl) rfl
  refine ⟨(s.openingFigures r).vef, _, answer, fun vessel force => ?_, slot, fun m => ?_, handed, rest⟩
  · simp [State.openingFigures, force]
  · rw [announce_channel, openedState_channel, clock_declared, channel_declared, takeFrame_channel]
    rfl

section

variable {s : State}

/-! ### The closing sample (R94, R100) -/

/-- The channel of a meter after its closing sample (R100). -/
def State.sampledChannel (s : State) (m : Fin 4) : Channel :=
  match s.meterParcel m with
  | none => s.channel m
  | some p =>
    if isLive (s.parcel p).state then
      match s.meterInForce m, s.parcelInForce p with
      | some meter, some parcel => runningSample s.clock meter parcel (s.channel m)
      | _, _ => s.channel m
    else s.channel m

theorem closingSample_eq (m : Fin 4) (s : State) : closingSample m s = setChannel m (s.sampledChannel m) s := by
  rw [closingSample_frame]
  congr 1
  unfold closingSample State.sampledChannel
  grind [setChannel_channel_same]

/-- A closing sample leaves a channel that is not RUNNING (R93, R100). -/
theorem sampledChannel_of_not_running {m : Fin 4} (idle : s.channelMode m ≠ .running) :
    s.sampledChannel m = s.channel m := by
  unfold State.channelMode at idle
  unfold State.sampledChannel
  grind

theorem sampledChannel_live {m : Fin 4} {p : Fin 6} {meter : MeterRecord} {r : ParcelRecord}
    (bound : s.meterParcel m = some p) (live : isLive (s.parcel p).state = true)
    (metered : s.meterInForce m = some meter) (recorded : s.parcelInForce p = some r) :
    s.sampledChannel m = runningSample s.clock meter r (s.channel m) := by
  simp only [State.sampledChannel, bound, live, metered, recorded, if_true]

/-- A RUNNING channel after its closing sample, with what the sample adds written out (R94 to R98). -/
theorem runningSample_written {c : Channel} {a : AccumulatorSet} (held : c.accumulators = some a) (now : Clock)
    (meter : MeterRecord) (r : ParcelRecord) :
    let span := (now - c.lastTime).toNat
    let pulses := (c.pulses - c.lastCount).toNat
    let vcf : Int := match c.lineConditions with
      | some line => vcfOf r.a r.b line.temperature
      | none => 1000000
    let indicated := (roundDiv (pulses * 1000000) meter.kFactor).toNat
    let gross := (roundDiv (indicated * meter.meterFactor) 1000000).toNat
    let standard := (roundDiv (gross * vcf) 1000000).toNat
    let hold := 9223372036854775807
    let tooFast := decide (meter.maxRate * span < pulses * 10)
    runningSample now meter r c =
      { c with
        lastCount := c.pulses, lastTime := now, lastLineVcf := some vcf
        overRate := if span = 0 then c.overRate else tooFast
        accumulators := some
          { a with
            indicated := min (a.indicated + indicated) hold, gross := min (a.gross + gross) hold
            standard := min (a.standard + standard) hold
            overRate := a.overRate || (span != 0 && tooFast)
            lineTempMissing := a.lineTempMissing || c.lineConditions.isNone } } := runningSample_eq held now meter r

/-- A declaration and its frame leave what the closing sample rests on. -/
theorem sampledChannel_declared (l : Link) (subject : Subject) (kind : DeclKind) (m : Fin 4) :
    (removeEntry subject kind (takeFrame l true s)).sampledChannel m = s.sampledChannel m := by
  rw [takeFrame_frame]
  rfl

theorem sampleAtClose_frame (p : Fin 6) (s : State) :
    sampleAtClose p s = { s with channels := (sampleAtClose p s).channels } := by
  unfold sampleAtClose
  split
  · rw [closingSample_eq]
    rfl
  · rfl

theorem sampleAtClose_channel {p : Fin 6} {m : Option (Fin 4)} (bound : s.boundMeter p = m) (x : Fin 4) :
    (sampleAtClose p s).channel x = if m = some x then s.sampledChannel x else s.channel x := by
  subst bound
  unfold sampleAtClose
  cases s.boundMeter p with
  | none => simp
  | some m =>
    simp only [closingSample_eq, setChannel_channel, Option.some.injEq]
    by_cases same : x = m
    · simp [same]
    · simp [same, Ne.symm same]

/-! ### The final record (R128, R138 to R142, R156, R157) -/

theorem quantitiesOf_eq (r : ParcelRecord) (o : OpeningFigures) (ships shores : Int) :
    quantitiesOf r o ships shores = transferred r o ships shores := by
  unfold quantitiesOf transferred
  cases r.direction <;> simp

theorem gradeDifference_eq (r : ParcelRecord) (difference qShore : Int) :
    gradeDifference r difference qShore = compared r difference qShore := by
  unfold gradeDifference compared ratioOf baseMinimumOf
  rw [clampInt_eq (by decide)]
  dsimp only
  by_cases low : qShore < (r.baseMinimum.getD defaultBaseMinimum : Nat)
  · rw [if_neg (not_le.2 low), if_pos low]
  · rw [if_pos (not_lt.1 low), if_neg low]
    rfl

theorem finalTanks_eq {n : Nat} (ts : List (Fin n)) (os cs : List Int) :
    finalTanks ts os cs = (ts.zip (os.zip cs)).map fun v => { tank := v.1, opening := v.2.1, closing := v.2.2 } := by
  induction ts generalizing os cs with
  | nil => rfl
  | cons t ts ih =>
    cases os with
    | nil => rfl
    | cons o os =>
      cases cs with
      | nil => rfl
      | cons c cs => simp [finalTanks, ih]

/-- The final record field by field, with the quantities of R138 and R139 and the comparisons of R140 to R142. -/
theorem finalRecord_eq {p : Fin 6} {r : ParcelRecord} {o : OpeningFigures} {c : ClosingFigures} {items : CompItems}
    {n : Nat} {waiting : Bool} {set : Option AccumulatorSet} {waits : Prop} [Decidable waits]
    (mode : waiting = true ↔ waits) : c.metered = set.map meteredFigure →
    let q := transferred r o c.shipTotal c.shoreTotal
    finalRecord p r o c items n waiting set =
      { parcel := p, grade := r.grade, direction := r.direction, openingTime := o.time, closingTime := c.time
        shipTanks := (r.shipTanks.zip (o.shipVolumes.zip c.shipVolumes)).map fun v =>
          { tank := v.1, opening := v.2.1, closing := v.2.2 }
        shoreTanks := (r.shoreTanks.zip (o.shoreVolumes.zip c.shoreVolumes)).map fun v =>
          { tank := v.1, opening := v.2.1, closing := v.2.2 }
        openingShipTotal := o.shipTotal, openingShoreTotal := o.shoreTotal
        closingShipTotal := c.shipTotal, closingShoreTotal := c.shoreTotal, qShip := q.qShip
        vefUsed := if r.applyVef then some o.vef else none, qAdj := q.qAdj, qShore := q.qShore
        ship := finalComparison (compared r (q.qAdj - q.qShore) q.qShore) items.ship
        meter := match set, items.meter with
          | some a, some m =>
            some
              { metered := meteredFigure a, interrupted := a.interrupted, overRate := a.overRate
                lineTempMissing := a.lineTempMissing
                comparison := finalComparison
                  (if waits then
                    { result := .notEvaluated .meterWaiting, difference := some (meteredFigure a - q.qShore)
                      ratio := none }
                  else compared r (meteredFigure a - q.qShore) q.qShore) m }
          | _, _ => none
        evaluations := items.evaluations, suspensions := n, degraded := items.degraded } := by
  intro metered q
  have comparison : ∀ v, meterOutcome r waiting q v =
      if waits then { result := .notEvaluated .meterWaiting, difference := some (v - q.qShore), ratio := none }
      else compared r (v - q.qShore) q.qShore := fun v => by
    rw [meterOutcome, gradeDifference_eq]
    exact if_congr mode rfl rfl
  simp only [finalRecord, finalTanks_eq, quantitiesOf_eq, shipOutcome, gradeDifference_eq, metered]
  cases set with
  | none => rfl
  | some a =>
    cases items.meter with
    | none => rfl
    | some m =>
      simp only [Option.map_some, ← comparison]
      rfl

/-! ### The CLOSE step (R128, R157) -/

/-- The slot after the closing sample and the closing fix, before its hand-offs. -/
def closedState (p : Fin 6) (r : ParcelRecord) (o : OpeningFigures) (s : State) : State :=
  setParcel p ((sampleAtClose p s).closedParcel p r o) (sampleAtClose p s)

theorem closeParcel_eq {p : Fin 6} {r : ParcelRecord} {o : OpeningFigures} (record : s.parcelRecord p = some r)
    (opened : (s.parcel p).opening = some o) : closeParcel p s = announce p .plain (closedState p r o s) := by
  simp only [closeParcel, record, opened]
  rfl

theorem closedState_frame (p : Fin 6) (r : ParcelRecord) (o : OpeningFigures) (s : State) :
    closedState p r o s =
      { s with parcels := (closedState p r o s).parcels, channels := (closedState p r o s).channels } := by
  unfold closedState
  rw [sampleAtClose_frame]
  rfl

theorem closedState_channel_sampled (p : Fin 6) (r : ParcelRecord) (o : OpeningFigures) (m : Fin 4) (s : State) :
    (closedState p r o s).channel m = (sampleAtClose p s).channel m := by
  unfold closedState
  exact setParcel_channel ..

theorem closedState_channel {p : Fin 6} {m : Option (Fin 4)} (bound : s.boundMeter p = m) (r : ParcelRecord)
    (o : OpeningFigures) (x : Fin 4) :
    (closedState p r o s).channel x = if m = some x then s.sampledChannel x else s.channel x := by
  rw [closedState_channel_sampled, sampleAtClose_channel bound]

theorem closedState_becomes (p : Fin 6) (r : ParcelRecord) (o : OpeningFigures) (s : State) :
    ParcelBecomes p ((sampleAtClose p s).closedParcel p r o) s (closedState p r o s) :=
  (parcelBecomes_setParcel p _ (sampleAtClose p s)).of_same (by rw [sampleAtClose_frame])

/-- The closing figures with the metered figure of the accumulator set `set` (R101, R128). -/
def State.figuresAtClose (s : State) (r : ParcelRecord) (set : Option AccumulatorSet) : ClosingFigures :=
  { time := s.clock, shipVolumes := s.shipVolumes r, shoreVolumes := s.shoreVolumes r
    shipTotal := (s.shipVolumes r).sum, shoreTotal := (s.shoreVolumes r).sum, metered := set.map meteredFigure }

/-- The closing fix in a state `t` that differs from `s` in its links, its trail, its table and its channels: the metered
figure alone is told from the channels of `t`. -/
theorem closedParcel_of_frame {t : State} {p : Fin 6} {r : ParcelRecord} (bound : s.boundMeter p = r.meter)
    (frame : t =
      { s with
        shipLink := t.shipLink, terminalLink := t.terminalLink, trail := t.trail, newest := t.newest
        concurrence := t.concurrence, channels := t.channels }) (o : OpeningFigures) :
    let set := r.meter.bind fun m => (t.channel m).accumulators
    t.closedParcel p r o =
      { s.parcel p with
        state := .closed, settle := none, closing := some (s.figuresAtClose r set)
        final := some (finalRecord p r o (s.figuresAtClose r set) (s.itemsOf p) ((s.parcel p).suspensions.getD 0)
          (s.meterWaiting p) set) } := by
  intro set
  have parcel : t.parcel p = s.parcel p := by rw [frame]; rfl
  have clock : t.clock = s.clock := by rw [frame]
  have ships : t.shipVolumes r = s.shipVolumes r := by rw [frame]; rfl
  have shores : t.shoreVolumes r = s.shoreVolumes r := by rw [frame]; rfl
  have items : t.itemsOf p = s.itemsOf p := by rw [frame]; rfl
  have waiting : t.meterWaiting p = s.meterWaiting p := by rw [frame]; rfl
  have accumulators : t.parcelAccumulators p = set := by
    have same : t.boundMeter p = s.boundMeter p := by rw [frame]; rfl
    rw [State.parcelAccumulators, same, bound]
  simp only [State.closedParcel, State.closingFigures, State.parcelMetered, parcel, clock, ships, shores, items, waiting,
    accumulators]
  rfl

theorem sampleAtClose_declared_frame (l : Link) (subject : Subject) (kind : DeclKind) (p : Fin 6) :
    let t := sampleAtClose p (removeEntry subject kind (takeFrame l true s))
    t = { s with
          shipLink := t.shipLink, terminalLink := t.terminalLink, trail := t.trail, newest := t.newest
          concurrence := t.concurrence, channels := t.channels } := by
  intro t
  have frame : t = _ := sampleAtClose_frame p _
  rw [frame, takeFrame_frame]
  rfl

theorem boundMeter_of_record {p : Fin 6} {r : ParcelRecord} (state : (s.parcel p).state = .settling)
    (record : s.parcelRecord p = some r) : s.boundMeter p = r.meter := by
  simp [State.boundMeter, State.boundRecord, state, record]

theorem meterWaiting_iff {p : Fin 6} {m : Option (Fin 4)} (bound : s.boundMeter p = m) :
    s.meterWaiting p = true ↔ ∃ x, m = some x ∧ s.channelMode x = .waiting := by
  subst bound
  unfold State.meterWaiting
  cases s.boundMeter p <;> simp

end

/-- Settles O34: by the conditions of R127; the sample, the fix, the record and the hand-offs each from its own operation. -/
theorem closeStepTaken : Obligations.CloseStepTaken := by
  intro l tag b s p e r timer o running named state settling expired entry first record opened u ready ships shores
  have checks : s.declarationRefusal .closing p = none :=
    declarationRefusal_eq_none (by rw [state]; rfl) nofun fun _ => by simp [settleExpired, settling, expired]
  have answer : exec (.declareClose l tag [b, 0]) s = .next (if s.closeReady p then
      answered l 0x30 tag .done [] (closeParcel p (removeEntry (.parcel p) .closing u))
      else answered l 0x30 tag .notReady [] u) := by
    rw [← takeFrame_closeReady (s := s) l true p]
    exact congrArg _ (takeRequest_second running named checks entry first _ _ tag)
  have conditions : s.closeReady p = true ↔ ready := closeReady_iff record settling
  refine ⟨fun not => by rw [answer, if_neg (mt conditions.1 not)], fun met => ?_⟩
  rw [if_pos (conditions.2 met)] at answer
  have bound := boundMeter_of_record state record
  have becomes := closedState_becomes p r o (removeEntry (.parcel p) .closing u)
  rw [closedParcel_of_frame bound (sampleAtClose_declared_frame l (.parcel p) .closing p) o] at becomes
  rw [closeParcel_eq ((parcelRecord_declared ..).trans record) ((congrArg _ (parcel_declared ..)).trans opened)] at answer
  obtain ⟨slot, handed, rest⟩ := announced_step (closedState_frame p r o _) (becomes.of_same rfl) rfl
  have channel : ∀ m, (announce p .plain (closedState p r o (removeEntry (.parcel p) .closing u))).channel m =
      if r.meter = some m then s.sampledChannel m else s.channel m := fun m => by
    rw [announce_channel, closedState_channel ((boundMeter_declared ..).trans bound), sampledChannel_declared,
      channel_declared]
  have sampled : ∀ m, (sampleAtClose p (removeEntry (.parcel p) .closing (takeFrame l true s))).channel m =
      (announce p .plain (closedState p r o (removeEntry (.parcel p) .closing u))).channel m := fun m => by
    rw [announce_channel, closedState_channel_sampled]
  simp only [sampled] at slot
  refine ⟨_, answer, fun m => ?_, fun m named idle => ?_, fun m meter a named joined metered recorded held => ?_,
    fun items held => ?_, ⟨_, ?_, slot⟩, handed, rest⟩
  · rw [channel, closingSample_eq, setChannel_channel_same]
  · rw [channel, if_pos named, sampledChannel_of_not_running idle]
  · rw [channel, if_pos named, sampledChannel_live joined (by rw [state]; rfl) metered recorded]
    exact runningSample_written held ..
  · have evaluated : s.itemsOf p = items := by rw [State.itemsOf, held, Option.getD_some]
    rw [slot.1, evaluated, finalRecord_eq (meterWaiting_iff bound) rfl]
    rfl
  · rw [State.figuresAtClose, Option.map_bind]
    rfl

end Sys2Proof.Machine
end

section
/-! The load of the link parameters and the end of the load (R94, R132, R135, R159, R187, R205, R208). -/

namespace Sys2Proof.Machine

open Sys2Proof

/-! ### Link parameters (R187, R205) -/

theorem execStoreLoadLinkParameters_at {s : State} {l : Link} (starting : s.unit = .starting)
    (load : s.load = .linkParameters l) :
    exec .storeLoadLinkParameters s = .next (setLoad (afterLink l) (loadLinkParameters l s)) := by
  change execStoreLoadLinkParameters s = _
  simp only [execStoreLoadLinkParameters, starting, load, if_true]

theorem loadLinkParameters_stored {s : State} {l : Link} {first : Bool} {c : StoreCopy} {threshold holdTimeout : Nat}
    {check : Digest} (found : storedCopy (.linkParameters l) (s.places (.linkParameters l)) = some (first, c))
    (content : c.content = .linkParameters threshold holdTimeout check) :
    loadLinkParameters l s = setLink l { s.link l with threshold := threshold, holdTimeout := holdTimeout } s := by
  simp only [loadLinkParameters, found, content]

theorem loadLinkParameters_notStored {s : State} {l : Link}
    (found : storedCopy (.linkParameters l) (s.places (.linkParameters l)) = none) : loadLinkParameters l s = s := by
  simp only [loadLinkParameters, found]

theorem loadLinkParameters_removed {s : State} {l : Link} {first : Bool} {c : StoreCopy}
    (found : storedCopy (.linkParameters l) (s.places (.linkParameters l)) = some (first, c))
    (removed : c.content = .removal) : loadLinkParameters l s = s := by
  simp only [loadLinkParameters, found, removed]

/-- A stored copy of link parameters has passed its check, and with it the ranges of R187. -/
theorem storedLinkParameters_inRange {l : Link} {v : ObjectPlaces} {first : Bool} {c : StoreCopy}
    {threshold holdTimeout : Nat} {check : Digest} (found : storedCopy (.linkParameters l) v = some (first, c))
    (content : c.content = .linkParameters threshold holdTimeout check) :
    1 ≤ threshold ∧ threshold ≤ 63 ∧ 10 ≤ holdTimeout ∧ holdTimeout ≤ 600 := by
  have passes := storedCopy_passes found
  simp only [copyPasses, contentPasses, content, linkParametersInRange, inRange, Bool.and_eq_true,
    decide_eq_true_eq] at passes
  obtain ⟨-, -, ⟨low, high⟩, shortest, longest⟩ := passes
  exact ⟨low, high, shortest, longest⟩

/-! ### The end of the load (R132, R159, R208) -/

/-- The report of a line tells the trail alone. -/
theorem reportStopLine_frame (l : Link) (s : State) :
    reportStopLine l s = { s with trail := (reportStopLine l s).trail, newest := (reportStopLine l s).newest } := by
  unfold reportStopLine
  split
  · exact appendTrail_frame ..
  · rfl

theorem reportStopLine_stopLine (l x : Link) (s : State) : (reportStopLine l s).stopLine x = s.stopLine x := by
  rw [reportStopLine_frame]
  cases x <;> rfl

theorem reportStopLine_clock (l : Link) (s : State) : (reportStopLine l s).clock = s.clock := by
  rw [reportStopLine_frame]

/-- The report of a line rests on the line, the trail and the clock. -/
theorem SameTrail.reportStopLine {v w : State} (h : SameTrail v w) (l : Link) (line : w.stopLine l = v.stopLine l)
    (clock : w.clock = v.clock) : SameTrail (reportStopLine l v) (reportStopLine l w) := by
  unfold Machine.reportStopLine
  rw [line]
  split
  · exact h.append clock _
  · exact h

theorem startSampleTimers_frame (s : State) :
    startSampleTimers s = { s with channels := (startSampleTimers s).channels } := rfl

theorem startSampleTimer_channel (m x : Fin 4) (s : State) :
    (startSampleTimer m s).channel x = if x = m then { s.channel x with timer := some s.clock } else s.channel x := by
  by_cases h : x = m
  · subst h; simp [startSampleTimer]
  · simp [startSampleTimer, setChannel_channel_ne h, h]

/-- A sample timer started twice at one clock is as started once. -/
theorem startSampleTimer_fold_channel (ms : List (Fin 4)) (x : Fin 4) (s : State) :
    (ms.foldl (fun s m => startSampleTimer m s) s).channel x =
      if x ∈ ms then { s.channel x with timer := some s.clock } else s.channel x := by
  induction ms generalizing s with
  | nil => simp
  | cons m ms ih =>
    have clock : (startSampleTimer m s).clock = s.clock := rfl
    rw [List.foldl_cons, ih, clock, startSampleTimer_channel]
    by_cases first : x = m <;> by_cases later : x ∈ ms <;> simp [first, later]

theorem startSampleTimers_channel (m : Fin 4) (s : State) :
    (startSampleTimers s).channel m = { s.channel m with timer := some s.clock } := by
  have every : m ∈ allMeters := by revert m; decide
  exact (startSampleTimer_fold_channel allMeters m s).trans (if_pos every)

/-- The unit as it becomes RUNNING, before the events of the lines: the items taken up, the alarm line set and the timers
started (R94, R135, R152, R159, R208). -/
def runningState (s : State) : State :=
  startSampleTimers
    (startAuditTimer (startInterval (setAlarm { takeUpItems s with unit := .running, load := .complete })))

theorem completeLoad_eq (s : State) :
    completeLoad s = reportStopLine .terminal (reportStopLine .ship (runningState s)) := rfl

theorem runningState_frame (s : State) :
    runningState s = { s with
      unit := .running, load := .complete, parcels := (takeUpItems s).parcels, restored := (takeUpItems s).restored
      alarm := (takeUpItems s).alarmDue
      intervalTimer := some { start := s.clock, duration := 10 * s.settingsInUse.interval }
      auditTimer := some { start := s.clock, duration := 10 * s.settingsInUse.auditPeriod }
      channels := (runningState s).channels } := rfl

theorem completeLoad_frame (s : State) :
    completeLoad s = { runningState s with trail := (completeLoad s).trail, newest := (completeLoad s).newest } := by
  rw [completeLoad_eq, reportStopLine_frame, reportStopLine_frame]

theorem runningState_channel (m : Fin 4) (s : State) :
    (runningState s).channel m = { s.channel m with timer := some s.clock } :=
  startSampleTimers_channel m _

/-- The lines ASSERTED at the end of the load are told ship line first (R132, R208). -/
theorem completeLoad_sameTrail (s : State) :
    SameTrail (reportStopLine .terminal (reportStopLine .ship s)) (completeLoad s) := by
  have running : SameTrail s (runningState s) := ⟨rfl, rfl⟩
  have ship := running.reportStopLine .ship rfl rfl
  refine ship.reportStopLine .terminal ?_ ?_
  · simp only [reportStopLine_stopLine]
    rfl
  · simp only [reportStopLine_clock]
    rfl

theorem completeLoad_parcel (p : Fin 6) (s : State) : (completeLoad s).parcel p = s.restoredParcel p := by
  rw [completeLoad_frame]
  exact takeUpItems_parcel p s

theorem completeLoad_restoredItems (p : Fin 6) (s : State) : (completeLoad s).restoredItems p = .empty := by
  rw [completeLoad_frame]
  exact takeUpItems_restoredItems p s

theorem completeLoad_channel (m : Fin 4) (s : State) :
    (completeLoad s).channel m = { s.channel m with timer := some s.clock } := by
  rw [completeLoad_frame]
  exact runningState_channel m s

/-- The alarm line follows the declared states taken up (R152, R159). -/
theorem completeLoad_alarm (s : State) : (completeLoad s).alarm = (completeLoad s).alarmDue := by
  rw [completeLoad_frame]
  rfl

/-- Settles O51: the load of a link's parameters is told by the stored copy, and the end of the load part by part. -/
theorem loadOfLinksAndItsEnd : Obligations.LoadOfLinksAndItsEnd := by
  unfold Obligations.LoadOfLinksAndItsEnd
  refine ⟨fun l s starting load => ?_, fun s => ?_⟩
  · rw [execStoreLoadLinkParameters_at starting load]
    refine ⟨fun first c threshold holdTimeout check found content => ⟨?_, ?_⟩, ?_⟩
    · rw [loadLinkParameters_stored found content]
      cases l <;> rfl
    · exact storedLinkParameters_inRange found content
    · rintro (found | ⟨first, c, found, removed⟩)
      · rw [loadLinkParameters_notStored found]
        cases l <;> rfl
      · rw [loadLinkParameters_removed found removed]
        cases l <;> rfl
  · refine ⟨?unit, ?load, completeLoad_alarm s, fun p => completeLoad_parcel p s,
      fun p => completeLoad_restoredItems p s, ?interval, ?audit, fun m => completeLoad_channel m s, ?trail, ?frame⟩
    case trail =>
      have told := completeLoad_sameTrail s
      rw [reportStopLine, reportStopLine_stopLine] at told
      exact told
    all_goals
      rw [completeLoad_frame, runningState_frame]

end Sys2Proof.Machine
end

section
/-! A slot that a checkpoint brings up, leaves dropped or leaves free: what it tells (R102, R199, R201, R206, R207). -/

namespace Sys2Proof.Machine

open Sys2Proof

variable {p : Fin 6} {s w t : State} {v : Parcel} {r : ParcelRecord} {c : Checkpoint} {m : Option (Fin 4)}
  {a : Option AccumulatorSet}

/-! ### A slot dropped or freed (R206) -/

/-- Between `s` and `w` the slot was dropped: its event, the removal of its checkpoint and, where a record was reloaded, of
that record, which leaves its slot (R206). -/
def SlotDropped (p : Fin 6) (s w : State) : Prop :=
  SameTrail (appendTrail (.storeDrop (.parcel p) .checkpointFailed) s) w ∧ w.parcel p = s.parcel p
    ∧ ((s.slot (.parcel p)).current ≠ none →
      w.slot (.parcel p) = { s.slot (.parcel p) with current := none, last := .none }
      ∧ SameWrites (giveWrite (.record (.parcel p)) .removal (giveWrite (.checkpoint p) .removal s)) w)
    ∧ ((s.slot (.parcel p)).current = none →
      w.slot (.parcel p) = s.slot (.parcel p) ∧ SameWrites (giveWrite (.checkpoint p) .removal s) w)
    ∧ (∀ j, j ≠ RecordSlot.parcel p → w.slot j = s.slot j)
    ∧ w = { s with
            slots := w.slots, trail := w.trail, newest := w.newest, writeQueue := w.writeQueue
            inFlight := w.inFlight }

/-- Between `s` and `w` the slot came up FREE with its PARCEL_STATE event and the removal of its checkpoint (R206). -/
def SlotFreed (p : Fin 6) (s w : State) : Prop :=
  SameTrail (appendTrail (.parcelState p .free (.unilateral false)) s) w
    ∧ w.parcel p = s.parcel p ∧ SameWrites (giveWrite (.checkpoint p) .removal s) w
    ∧ w = { s with trail := w.trail, newest := w.newest, writeQueue := w.writeQueue, inFlight := w.inFlight }

/-- A record appended leaves the writer as it stands. -/
theorem sameWrites_appendTrail (b : TrailBody) (s : State) : SameWrites s (appendTrail b s) := by
  rw [appendTrail_frame]
  exact ⟨rfl, rfl⟩

/-- A write given leaves the trail as it stands. -/
theorem sameTrail_giveWrite (o : StoreObject) (x : StoredContent) (s : State) : SameTrail s (giveWrite o x s) := by
  rw [giveWrite_frame]
  exact ⟨rfl, rfl⟩

theorem dropParcel_reloaded (reloaded : (s.slot (.parcel p)).current ≠ none) :
    dropParcel p s =
      removeRecord (.parcel p) (setSlot (.parcel p) { s.slot (.parcel p) with current := none, last := .none }
        (removeCheckpoint p (appendTrail (.storeDrop (.parcel p) .checkpointFailed) s))) := by
  simp [dropParcel, discardReloaded, removeCheckpoint, Option.isSome_iff_ne_none, reloaded]

theorem dropParcel_bare (bare : (s.slot (.parcel p)).current = none) :
    dropParcel p s = removeCheckpoint p (appendTrail (.storeDrop (.parcel p) .checkpointFailed) s) := by
  simp [dropParcel, discardReloaded, removeCheckpoint, bare]

theorem slotDropped_dropParcel (p : Fin 6) (s : State) : SlotDropped p s (dropParcel p s) := by
  have checkpoint : SameWrites (giveWrite (.checkpoint p) .removal s)
      (removeCheckpoint p (appendTrail (.storeDrop (.parcel p) .checkpointFailed) s)) :=
    (sameWrites_appendTrail _ s).give _ _
  have told := sameTrail_giveWrite (.checkpoint p) .removal (appendTrail (.storeDrop (.parcel p) .checkpointFailed) s)
  by_cases bare : (s.slot (.parcel p)).current = none
  case pos =>
    rw [dropParcel_bare bare]
    refine ⟨told, ?_, fun reloaded => absurd bare reloaded, fun _ => ⟨?_, checkpoint⟩, fun j _ => ?_, ?_⟩
    case refine_4 => rw [removeCheckpoint, giveWrite_frame, appendTrail_frame]
    all_goals simp [removeCheckpoint]
  case neg =>
    rw [dropParcel_reloaded bare]
    refine ⟨told.trans (sameTrail_giveWrite _ _ _), ?_, fun _ => ⟨?_, ?_⟩, fun h => absurd h bare, fun j hj => ?_, ?_⟩
    case refine_3 => exact SameWrites.give (w := setSlot _ _ _) checkpoint _ _
    case refine_4 => simp [removeRecord, removeCheckpoint, setSlot_slot_ne hj]
    case refine_5 =>
      rw [removeRecord, giveWrite_frame, removeCheckpoint, giveWrite_frame, appendTrail_frame]
      rfl
    all_goals simp [removeRecord, removeCheckpoint]

theorem slotFreed_freeParcel (p : Fin 6) (s : State) : SlotFreed p s (freeParcel p s) := by
  refine ⟨sameTrail_giveWrite _ _ _, ?_, (sameWrites_appendTrail _ s).give _ _, ?_⟩
  · simp [freeParcel, removeCheckpoint]
  · rw [freeParcel, removeCheckpoint, giveWrite_frame, appendTrail_frame]

/-! ### A slot brought up (R102, R199, R206, R207) -/

/-- Between `s` and `w` the slot came up as `v`, its comparison items and its final record waiting, with the accumulator set
`a` on its meter's channel (R102, R159, R206). -/
def SlotRestored (p : Fin 6) (v : Parcel) (m : Option (Fin 4)) (a : Option AccumulatorSet) (s w : State) : Prop :=
  ParcelBecomes p { v with comparisons := none, final := none } s w
    ∧ w.restoredItems p = { comparisons := v.comparisons, final := v.final }
    ∧ (∀ q, q ≠ p → w.restoredItems q = s.restoredItems q) ∧ AccumulatorsBecome m a s w
    ∧ w = { s with
            parcels := w.parcels, restored := w.restored, channels := w.channels, trail := w.trail
            newest := w.newest, writeQueue := w.writeQueue, inFlight := w.inFlight }

/-- The checkpoint of the slot as restored (R199, R206). -/
def restoredCheckpoint (p : Fin 6) (v : Parcel) (m : Option (Fin 4)) (a : Option AccumulatorSet) (s : State) :
    Checkpoint :=
  { state := v.state, recordDigest := (s.slot (.parcel p)).current.map fun c => c.digest, reason := v.reason
    suspensions := v.suspensions, opening := v.opening, closing := v.closing, final := v.final
    accumulators := m.bind fun _ => a, comparisons := v.comparisons }

/-- The writer was given the checkpoint of the slot as restored (R206, R207). -/
def CheckpointGiven (p : Fin 6) (v : Parcel) (m : Option (Fin 4)) (a : Option AccumulatorSet) (s w : State) : Prop :=
  SameWrites (giveWrite (.checkpoint p)
    (.checkpoint (restoredCheckpoint p v m a s) (checkpointCheck (restoredCheckpoint p v m a s))) s) w

/-- Trail and writer apart, what a restored slot is told by. -/
theorem SlotRestored.congr (h : SlotRestored p v m a s w)
    (e : t = { w with trail := t.trail, newest := t.newest, writeQueue := t.writeQueue, inFlight := t.inFlight }) :
    SlotRestored p v m a s t := by
  obtain ⟨parcels, items, others, channels, frame⟩ := h
  rw [e]
  refine ⟨parcels, items, others, channels, ?_⟩
  rw [frame]

theorem SlotRestored.appendTrail (h : SlotRestored p v m a s w) (b : TrailBody) :
    SlotRestored p v m a s (appendTrail b w) := h.congr (by rw [appendTrail_frame])

theorem slotRestored_bringUp (p : Fin 6) (v : Parcel) (r : ParcelRecord) (a : Option AccumulatorSet) (s : State) :
    SlotRestored p v r.meter a s (restoreAccumulators r a (bringUp p v s)) := by
  have channels := restoreAccumulators_become r a (bringUp p v s)
  have waiting := fun q => bringUp_restoredItems p q v s
  rw [restoreAccumulators_frame] at channels ⊢
  refine ⟨(bringUp_becomes p v s).congr rfl, ?_, fun q hq => ?_, channels.of_same rfl, rfl⟩
  · exact (waiting p).trans (if_pos rfl)
  · exact (waiting q).trans (if_neg hq)

/-- The items that wait and the items that stand are together what the slot came up as. -/
theorem SlotRestored.restoredParcel (h : SlotRestored p v m a s w) : w.restoredParcel p = v := by
  obtain ⟨⟨parcel, -⟩, items, -, -, -⟩ := h
  simp only [State.restoredParcel, parcel, items]

/-- A slot that came up with its record current is bound by that record. -/
theorem SlotRestored.boundRecord (h : SlotRestored p v m a s w) (record : s.parcelRecord p = some r)
    (free : v.state ≠ .free) (proposed : v.state ≠ .proposed) : w.boundRecord p = some r := by
  obtain ⟨⟨parcel, -⟩, -, -, -, frame⟩ := h
  have current : w.parcelRecord p = some r := by
    rw [frame]
    exact record
  rw [State.boundRecord, parcel]
  simpa only using current

theorem SlotRestored.parcelAccumulators (h : SlotRestored p v r.meter a s w) (bound : w.boundRecord p = some r) :
    w.parcelAccumulators p = r.meter.bind fun _ => a := by
  obtain ⟨-, -, -, channels, -⟩ := h
  unfold State.parcelAccumulators State.boundMeter
  rw [bound, Option.bind_some]
  cases meter : r.meter with
  | none => rfl
  | some x =>
    have channel := channels x
    rw [if_pos meter] at channel
    rw [Option.bind_some, Option.bind_some, channel]

theorem SlotRestored.checkpointWith (h : SlotRestored p v r.meter a s w) (record : s.parcelRecord p = some r)
    (free : v.state ≠ .free) (proposed : v.state ≠ .proposed) :
    w.checkpointWith p (w.restoredParcel p) = restoredCheckpoint p v r.meter a s := by
  have bound := h.boundRecord record free proposed
  rw [h.restoredParcel, State.checkpointWith, h.parcelAccumulators bound]
  obtain ⟨-, -, -, -, frame⟩ := h
  rw [frame]
  rfl

theorem announceRestored_frame (p : Fin 6) (d : StateDetail) (s : State) :
    announceRestored p d s = { s with
      trail := (announceRestored p d s).trail, newest := (announceRestored p d s).newest
      writeQueue := (announceRestored p d s).writeQueue, inFlight := (announceRestored p d s).inFlight } := by
  rw [announceRestored, giveRestoredCheckpoint, giveWrite_frame, appendTrail_frame]

/-- A slot brought up and announced: the slot, its event and the checkpoint given (R206, R207). -/
theorem announceRestored_tells (record : s.parcelRecord p = some r) (free : v.state ≠ .free)
    (proposed : v.state ≠ .proposed) (d : StateDetail) :
    SlotRestored p v r.meter a s (announceRestored p d (restoreAccumulators r a (bringUp p v s)))
      ∧ CheckpointGiven p v r.meter a s (announceRestored p d (restoreAccumulators r a (bringUp p v s)))
      ∧ SameTrail (appendTrail (.parcelState p v.state d) s)
        (announceRestored p d (restoreAccumulators r a (bringUp p v s))) := by
  have brought := slotRestored_bringUp p v r a s
  have quiet : SameWrites s (restoreAccumulators r a (bringUp p v s)) := by
    rw [restoreAccumulators_frame]
    exact ⟨rfl, rfl⟩
  have untold : SameTrail s (restoreAccumulators r a (bringUp p v s)) := by
    rw [restoreAccumulators_frame]
    exact ⟨rfl, rfl⟩
  have clock : (restoreAccumulators r a (bringUp p v s)).clock = s.clock := by
    rw [restoreAccumulators_frame]
    rfl
  have state : ((restoreAccumulators r a (bringUp p v s)).parcel p).state = v.state := by
    obtain ⟨⟨parcel, -⟩, -⟩ := brought
    rw [parcel]
  refine ⟨brought.congr (announceRestored_frame ..), ?_, ?_⟩
  · have announced := brought.appendTrail (.parcelState p v.state d)
    have given := (quiet.trans (sameWrites_appendTrail (.parcelState p v.state d) _)).give (.checkpoint p)
      (.checkpoint (restoredCheckpoint p v r.meter a s) (checkpointCheck (restoredCheckpoint p v r.meter a s)))
    rw [announceRestored, giveRestoredCheckpoint, state, announced.checkpointWith record free proposed]
    exact given
  · rw [announceRestored, giveRestoredCheckpoint, state]
    exact (untold.append clock _).trans (sameTrail_giveWrite _ _ _)

end Sys2Proof.Machine
end

section
/-! The rows of R206 and R207: which of them a slot comes up by. -/

namespace Sys2Proof.Machine

open Sys2Proof

variable {p : Fin 6} {s : State} {r : ParcelRecord} {c : Checkpoint}

/-! ### The place of the step in the load (R206, R208) -/

theorem execStoreLoadCheckpoint_at {i : Fin 6} (starting : s.unit = .starting) (load : s.load = .checkpoints i) :
    exec .storeLoadCheckpoint s = .next (afterCheckpoint i (loadCheckpoint i s)) := by
  change execStoreLoadCheckpoint s = _
  simp only [execStoreLoadCheckpoint, starting, load, if_true]

theorem afterCheckpoint_before {i : Fin 6} (before : i ≠ 5) (s : State) :
    afterCheckpoint i s = { s with load := .checkpoints (i + 1) } := by
  have within : i.val + 1 < 6 := by omega
  have next : (⟨i.val + 1, within⟩ : Fin 6) = i + 1 := by
    revert i
    decide
  rw [afterCheckpoint, dif_pos within, next]
  rfl

theorem afterCheckpoint_last (s : State) : afterCheckpoint 5 s = completeLoad s := rfl

/-! ### The checkpoint found and the record reloaded (R206) -/

theorem loadCheckpoint_notStored (found : s.foundCheckpoint p = .notStored) (record : s.parcelInForce p = none) :
    loadCheckpoint p s = s := by
  simp only [loadCheckpoint, found, record]

theorem loadCheckpoint_fails (found : s.foundCheckpoint p = .fails) : loadCheckpoint p s = dropParcel p s := by
  simp only [loadCheckpoint, found]

theorem loadCheckpoint_orphan (found : s.foundCheckpoint p = .notStored) (record : s.parcelInForce p = some r) :
    loadCheckpoint p s = dropParcel p s := by
  simp only [loadCheckpoint, found, record]

theorem loadCheckpoint_passes (found : s.foundCheckpoint p = .passes c) (record : s.parcelInForce p = some r) :
    loadCheckpoint p s = restoreParcel p r c s := by
  simp only [loadCheckpoint, found, record]

theorem loadCheckpoint_alone (found : s.foundCheckpoint p = .passes c) (record : s.parcelInForce p = none) :
    loadCheckpoint p s = restoreWithoutRecord p c s := by
  simp only [loadCheckpoint, found, record]

/-! ### A passing checkpoint beside its record (R206, R207) -/

theorem restoreParcel_bound (bound : s.boundElsewhere p r = true) : restoreParcel p r c s = dropParcel p s := by
  rw [restoreParcel, if_pos bound]

theorem restoreParcel_proposed (unbound : s.boundElsewhere p r = false) (proposed : c.state = .proposed) :
    restoreParcel p r c s = restoreDefined p r s := by
  simp [restoreParcel, unbound, proposed]

theorem restoreParcel_asStored (unbound : s.boundElsewhere p r = false)
    (state : c.state = .defined ∨ c.state = .closed ∨ c.state = .abandoned) (matched : s.recordMatches p c = true) :
    restoreParcel p r c s = restoreAsStored p r c s := by
  obtain state | state | state := state <;> simp [restoreParcel, unbound, state, matched, isLive]

theorem restoreParcel_live (unbound : s.boundElsewhere p r = false) (live : isLive c.state = true)
    (matched : s.recordMatches p c = true) : restoreParcel p r c s = restoreSuspended p r c s := by
  cases state : c.state <;> simp [restoreParcel, unbound, state, matched, isLive] at live ⊢

theorem restoreParcel_unmatched (other : c.state ≠ .proposed) (unmatched : s.recordMatches p c = false) :
    restoreParcel p r c s = dropParcel p s := by
  cases state : c.state <;> simp [restoreParcel, state, unmatched] at other ⊢

/-! ### A passing checkpoint alone (R206) -/

theorem restoreWithoutRecord_proposed (proposed : c.state = .proposed) :
    restoreWithoutRecord p c s = freeParcel p s := by
  simp only [restoreWithoutRecord, proposed]

theorem restoreWithoutRecord_removed (state : c.state = .defined ∨ c.state = .closed ∨ c.state = .abandoned)
    (removed : s.recordRemoved p = true) : restoreWithoutRecord p c s = freeParcel p s := by
  obtain state | state | state := state <;> simp [restoreWithoutRecord, state, removed]

theorem restoreWithoutRecord_kept (other : c.state ≠ .proposed)
    (kept : isLive c.state = true ∨ s.recordRemoved p = false) : restoreWithoutRecord p c s = dropParcel p s := by
  cases state : c.state <;> simp [restoreWithoutRecord, state, isLive] at other kept ⊢ <;> simp [kept]

/-! ### What a slot comes up as (R206, R207) -/

/-- PROPOSED with the record reloaded (R206). -/
theorem restoreDefined_tells (record : s.parcelInForce p = some r) :
    SlotRestored p (definedParcel r) r.meter (some (zeroAccumulators p)) s (restoreDefined p r s)
      ∧ CheckpointGiven p (definedParcel r) r.meter (some (zeroAccumulators p)) s (restoreDefined p r s)
      ∧ SameTrail (appendTrail (.parcelState p .defined .plain) s) (restoreDefined p r s) :=
  announceRestored_tells (v := definedParcel r) (parcelRecord_of_parcelInForce record) (by simp [definedParcel])
    (by simp [definedParcel]) .plain

/-- A live checkpoint with a matching record (R207). -/
theorem restoreSuspended_tells (record : s.parcelInForce p = some r) (c : Checkpoint) :
    let count := count16 (c.suspensions.getD 0)
    let v := checkpointedParcel c .suspended (some .recovered) (some count)
    let a := c.accumulators.map fun a => { a with interrupted := true }
    SlotRestored p v r.meter a s (restoreSuspended p r c s)
      ∧ CheckpointGiven p v r.meter a s (restoreSuspended p r c s)
      ∧ SameTrail (appendTrail (.parcelState p .suspended (.reason .recovered count)) s) (restoreSuspended p r c s) := by
  intro count v a
  exact announceRestored_tells (v := v) (parcelRecord_of_parcelInForce record) (by simp [v, checkpointedParcel])
    (by simp [v, checkpointedParcel]) (.reason .recovered count)

/-- DEFINED, CLOSED or ABANDONED with a matching record: no event and no write (R206). -/
theorem restoreAsStored_tells (p : Fin 6) (r : ParcelRecord) (c : Checkpoint) (s : State) :
    SlotRestored p (checkpointedParcel c c.state c.reason c.suspensions) r.meter c.accumulators s
        (restoreAsStored p r c s)
      ∧ SameTrail s (restoreAsStored p r c s) ∧ SameWrites s (restoreAsStored p r c s) := by
  refine ⟨slotRestored_bringUp .., ?_⟩
  rw [restoreAsStored, restoreAccumulators_frame]
  exact ⟨⟨rfl, rfl⟩, rfl, rfl⟩

/-- Settles O52: by the checkpoint found, the record reloaded and the state checkpointed, in the order of R206's rows. -/
theorem checkpointsRestored : Obligations.CheckpointsRestored := by
  unfold Obligations.CheckpointsRestored
  intro p s starting _ k w dropped drop free restored stored found
  have drops (e : w = dropParcel p s) : drop := by
    have told : SlotDropped p s w := e ▸ slotDropped_dropParcel p s
    exact told
  have frees (e : w = freeParcel p s) : free := by
    have told : SlotFreed p s w := e ▸ slotFreed_freeParcel p s
    exact told
  refine ⟨?before, ?last, loadCheckpoint_notStored, ?notStored, ?proposedAlone, ?proposed, ?asStored, ?live, ?removed,
    ?bound, ?unmatched⟩
  case before =>
    intro i load before
    rw [execStoreLoadCheckpoint_at starting load, afterCheckpoint_before before]
  case last =>
    intro load
    rw [execStoreLoadCheckpoint_at starting load, afterCheckpoint_last]
  case notStored =>
    rintro (fails | ⟨notStored, reloaded⟩)
    · exact drops (loadCheckpoint_fails fails)
    · obtain ⟨r, record⟩ := Option.ne_none_iff_exists'.1 reloaded
      exact drops (loadCheckpoint_orphan notStored record)
  case proposedAlone =>
    intro c passes proposed record
    exact frees ((loadCheckpoint_alone passes record).trans (restoreWithoutRecord_proposed proposed))
  case proposed =>
    intro c r passes proposed record unbound
    have e : w = restoreDefined p r s :=
      (loadCheckpoint_passes passes record).trans (restoreParcel_proposed unbound proposed)
    have told := restoreDefined_tells record
    rw [← e] at told
    exact told
  case asStored =>
    intro c r passes state record unbound matched
    have e : w = restoreAsStored p r c s :=
      (loadCheckpoint_passes passes record).trans (restoreParcel_asStored unbound state matched)
    have told := restoreAsStored_tells p r c s
    rw [← e] at told
    exact told
  case live =>
    intro c r passes live record unbound matched
    have e : w = restoreSuspended p r c s :=
      (loadCheckpoint_passes passes record).trans (restoreParcel_live unbound live matched)
    have told := restoreSuspended_tells record c
    rw [← e] at told
    exact told
  case removed =>
    intro c passes state record removed
    exact frees ((loadCheckpoint_alone passes record).trans (restoreWithoutRecord_removed state removed))
  case bound =>
    intro c r passes record bound
    exact drops ((loadCheckpoint_passes passes record).trans (restoreParcel_bound bound))
  case unmatched =>
    intro c passes other unmatched alone
    cases record : s.parcelInForce p with
    | none =>
      exact drops ((loadCheckpoint_alone passes record).trans (restoreWithoutRecord_kept other (alone record)))
    | some r =>
      exact drops ((loadCheckpoint_passes passes record).trans (restoreParcel_unmatched other (unmatched r record)))

end Sys2Proof.Machine
end
section
/-! The moves of a parcel slot while the unit is RUNNING (R109, R110, R120): what one command can make of a slot, and the
operations on records and parcels by what they make of every slot. -/

namespace Sys2Proof.Machine

open Sys2Proof

/-- `w` is what one command of a RUNNING unit can make of the parcel slot `v`: its state stands or takes one move of R110, and
the opening figures of an opened parcel stand unless the slot is FREE (R120). -/
def Parcel.Advances (v w : Parcel) : Prop :=
  (w.state = v.state ∨ movesTo v.state w.state = true)
    ∧ (isOpened v.state = true → w.opening = v.opening ∨ w.state = .free)

/-- Every parcel slot of `t` is what one command can make of that slot of `s`. -/
def ParcelsAdvance (s t : State) : Prop := ∀ p, (s.parcel p).Advances (t.parcel p)

/-! ### One slot -/

section

variable {v w : Parcel}

theorem Parcel.Advances.kept (state : w.state = v.state) (opening : w.opening = v.opening) : v.Advances w :=
  ⟨.inl state, fun _ => .inl opening⟩

theorem Parcel.Advances.refl (v : Parcel) : v.Advances v := .kept rfl rfl

theorem Parcel.Advances.moved (move : movesTo v.state w.state = true) (opening : w.opening = v.opening) : v.Advances w :=
  ⟨.inr move, fun _ => .inl opening⟩

theorem Parcel.Advances.freed (move : movesTo v.state .free = true) : v.Advances .reset :=
  ⟨.inr move, fun _ => .inr rfl⟩

/-- Before the opening fix there are no figures to keep. -/
theorem Parcel.Advances.unopened (move : movesTo v.state w.state = true) (before : isOpened v.state = false) :
    v.Advances w := ⟨.inr move, fun opened => by rw [before] at opened; cases opened⟩

end

/-! ### Every slot -/

section

variable {s t w : State}

theorem ParcelsAdvance.of_parcels (h : t.parcels = s.parcels) : ParcelsAdvance s t := fun p => by
  have same : t.parcel p = s.parcel p := congrArg (fun v => v.get p) h
  rw [same]
  exact .refl _

theorem ParcelsAdvance.refl (s : State) : ParcelsAdvance s s := .of_parcels rfl

theorem ParcelsAdvance.of_standing (h : t.standing = s.standing) : ParcelsAdvance s t :=
  .of_parcels (congrArg Standing.parcels h)

theorem ParcelsAdvance.congr (h : ParcelsAdvance s t) (e : w.parcels = t.parcels) : ParcelsAdvance s w := fun p => by
  have same : w.parcel p = t.parcel p := congrArg (fun v => v.get p) e
  rw [same]
  exact h p

/-- Told from a state before, whose parcel slots stood. -/
theorem ParcelsAdvance.from (h : ParcelsAdvance t w) (e : t.parcels = s.parcels) : ParcelsAdvance s w := fun p => by
  have same : t.parcel p = s.parcel p := congrArg (fun v => v.get p) e
  rw [← same]
  exact h p

theorem ParcelsAdvance.of_becomes {p : Fin 6} {v : Parcel} (h : ParcelBecomes p v s t)
    (own : (s.parcel p).Advances v) : ParcelsAdvance s t := fun q => by
  obtain ⟨becomes, others⟩ := h
  by_cases same : q = p
  · rw [same, becomes]
    exact own
  · rw [others q same]
    exact .refl _

/-- A slot changed and announced. -/
theorem ParcelsAdvance.change {p : Fin 6} (d : StateDetail) {v : Parcel} (own : (s.parcel p).Advances v) :
    ParcelsAdvance s (announce p d (setParcel p v s)) := .of_becomes (announce_becomes p d v s) own

/-! ### One slot after another -/

/-- Slots that are not visited stand. -/
theorem foldl_parcel_of_not_mem {f : State → Fin 6 → State} (alone : ∀ w p, ∃ v, ParcelBecomes p v w (f w p))
    {ps : List (Fin 6)} {q : Fin 6} (new : q ∉ ps) (s : State) : (ps.foldl f s).parcel q = s.parcel q := by
  induction ps generalizing s with
  | nil => rfl
  | cons p ps ih =>
    obtain ⟨first, rest⟩ := List.ne_and_not_mem_of_not_mem_cons new
    obtain ⟨v, -, others⟩ := alone s p
    rw [List.foldl_cons, ih rest, others q first]

/-- Slots that are changed one after another, each once, move once each. -/
theorem ParcelsAdvance.foldl {f : State → Fin 6 → State}
    (each : ∀ w p, ∃ v, ParcelBecomes p v w (f w p) ∧ (w.parcel p).Advances v) {ps : List (Fin 6)} (distinct : ps.Nodup)
    (s : State) : ParcelsAdvance s (ps.foldl f s) := by
  have alone : ∀ w p, ∃ v, ParcelBecomes p v w (f w p) := fun w p => (each w p).imp fun _ h => h.1
  induction ps generalizing s with
  | nil => exact .refl _
  | cons p ps ih =>
    obtain ⟨new, rest⟩ := List.nodup_cons.1 distinct
    obtain ⟨v, ⟨becomes, others⟩, own⟩ := each s p
    intro q
    rw [List.foldl_cons]
    by_cases same : q = p
    · rw [same, foldl_parcel_of_not_mem alone new, becomes]
      exact own
    · rw [← others q same]
      exact ih rest (f s p) q

theorem nodup_allParcels : allParcels.Nodup := by decide

/-! ### Records (R16, R22, R27, R36, R39, R44) -/

theorem rejectPending_advances (k : RecordSlot) (d : RejectDetail) (b : Bool) (s : State) :
    ParcelsAdvance s (rejectPending k d b s) := by
  cases held : (s.slot k).pending with
  | none =>
    have same : rejectPending k d b s = s := by simp only [rejectPending, held]
    exact .of_parcels (congrArg State.parcels same)
  | some v =>
    obtain ⟨-, -, -, alone, returns⟩ := rejectionRemoves k d b s v held
    by_cases proposed : ∃ p, k = .parcel p ∧ (s.parcel p).state = .proposed
    · obtain ⟨p, isParcel, state⟩ := proposed
      obtain ⟨becomes, -⟩ := returns p isParcel state
      exact .of_becomes becomes (.freed (by rw [state]; rfl))
    · obtain ⟨-, rest⟩ := alone proposed
      exact .of_parcels (by rw [rest])

theorem endParcel_becomes (p : Fin 6) (b : Bool) (s : State) : ParcelBecomes p .reset s (endParcel p b s) := by
  have emptied := emptyParcel_parcelBecomes p (s.boundMeter p) (removeParcelVersions p s)
  refine (emptied.of_same (by rw [removeParcelVersions_frame])).congr ?_
  rw [endParcel_parcels]
  exact computeTanks_parcels ..

theorem endParcel_advances {p : Fin 6} (b : Bool) (ends : movesTo (s.parcel p).state .free = true) :
    ParcelsAdvance s (endParcel p b s) := .of_becomes (endParcel_becomes p b s) (.freed ends)

/-- A WITHDRAW that its checks let through leaves a parcel slot DEFINED alone for FREE (R39). -/
theorem withdrawRecord_advances {l : Link} {k : RecordSlot} (checks : s.withdrawCurrentRefusal l k = none) :
    ParcelsAdvance s (withdrawRecord k s) := by
  obtain ⟨p, rfl⟩ | other : (∃ p, k = .parcel p) ∨ ∀ p, k ≠ .parcel p := by cases k <;> simp
  · have state : (s.parcel p).state = .defined := by
      unfold State.withdrawCurrentRefusal State.useRefusal at checks
      grind [firstRefusal_cons]
    exact endParcel_advances false (by rw [state]; rfl)
  · rw [withdrawRecord_eq other]
    refine .of_parcels ((congrArg Standing.parcels (tellWithdrawn_standing k _)).trans ?_)
    show (versionRemoved k s).parcels = s.parcels
    rw [versionRemoved_frame]

/-- A proposal that its checks let through enters PROPOSED from FREE alone, unless it restores (R25, R27). -/
theorem takeProposal_advances {l : Link} {k : RecordSlot} {b : BeginLayout} (c : Content)
    (checks : s.proposalRefusal l k (s.isRestoring k b.digest) = none) : ParcelsAdvance s (takeProposal l k b c s) := by
  have pending : ParcelsAdvance s (setPending k (some (s.newPending l k b c none)) s) := .of_parcels rfl
  have opens : s.slotOpen k (s.isRestoring k b.digest) = true := by
    rw [proposalRefusal_eq] at checks
    grind
  by_cases fresh : ∃ p r, k = .parcel p ∧ c = .parcel r ∧ s.isRestoring k b.digest = false
  · obtain ⟨p, r, rfl, rfl, fresh⟩ := fresh
    have free := (slotOpen_iff ..).1 opens p rfl fresh
    rw [takeProposal_entered fresh]
    obtain ⟨becomes, -⟩ := enterProposed_handedOff p r (setPending (.parcel p)
      (some (s.newPending l (.parcel p) b (.parcel r) none)) s)
    exact .of_becomes (becomes.of_same rfl) (.unopened (by rw [free]; rfl) (by rw [free]; rfl))
  · have same : takeProposal l k b c s = setPending k (some (s.newPending l k b c none)) s := by
      unfold takeProposal
      grind
    rw [same]
    exact pending

/-- An entry into force takes a slot in PROPOSED to DEFINED, and moves no other (R36). -/
theorem enterForce_advances (k : RecordSlot) (v : PendingVersion) (s : State) : ParcelsAdvance s (enterForce k v s) := by
  have before : (versionEntered k v s).parcels = s.parcels := by rw [versionEntered_frame]
  refine ParcelsAdvance.from ?_ before
  rw [enterForce_eq]
  unfold tellEntered
  split
  · exact .of_standing (computeTanks_standing ..)
  · exact .of_standing (computeTank_standing ..)
  · exact .of_standing (computeTank_standing ..)
  next p r _ =>
    split
    next proposed =>
      obtain ⟨becomes, -⟩ := enterDefined_handedOff p r (versionEntered (.parcel p) v s)
      exact .of_becomes becomes (.unopened (by rw [proposed]; rfl) (by rw [proposed]; rfl))
    next => exact .of_standing (computeTanks_standing ..)
  · exact .of_standing (settingsChanged_standing _)
  · exact .refl _

theorem auditStep_parcels (k : RecordSlot) (s : State) : (auditStep k s).parcels = s.parcels := by
  unfold auditStep
  repeat' split
  · rfl
  · rfl
  · exact (congrArg Standing.parcels (tellSuspect_standing k _)).trans (setOutcome_parcels ..)

/-! ### The steps of declarations (R119 to R130) -/

theorem movesTo_transfer_of_resume {st : ParcelState} (allowed : kindAllowed .resume st = true) :
    movesTo st .transfer = true := by
  revert allowed
  cases st <;> decide

theorem movesTo_abandoned_of_abandon {st : ParcelState} (allowed : kindAllowed .abandon st = true)
    (notProposed : st ≠ .proposed) : movesTo st .abandoned = true := by
  revert allowed notProposed
  cases st <;> decide

theorem movesTo_free_of_release {st : ParcelState} (allowed : kindAllowed .release st = true) :
    movesTo st .free = true := by
  revert allowed
  cases st <;> decide

theorem openParcel_advances {p : Fin 6} (allowed : kindAllowed .opening (s.parcel p).state = true) :
    ParcelsAdvance s (openParcel p s) := by
  have defined : (s.parcel p).state = .defined := beq_iff_eq.1 allowed
  cases record : s.parcelRecord p with
  | none =>
    have same : openParcel p s = s := by simp only [openParcel, record]
    exact .of_parcels (congrArg State.parcels same)
  | some r =>
    rw [openParcel_eq record]
    refine .of_becomes ((openedState_becomes p r s).congr (announce_parcels ..)) (.unopened ?_ ?_) <;> rw [defined] <;> rfl

theorem suspendParcel_advances {p : Fin 6} (reason : SuspendReason) (transfer : (s.parcel p).state = .transfer) :
    ParcelsAdvance s (suspendParcel p reason s) := .change _ (.moved (by rw [transfer]; rfl) rfl)

theorem settleParcel_advances {p : Fin 6} (allowed : (s.parcel p).state = .transfer ∨ (s.parcel p).state = .suspended) :
    ParcelsAdvance s (settleParcel p s) :=
  .change _ (.moved (by rcases allowed with state | state <;> rw [state] <;> rfl) rfl)

theorem resumeParcel_advances {p : Fin 6} (allowed : kindAllowed .resume (s.parcel p).state = true) :
    ParcelsAdvance s (resumeParcel p s) :=
  .change _ (.moved (movesTo_transfer_of_resume allowed) rfl)

theorem closeParcel_advances {p : Fin 6} (allowed : kindAllowed .closing (s.parcel p).state = true) :
    ParcelsAdvance s (closeParcel p s) := by
  have settling : (s.parcel p).state = .settling := beq_iff_eq.1 allowed
  unfold closeParcel
  split
  · have sampled := sampleAtClose_standing p s
    have parcel := parcel_of_standing sampled p
    refine ParcelsAdvance.from (.change _ (.moved ?_ rfl)) (congrArg Standing.parcels sampled)
    rw [parcel, settling]
    rfl
  · exact .refl _

theorem abandonParcel_advances {p : Fin 6} (b : Bool) (allowed : kindAllowed .abandon (s.parcel p).state = true) :
    ParcelsAdvance s (abandonParcel p b s) := by
  unfold abandonParcel
  split
  · exact rejectPending_advances _ _ _ s
  next notProposed => exact .change _ (.moved (movesTo_abandoned_of_abandon allowed notProposed) rfl)

theorem releaseParcel_advances {p : Fin 6} (b : Bool) (allowed : kindAllowed .release (s.parcel p).state = true) :
    ParcelsAdvance s (releaseParcel p b s) := endParcel_advances b (movesTo_free_of_release allowed)

/-! ### The clear, the stop lines and the evaluations (R131, R133, R136) -/

/-- The clear returns the ended parcels to FREE. -/
theorem callClear_advances (es : List Concurrence) (s : State) : ParcelsAdvance s (callClear (setConcurrence es s)) := by
  obtain ⟨v, cleared, emptied⟩ := clearSlots_cleared es s
  have slots : ParcelsAdvance s (clearSlots (setConcurrence es s)) := by
    refine ParcelsAdvance.congr (t := v) (fun p => ?_) (by rw [emptied.rest])
    rw [cleared.parcel]
    split
    next ended =>
      obtain ⟨-, closed | abandoned⟩ := ended
      · exact .freed (by rw [closed]; rfl)
      · exact .freed (by rw [abandoned]; rfl)
    next => exact .refl _
  refine slots.congr ?_
  rw [callClear_eq, clearRest_frame]

theorem stopTransfers_advances (line : Link) (s : State) : ParcelsAdvance s (stopTransfers line s) := by
  refine (ParcelsAdvance.foldl (f := fun w p => suspendByLine line p w) (fun w p => ?_) nodup_allParcels s).congr
    (appendTrail_parcels ..)
  unfold suspendByLine
  split
  next transfer => exact ⟨_, announce_becomes .., .moved (by rw [transfer]; rfl) rfl⟩
  next => exact ⟨_, ⟨rfl, fun _ _ => rfl⟩, .refl _⟩

theorem evaluateParcels_advances (s : State) : ParcelsAdvance s (evaluateParcels allParcels s) := by
  refine ParcelsAdvance.foldl (fun w p => ?_) nodup_allParcels s
  unfold evaluateParcel
  split
  · refine ⟨{ w.parcel p with comparisons := some (w.evaluatedItems p (w.itemsOf p)) },
      (parcelBecomes_setParcel p _ w).congr ?_, .kept rfl rfl⟩
    simp [giveCheckpoint]
  · exact ⟨_, ⟨rfl, fun _ _ => rfl⟩, .refl _⟩

end

end Sys2Proof.Machine
end

section
/-! Every command of a RUNNING unit by what it makes of the parcel slots (R110, R120). -/

namespace Sys2Proof.Machine

open Sys2Proof

section

variable {s : State}

/-! ### The owners of requests -/

theorem proposeBegin_advances (l : Link) (payload : List Byte) (s : State) :
    ParcelsAdvance s (proposeBeginOwner l payload s).1 := by
  unfold proposeBeginOwner
  split
  · exact .refl s
  next b _ =>
    refine onSlot_keeps (P := ParcelsAdvance s) (.refl s) (fun k => ?_) _
    split
    · exact .refl s
    split
    · exact .refl s
    next checks =>
      obtain ⟨checks, -⟩ := beginRefusal_eq_none checks
      unfold decideProposal
      split
      · exact .of_parcels rfl
      split
      · exact takeProposal_advances _ checks
      · exact .of_parcels (setOutcome_parcels k _ s)

theorem proposeSegment_advances (l : Link) (payload : List Byte) (s : State) :
    ParcelsAdvance s (proposeSegmentOwner l payload s).1 := by
  have joined : ∀ k q, ParcelsAdvance s (setPending k q s) := fun _ _ => .of_parcels rfl
  unfold proposeSegmentOwner
  split
  · exact .refl s
  refine onSlot_keeps (P := ParcelsAdvance s) (.refl s) (fun k => ?_) _
  split
  · exact .refl s
  split
  · exact .refl s
  next v _ _ =>
    unfold decideSegment
    split
    · exact rejectPending_advances k _ _ s
    split
    · exact joined k _
    · show ParcelsAdvance s (completeAssembly k v _ s)
      unfold completeAssembly
      split
      · exact rejectPending_advances k _ _ s
      split
      · exact joined k _
      · exact rejectPending_advances k _ _ s
  · exact .refl s

theorem endorse_advances (l : Link) (payload : List Byte) (s : State) :
    ParcelsAdvance s (endorseOwner l payload s).1 := by
  unfold endorseOwner
  split
  · exact .refl s
  next d _ =>
    refine onSlot_keeps (P := ParcelsAdvance s) (.refl s) (fun k => ?_) _
    split
    · exact .refl s
    · show ParcelsAdvance s (compareEndorsement k d s)
      unfold compareEndorsement
      split
      · split
        · exact enterForce_advances k _ s
        · exact rejectPending_advances k _ _ s
      · exact .refl s

theorem decline_advances (l : Link) (payload : List Byte) (s : State) :
    ParcelsAdvance s (declineOwner l payload s).1 := by
  refine onSlot_keeps (P := ParcelsAdvance s) (.refl s) (fun k => ?_) _
  split
  · exact .refl s
  · exact rejectPending_advances k _ _ s

theorem withdrawPending_advances (l : Link) (payload : List Byte) (s : State) :
    ParcelsAdvance s (withdrawPendingOwner l payload s).1 := by
  refine onSlot_keeps (P := ParcelsAdvance s) (.refl s) (fun k => ?_) _
  split
  · exact .refl s
  · exact rejectPending_advances k _ _ s

theorem withdrawCurrent_advances (l : Link) (payload : List Byte) (s : State) :
    ParcelsAdvance s (withdrawCurrentOwner l payload s).1 := by
  refine onSlot_keeps (P := ParcelsAdvance s) (.refl s) (fun k => ?_) _
  split
  · exact .refl s
  next checks => exact withdrawRecord_advances checks

/-- A declaration takes its step only in a state that allows its kind (R113, R114). -/
theorem declareParcel_advances {kind : DeclKind} {met : State → Fin 6 → Bool} {step : Fin 6 → Bool → State → State}
    (hstep : ∀ {w p} b, kindAllowed kind (w.parcel p).state = true → ParcelsAdvance w (step p b w)) (l : Link)
    (payload : List Byte) (s : State) : ParcelsAdvance s (declareParcel kind l payload met step s).1 := by
  unfold declareParcel
  split
  · split
    · split
      · exact .refl s
      next p _ =>
        split
        · exact .refl s
        next checks =>
          rw [State.declarationRefusal, firstRefusal_eq_none] at checks
          have allowed : kindAllowed kind (s.parcel p).state = true :=
            checks (kindAllowed kind (s.parcel p).state, .state) (by simp)
          exact decideDeclaration_keeps (.refl s) (fun _ => .of_parcels rfl) fun b es =>
            hstep (w := setConcurrence es s) b allowed
    · exact .refl s
  · exact .refl s

theorem declareUnit_advances (l : Link) (payload : List Byte) (s : State) :
    ParcelsAdvance s (declareUnit l payload s).1 :=
  declareUnit_keeps (.refl s) (fun _ => .of_parcels rfl) fun es => callClear_advances es s

theorem suspend_advances (l : Link) (payload : List Byte) (s : State) :
    ParcelsAdvance s (suspendOwner l payload s).1 := by
  refine onParcel_keeps (P := ParcelsAdvance s) (.refl s) (fun p => ?_) _
  split
  next transfer => exact suspendParcel_advances _ transfer
  next => exact .refl s

theorem transferEnd_advances (payload : List Byte) (s : State) : ParcelsAdvance s (transferEndOwner payload s).1 := by
  refine onParcel_keeps (P := ParcelsAdvance s) (.refl s) (fun p => ?_) _
  split
  next allowed => exact settleParcel_advances allowed
  next => exact .refl s

theorem setLinkParameters_advances (l : Link) (payload : List Byte) (s : State) :
    ParcelsAdvance s (setLinkParametersOwner l payload s).1 := by
  refine .of_parcels ?_
  unfold setLinkParametersOwner
  repeat' split
  all_goals simp [refuseWith, setLinkParameters]

/-! ### The requests -/

/-- Whatever becomes of the frame, the parcel slots are moved by the owner alone. -/
theorem request_advances {owner : State → State × Reply} (howner : ∀ w, ParcelsAdvance w (owner w).1) (l : Link)
    (code tag : Byte) (payload : List Byte) (counted : Bool) (ready : Readiness) :
    NextIs (ParcelsAdvance s) (.next (takeRequest l code tag payload counted ready owner s)) := by
  have decided : ∀ w, ParcelsAdvance w (ownerDecides ready owner w).1 := fun w => by
    cases ready with
    | always => exact howner w
    | whenRunning =>
      simp only [ownerDecides]
      split
      · exact howner w
      · exact .refl w
  rw [nextIs_next]
  unfold takeRequest
  split
  · exact .refl s
  split
  · exact .of_standing (faultyFrame_standing l .length s)
  split
  · exact .of_standing (setLink_standing l _ s)
  · exact ((decided (takeFrame l counted s)).from (takeFrame_parcels ..)).congr (setLink_parcels l _ _)

/-- A request whose owner leaves the standing parts. -/
theorem request_advances_same {owner : State → State × Reply} (same : ∀ w, (owner w).1.standing = w.standing) (l : Link)
    (code tag : Byte) (payload : List Byte) (counted : Bool) (ready : Readiness) :
    NextIs (ParcelsAdvance s) (.next (takeRequest l code tag payload counted ready owner s)) :=
  request_advances (fun w => .of_standing (same w)) l code tag payload counted ready

theorem exec_request_advances {c : Instr} {r : Request} (hc : requestOf c = some r) :
    NextIs (ParcelsAdvance s) (exec c s) := by
  have read : ∀ {owner : State → State × Reply}, (∀ w, (owner w).1 = w) → ∀ w, (owner w).1.standing = w.standing :=
    fun same w => congrArg State.standing (same w)
  cases c
  case status l tag payload => exact request_advances_same (status_standing payload) l _ tag payload _ _
  case counterReset l tag payload => exact request_advances_same (counterReset_standing l payload) l _ tag payload _ _
  case setLinkParameters l tag payload => exact request_advances (setLinkParameters_advances l payload) l _ tag payload _ _
  case postReadings l tag payload => exact request_advances_same (postReadings_standing l payload) l _ tag payload _ _
  case proposeBegin l tag payload => exact request_advances (proposeBegin_advances l payload) l _ tag payload _ _
  case proposeSegment l tag payload => exact request_advances (proposeSegment_advances l payload) l _ tag payload _ _
  case endorse l tag payload => exact request_advances (endorse_advances l payload) l _ tag payload _ _
  case decline l tag payload => exact request_advances (decline_advances l payload) l _ tag payload _ _
  case withdrawPending l tag payload => exact request_advances (withdrawPending_advances l payload) l _ tag payload _ _
  case withdrawCurrent l tag payload => exact request_advances (withdrawCurrent_advances l payload) l _ tag payload _ _
  case readRecordState l tag payload =>
    exact request_advances_same (read (readRecordState_same l payload)) l _ tag payload _ _
  case declareOpen l tag payload =>
    exact request_advances (declareParcel_advances (fun _ => openParcel_advances) l payload)
      l _ tag payload _ _
  case declareResume l tag payload =>
    exact request_advances (declareParcel_advances (fun _ => resumeParcel_advances) l payload) l _ tag payload _ _
  case declareClose l tag payload =>
    exact request_advances (declareParcel_advances (fun _ => closeParcel_advances) l payload)
      l _ tag payload _ _
  case declareAbandon l tag payload =>
    exact request_advances (declareParcel_advances abandonParcel_advances l payload) l _ tag payload _ _
  case declareRelease l tag payload =>
    exact request_advances (declareParcel_advances releaseParcel_advances l payload) l _ tag payload _ _
  case declareCallClear l tag payload => exact request_advances (declareUnit_advances l payload) l _ tag payload _ _
  case suspend l tag payload => exact request_advances (suspend_advances l payload) l _ tag payload _ _
  case transferEnd l tag payload => exact request_advances (transferEnd_advances payload) l _ tag payload _ _
  case readTank l tag payload => exact request_advances_same (read (readTank_same l payload)) l _ tag payload _ _
  case readParcel l part tag payload =>
    exact request_advances_same (read (readParcel_same l part payload)) l _ tag payload _ _
  case readFinal l part tag payload =>
    exact request_advances_same (read (readFinal_same part payload)) l _ tag payload _ _
  case readTrail l tag payload => exact request_advances_same (read (readTrail_same payload)) l _ tag payload _ _
  case hold l tag payload => exact request_advances_same (hold_standing l payload) l _ tag payload _ _
  case releaseHold l tag payload => exact request_advances_same (releaseHold_standing l payload) l _ tag payload _ _
  case unknownRequest l code selector tag payload =>
    simp only [exec, execUnknownRequest]
    split
    · exact (nextIs_next _ _).2 (.refl s)
    · exact request_advances_same (fun _ => rfl) l code tag payload _ _
  all_goals cases hc

/-! ### The events -/

theorem StandsAfter.advances {o : Host.Outcome State Fault Refusal} (h : StandsAfter s o) : NextIs (ParcelsAdvance s) o :=
  fun t ht => .of_standing (h t ht)

theorem stopLineAsserted_advances (line : Link) (s : State) : NextIs (ParcelsAdvance s) (execStopLineAsserted line s) := by
  unfold execStopLineAsserted
  split <;> rw [nextIs_next]
  · exact .refl s
  have set := congrArg Standing.parcels (setStopLine_standing line true s)
  split
  · exact (stopTransfers_advances line _).from set
  · exact .of_parcels set

theorem settleTimerExpiry_advances (p : Fin 6) (s : State) : NextIs (ParcelsAdvance s) (execSettleTimerExpiry p s) := by
  unfold execSettleTimerExpiry
  split <;> rw [nextIs_next]
  · exact .of_becomes (parcelBecomes_setParcel p _ s) (.kept rfl rfl)
  · exact .refl s

/-- The load takes no step in a RUNNING unit (R205). -/
theorem storeLoad_running (running : s.unit = .running) :
    execStoreLoadStart s = .next s ∧ execStoreLoadRecord s = .next s ∧ execStoreLoadLinkParameters s = .next s
      ∧ execStoreLoadCheckpoint s = .next s := by
  simp [execStoreLoadStart, execStoreLoadRecord, execStoreLoadLinkParameters, execStoreLoadCheckpoint, State.loadsAt,
    running]

theorem exec_event_advances (running : s.unit = .running) {c : Instr} (hc : requestOf c = none)
    (noReset : ∀ cause, c ≠ .fullResetBegin cause) : NextIs (ParcelsAdvance s) (exec c s) := by
  have stands : NextIs (ParcelsAdvance s) (.next s) := (nextIs_next _ _).2 (.refl s)
  obtain ⟨loadStart, loadRecord, loadLink, loadCheckpoint⟩ := storeLoad_running running
  cases c
  case damagedFrame l f => exact (execDamagedFrame_standing l s f).advances
  case overrun l => exact (execOverrun_standing l s).advances
  case idleGapInFrame l => exact (execIdleGapInFrame_standing l s).advances
  case idleGap l => exact (execIdleGap_standing l s).advances
  case responseSend l => exact (execResponseSend_standing l s).advances
  case responseSent l => exact (execResponseSent_standing l s).advances
  case holdTimerExpiry l => exact (execHoldTimerExpiry_standing l s).advances
  case silenceTimeout l => exact (execSilenceTimeout_standing l s).advances
  case takeTankReading => exact (execTakeTankReading_standing s).advances
  case takeShipCondition => exact (execTakeShipCondition_standing s).advances
  case takeLineConditions => exact (execTakeLineConditions_standing s).advances
  case declarationLapse subject kind => exact (execDeclarationLapse_standing s subject kind).advances
  case meterPulse m => exact (execMeterPulse_standing s m).advances
  case stopLineCleared l => exact (execStopLineCleared_standing l s).advances
  case stopLineAsserted l => exact stopLineAsserted_advances l s
  case settleTimerExpiry p => exact settleTimerExpiry_advances p s
  case assemblyTimeout k =>
    refine (nextIs_next _ _).2 ?_
    split
    · exact rejectPending_advances k _ _ s
    · exact .refl s
  case auditTimerExpiry =>
    refine (nextIs_next _ _).2 (.of_parcels ?_)
    split
    · have walked := advanceWalk_standing 0 (auditStep .vessel (setAuditTimer none s))
      exact (congrArg Standing.parcels walked).trans (auditStep_parcels .vessel (setAuditTimer none s))
    · rfl
  case auditWalkStep =>
    refine (nextIs_next _ _).2 (.of_parcels ?_)
    split
    next i _ =>
      have walked := advanceWalk_standing i (auditStep (slotAt i) s)
      exact (congrArg Standing.parcels walked).trans (auditStep_parcels (slotAt i) s)
    next => rfl
  case sampleTimerExpiry m =>
    refine (nextIs_next _ _).2 (.of_standing ?_)
    split
    · exact (setChannel_standing _ _ _).trans (takeSample_standing m s)
    · rfl
  case intervalTimerExpiry =>
    have told : ∀ w, (startInterval (setAlarm w)).parcels = w.parcels := fun _ => rfl
    refine (nextIs_next _ _).2 ?_
    split
    · exact (evaluateParcels_advances s).congr (told _)
    · exact .refl s
  case fullResetBegin cause => exact absurd rfl (noReset cause)
  case fullResetEnd =>
    refine (nextIs_next _ _).2 ?_
    split
    · exact .of_parcels rfl
    · exact .refl s
  case storeLoadStart => exact fun t next => stands t (loadStart.symm.trans next)
  case storeLoadRecord => exact fun t next => stands t (loadRecord.symm.trans next)
  case storeLoadLinkParameters => exact fun t next => stands t (loadLink.symm.trans next)
  case storeLoadCheckpoint => exact fun t next => stands t (loadCheckpoint.symm.trans next)
  case storeWriteComplete =>
    refine (nextIs_next _ _).2 (.of_parcels ?_)
    exact congrArg Standing.parcels (completeWrite_standing s)
  case unknownRequest l code selector tag payload =>
    simp only [requestOf] at hc
    simp only [exec, execUnknownRequest]
    split at hc
    next defined => rw [if_pos defined]; exact stands
    next => cases hc
  all_goals cases hc

/-! ### Every command -/

/-- A full reset that begins in a RUNNING unit leaves it inactive (R203). -/
theorem fullResetBegin_inactive (running : s.unit = .running) (cause : ResetCause) :
    NextIs (fun t => t.unit = .inactive) (exec (.fullResetBegin cause) s) := by
  refine (nextIs_next _ _).2 ?_
  rw [if_neg (by rw [running]; exact nofun)]
  rfl

/-- A command that leaves a RUNNING unit RUNNING moves each parcel slot once at most, as R110 allows. -/
theorem exec_advances {c : Instr} {t : State} (running : s.unit = .running) (next : exec c s = .next t)
    (after : t.unit = .running) : ParcelsAdvance s t := by
  cases hc : requestOf c with
  | some r => exact exec_request_advances hc t next
  | none =>
    refine exec_event_advances running hc (fun cause reset => ?_) t next
    subst reset
    have inactive : t.unit = .inactive := fullResetBegin_inactive running cause t next
    rw [inactive] at after
    cases after

end

/-- Settles O41: no command moves a parcel slot but by the move of its own operation. -/
theorem parcelsMoveAsAllowed : Obligations.ParcelsMoveAsAllowed := by
  intro c s t p running next after
  obtain ⟨moves, -⟩ := exec_advances running next after p
  exact moves

/-- Settles O42: the moves that lead out of an opened state keep the opening figures or lead to FREE. -/
theorem openingFiguresStand : Obligations.OpeningFiguresStand := by
  intro c s t p o running next after opened figures
  obtain ⟨-, stand⟩ := exec_advances running next after p
  exact (stand opened).imp_left fun same => same.trans figures

end Sys2Proof.Machine
end


section
/-! SUSPEND, TRANSFER END, the steps of RESUME, ABANDON and RELEASE, and the timers of the parcels (R116, R118, R122, R124 to
R126, R129, R130). -/

namespace Sys2Proof.Machine

open Sys2Proof

/-! ### A change of one slot with its hand-offs -/

/-- Slot `p` of `u` becomes `v`, with the hand-offs of the change; nothing else of `u` changes (R111). -/
def Announced (p : Fin 6) (v : Parcel) (d : StateDetail) (u w : State) : Prop :=
  ParcelBecomes p v u w ∧ HandedOff p d u w
    ∧ w = { u with
            parcels := w.parcels, concurrence := w.concurrence, trail := w.trail, newest := w.newest
            writeQueue := w.writeQueue, inFlight := w.inFlight, alarm := w.alarm }

theorem announce_setParcel_announced (p : Fin 6) (v : Parcel) (d : StateDetail) (u : State) :
    Announced p v d u (announce p d (setParcel p v u)) := by
  refine ⟨announce_becomes p d v u, announce_setParcel_handedOff p d v u, ?_⟩
  rw [announce_frame]
  rfl

/-- The entry a step removes would have gone with the hand-offs, where the new state does not allow its kind. -/
theorem announce_setParcel_declared {p : Fin 6} {kind : DeclKind} {v : Parcel} (leaves : kindAllowed kind v.state = false)
    (d : StateDetail) (u : State) :
    Announced p v d u (announce p d (setParcel p v (removeEntry (.parcel p) kind u))) := by
  have becomes : ParcelBecomes p v u (announce p d (setParcel p v (removeEntry (.parcel p) kind u))) :=
    (announce_becomes p d v _).of_same rfl
  refine ⟨becomes, (announce_setParcel_handedOff p d v _).of_removed (becomes.1.symm ▸ leaves), ?_⟩
  rw [announce_frame]
  rfl

/-! ### SUSPEND and TRANSFER END (R122 to R124) -/

section

variable {l : Link} {b : Byte} {s : State} {p : Fin 6}

/-- A request on one parcel slot, answered as its owner decides for the slot it names. -/
theorem takeRequest_onParcel (ready : ReadyRunning l [b] s) (named : parcelOfByte b = some p)
    {f : Fin 6 → State → State × Reply} {w : State} {r : ResultCode} {body : List Byte}
    (decided : f p (takeFrame l true s) = (w, ⟨r, body⟩)) (code tag : Byte) :
    takeRequest l code tag [b] true .whenRunning (onParcel [b] f) s = answered l code tag r body w :=
  takeRequest_answers ready ((onParcel_one named f _).trans decided) code tag

/-- The slot that a suspension makes of `v` (R123). -/
def Parcel.suspendedBy (reason : SuspendReason) (v : Parcel) : Parcel :=
  { v with state := .suspended, reason := some reason, suspensions := some (count16 (v.suspensions.getD 0)) }

theorem suspendParcel_announced (p : Fin 6) (reason : SuspendReason) (u : State) :
    Announced p ((u.parcel p).suspendedBy reason) (.reason reason (count16 ((u.parcel p).suspensions.getD 0))) u
      (suspendParcel p reason u) :=
  announce_setParcel_announced ..

theorem startSettle_eq (now : Clock) (t : Nat) :
    startSettle now t = { start := now, settleTime := t, expired := decide (t = 0) } := rfl

theorem settleParcel_announced (p : Fin 6) (u : State) :
    Announced p
      { u.parcel p with
        state := .settling, reason := none
        settle := some
          { start := u.clock, settleTime := u.settingsInUse.settleTime
            expired := decide (u.settingsInUse.settleTime = 0) } }
      .plain u (settleParcel p u) := by
  rw [← startSettle_eq]
  exact announce_setParcel_announced ..

end

/-- Settles O37. -/
theorem suspendTaken : Obligations.SuspendTaken := by
  intro l tag b s p ready named u count reason
  have parcel : u.parcel p = s.parcel p := takeFrame_parcel l true p s
  refine ⟨fun other => ?_, fun transfer => ⟨suspendParcel p (requestReason l) u, ?_, ?_⟩⟩
  · refine congrArg Host.Outcome.next (takeRequest_onParcel ready named ?_ 0x31 tag)
    exact if_neg (parcel.symm ▸ other)
  · refine congrArg Host.Outcome.next (takeRequest_onParcel ready named ?_ 0x31 tag)
    exact if_pos (parcel.symm ▸ transfer)
  · have announced := suspendParcel_announced p (requestReason l) u
    rw [parcel] at announced
    exact announced

/-- Settles O38. -/
theorem transferEndTaken : Obligations.TransferEndTaken := by
  intro l tag b s p ready named u time allowed
  have parcel : u.parcel p = s.parcel p := takeFrame_parcel l true p s
  refine ⟨fun other => ?_, fun held => ⟨settleParcel p u, ?_, ?_⟩⟩
  · refine congrArg Host.Outcome.next (takeRequest_onParcel ready named ?_ 0x32 tag)
    exact if_neg (parcel.symm ▸ other)
  · refine congrArg Host.Outcome.next (takeRequest_onParcel ready named ?_ 0x32 tag)
    exact if_pos (parcel.symm ▸ held)
  · have announced := settleParcel_announced p u
    rw [parcel, show u.clock = s.clock from takeFrame_clock l true s,
      show u.settingsInUse = s.settingsInUse from takeFrame_settingsInUse l true s] at announced
    exact announced

/-! ### RESUME (R126) -/

section

variable {s : State} {kind : DeclKind} {p : Fin 6}

/-- While a stop line is ASSERTED a declaration that needs them clear goes no further than its check (R114). -/
theorem declarationRefusal_stopActive (allowed : kindAllowed kind (s.parcel p).state = true)
    (needs : kind = .opening ∨ kind = .resume) (asserted : s.shipStop = true ∨ s.terminalStop = true) :
    s.declarationRefusal kind p = some .stopActive := by
  have stops : s.stopLinesClear = false := by
    obtain ship | terminal := asserted
    · simp [State.stopLinesClear, ship]
    · simp [State.stopLinesClear, terminal]
  have kinds : (kind == .opening || kind == .resume) = true := by simpa using needs
  simp [State.declarationRefusal, allowed, kinds, stops]

/-- A declaration of a slot that a check refuses is answered with its code, whatever the table holds (R114). -/
theorem takeRequest_refused {l : Link} {b mode : Byte} {c : ResultCode} (ready : ReadyRunning l [b, mode] s)
    (laidOut : modeAllowed kind mode = true) (named : parcelOfByte b = some p)
    (refusal : s.declarationRefusal kind p = some c) (met : State → Fin 6 → Bool) (step : Fin 6 → Bool → State → State)
    (tag : Byte) :
    takeRequest l 0x30 tag [b, mode] true .whenRunning (declareParcel kind l [b, mode] met step) s =
      answered l 0x30 tag c [] (takeFrame l true s) := by
  refine takeRequest_answers ready ?_ 0x30 tag
  simp only [declareParcel, laidOut, if_true, named, takeFrame_declarationRefusal, refusal]
  rfl

end

/-- Settles O33. -/
theorem resumeStepTaken : Obligations.ResumeStepTaken := by
  intro l tag b s p e ready named state entry first u
  have allowed : kindAllowed .resume (s.parcel p).state = true := by simpa [kindAllowed] using state
  refine ⟨fun asserted => ?_, fun ship terminal => ?_⟩
  · have refusal := declarationRefusal_stopActive allowed (.inr rfl) asserted
    exact congrArg Host.Outcome.next (takeRequest_refused ready rfl named refusal _ _ tag)
  · have checks : s.declarationRefusal .resume p = none :=
      declarationRefusal_eq_none allowed (fun _ => ⟨ship, terminal⟩) nofun
    refine ⟨resumeParcel p (removeEntry (.parcel p) .resume u), ?_, ?_⟩
    · exact congrArg Host.Outcome.next (takeRequest_second ready named checks entry first _ _ tag)
    · rw [resumeParcel, parcel_declared]
      exact announce_setParcel_declared rfl .plain u

/-! ### ABANDON and RELEASE (R116, R129, R130) -/

/-- An entry of the counterpart of `l` stands, for the subject and kind. -/
def State.counterpartEntry (s : State) (subject : Subject) (kind : DeclKind) (l : Link) : Prop :=
  ∃ e, s.entry subject kind = some e ∧ e.first = otherLink l

/-- A declaration with `mode` concurs, or stands alone while the counterpart link is LOST (R115, R116). -/
def State.stepTaken (s : State) (subject : Subject) (kind : DeclKind) (l : Link) (mode : Byte) (unilateral : Bool) : Prop :=
  (s.counterpartEntry subject kind l ∧ unilateral = false)
    ∨ (¬s.counterpartEntry subject kind l ∧ mode = 1 ∧ (s.link (otherLink l)).state = .lost ∧ unilateral = true)

section

variable {s : State} {subject : Subject} {kind : DeclKind} {l : Link} {step : Bool → State → State} {met : Bool}

/-- Without an entry of the counterpart, UNILATERAL is decided on the counterpart link alone (R116). -/
theorem decideDeclaration_alone (alone : ¬s.counterpartEntry subject kind l) :
    decideDeclaration subject kind l true met step s =
      if (s.link (otherLink l)).state = .lost then (step true (removeEntry subject kind s), bare .done)
      else refuseWith .counterpartPresent s := by
  unfold decideDeclaration
  split
  next e entry =>
    rw [if_neg fun first => alone ⟨e, entry, first⟩]
    rfl
  next => rfl

theorem decideDeclaration_taken {mode : Byte} {unilateral : Bool} (taken : s.stepTaken subject kind l mode unilateral) :
    decideDeclaration subject kind l (mode == 1) true step s =
      (step unilateral (removeEntry subject kind s), bare .done) := by
  obtain ⟨⟨e, entry, first⟩, rfl⟩ | ⟨alone, rfl, lost, rfl⟩ := taken
  · simp only [decideDeclaration, entry, first, if_true]
  · exact (decideDeclaration_alone alone).trans (if_pos lost)

end

section

variable {s : State} {kind : DeclKind} {l : Link} {b mode : Byte} {p : Fin 6} {met : State → Fin 6 → Bool}
  {step : Fin 6 → Bool → State → State}

/-- A parcel declaration that passes the checks of R114 is decided against the table (R115). -/
theorem declareParcel_decided (laidOut : modeAllowed kind mode = true) (named : parcelOfByte b = some p)
    (checks : s.declarationRefusal kind p = none) :
    declareParcel kind l [b, mode] met step s =
      decideDeclaration (.parcel p) kind l (mode == 1) (met s p) (step p) s := by
  simp only [declareParcel, laidOut, if_true, named, checks]

theorem takeRequest_taken {unilateral : Bool} (ready : ReadyRunning l [b, mode] s)
    (laidOut : modeAllowed kind mode = true) (named : parcelOfByte b = some p)
    (checks : s.declarationRefusal kind p = none) (taken : s.stepTaken (.parcel p) kind l mode unilateral) (tag : Byte) :
    takeRequest l 0x30 tag [b, mode] true .whenRunning (declareParcel kind l [b, mode] noConditions step) s =
      answered l 0x30 tag .done [] (step p unilateral (removeEntry (.parcel p) kind (takeFrame l true s))) := by
  refine takeRequest_answers ready ?_ 0x30 tag
  rw [declareParcel_decided laidOut named ((takeFrame_declarationRefusal ..).trans checks)]
  refine decideDeclaration_taken (step := step p) ?_
  simpa only [State.stepTaken, State.counterpartEntry, takeFrame_entry, takeFrame_linkCondition] using taken

theorem takeRequest_counterpartPresent (ready : ReadyRunning l [b, 1] s) (laidOut : modeAllowed kind 1 = true)
    (named : parcelOfByte b = some p) (checks : s.declarationRefusal kind p = none)
    (alone : ¬s.counterpartEntry (.parcel p) kind l) (present : (s.link (otherLink l)).state ≠ .lost) (tag : Byte) :
    takeRequest l 0x30 tag [b, 1] true .whenRunning (declareParcel kind l [b, 1] noConditions step) s =
      answered l 0x30 tag .counterpartPresent [] (takeFrame l true s) := by
  refine takeRequest_answers ready ?_ 0x30 tag
  rw [declareParcel_decided laidOut named ((takeFrame_declarationRefusal ..).trans checks)]
  refine (decideDeclaration_alone (step := step p) ?_).trans (if_neg ?_)
  · simpa only [State.counterpartEntry, takeFrame_entry] using alone
  · rwa [takeFrame_linkCondition]

end

section

variable {s : State} {p : Fin 6}

theorem kindAllowed_release_iff (st : ParcelState) :
    kindAllowed .release st = true ↔ st = .closed ∨ st = .abandoned := by simp [kindAllowed]

theorem kindAllowed_abandon_iff (st : ParcelState) :
    kindAllowed .abandon st = true ↔ st = .proposed ∨ st = .defined ∨ isLive st = true := by
  cases st <;> decide

/-- ABANDON and RELEASE have no check but that of the slot's state (R114). -/
theorem declarationRefusal_ending {kind : DeclKind} (ending : kind = .abandon ∨ kind = .release)
    (allowed : kindAllowed kind (s.parcel p).state = true) : s.declarationRefusal kind p = none := by
  obtain rfl | rfl := ending
  · exact declarationRefusal_eq_none allowed nofun nofun
  · exact declarationRefusal_eq_none allowed nofun nofun

end

/-- Settles O35. -/
theorem endingStepsTaken : Obligations.EndingStepsTaken := by
  intro l tag b mode s p ready named modes u st counter taken removed
  have parcel (kind : DeclKind) : (removed kind).parcel p = s.parcel p := parcel_declared l (.parcel p) kind s p
  have abandonMode : modeAllowed .abandon mode = true := by simpa [modeAllowed] using modes
  have releaseMode : modeAllowed .release mode = true := by simpa [modeAllowed] using modes
  have releases (state : st = .closed ∨ st = .abandoned) : s.declarationRefusal .release p = none :=
    declarationRefusal_ending (.inr rfl) ((kindAllowed_release_iff _).2 state)
  have abandons (state : st = .proposed ∨ st = .defined ∨ isLive st = true) : s.declarationRefusal .abandon p = none :=
    declarationRefusal_ending (.inl rfl) ((kindAllowed_abandon_iff _).2 state)
  refine ⟨fun unilateral state step => ?_, fun unilateral state step => ?_, fun unilateral state step => ?_,
    fun alone present => ⟨fun state own => ?_, fun state own => ?_⟩⟩
  · exact congrArg Host.Outcome.next (takeRequest_taken ready releaseMode named (releases state) step tag)
  · refine congrArg Host.Outcome.next
      ((takeRequest_taken ready abandonMode named (abandons (.inl state)) step tag).trans ?_)
    have rejects : abandonParcel p unilateral (removed .abandon) =
        rejectPending (.parcel p) .withdrawn unilateral (removed .abandon) := if_pos (parcel .abandon ▸ state)
    exact congrArg (answered l 0x30 tag .done []) rejects
  · refine ⟨abandonParcel p unilateral (removed .abandon), ?_, ?_⟩
    · exact congrArg Host.Outcome.next (takeRequest_taken ready abandonMode named (abandons (.inr state)) step tag)
    · have past : (s.parcel p).state ≠ .proposed := by
        intro proposed
        rcases state with state | state <;> simp [st, proposed, isLive] at state
      rw [abandonParcel, parcel .abandon, if_neg past]
      exact announce_setParcel_declared rfl (.unilateral unilateral) u
  · subst alone
    exact congrArg Host.Outcome.next (takeRequest_counterpartPresent ready releaseMode named (releases state) own present tag)
  · subst alone
    exact congrArg Host.Outcome.next (takeRequest_counterpartPresent ready abandonMode named (abandons state) own present tag)

/-! ### The timers (R118, R125) -/

section

variable {s : State}

theorem settleDue_of_reached {p : Fin 6} {t : SettleTimer} (timer : (s.parcel p).settle = some t)
    (runs : t.expired = false) (reached : 10 * t.settleTime ≤ (s.clock - t.start).toNat) : s.settleDue p = some t := by
  simp only [State.settleDue, timer, runs, (reaches_iff ..).2 reached, Bool.not_false, Bool.and_self, if_true]

theorem settleDue_eq_none {p : Fin 6} {t : SettleTimer} (timer : (s.parcel p).settle = some t)
    (stands : t.expired = true ∨ (s.clock - t.start).toNat < 10 * t.settleTime) : s.settleDue p = none := by
  obtain expired | early := stands
  · simp [State.settleDue, timer, expired]
  · have before : reaches s.clock t.start (10 * t.settleTime) = false :=
      Bool.eq_false_iff.2 fun reached => Nat.not_le.2 early ((reaches_iff ..).1 reached)
    simp [State.settleDue, timer, before]

theorem lapsed_of_exceeded {subject : Subject} {kind : DeclKind} {e : Concurrence}
    (entry : s.entry subject kind = some e) (late : 10 * e.lapse < (s.clock - e.taken).toNat) :
    s.lapsed subject kind = some e := by
  simp only [State.lapsed, entry, (exceeds_iff ..).2 late, if_true]

theorem lapsed_eq_none {subject : Subject} {kind : DeclKind} {e : Concurrence} (entry : s.entry subject kind = some e)
    (within : (s.clock - e.taken).toNat ≤ 10 * e.lapse) : s.lapsed subject kind = none := by
  have young : exceeds s.clock e.taken e.lapse = false :=
    Bool.eq_false_iff.2 fun late => Nat.not_lt.2 within ((exceeds_iff ..).1 late)
  simp [State.lapsed, entry, young]

end

/-- Settles O39: the timer's test is `reaches` (R125), the lapse's `exceeds` (R118). -/
theorem parcelTimersExpire : Obligations.ParcelTimersExpire := by
  intro s
  refine ⟨fun p t timer => ⟨fun runs reached => ?_, fun stands => ?_⟩, fun subject kind e entry =>
    ⟨fun late => ?_, fun within => ?_⟩⟩
  · simp only [exec, execSettleTimerExpiry, settleDue_of_reached timer runs reached]
  · simp only [exec, execSettleTimerExpiry, settleDue_eq_none timer stands]
  · simp only [exec, execDeclarationLapse, lapsed_of_exceeded entry late]
    rfl
  · simp only [exec, execDeclarationLapse, lapsed_eq_none entry within]

end Sys2Proof.Machine
end

section
/-! A first declaration, its repetition and its refusals (R113 to R115). -/

namespace Sys2Proof.Machine

open Sys2Proof

/-! ### The six declarations -/

/-- The command that declares a kind. -/
def declaration (kind : DeclKind) (l : Link) (tag : Byte) (payload : List Byte) : Instr :=
  match kind with
  | .opening => .declareOpen l tag payload
  | .resume => .declareResume l tag payload
  | .closing => .declareClose l tag payload
  | .abandon => .declareAbandon l tag payload
  | .release => .declareRelease l tag payload
  | .callClear => .declareCallClear l tag payload

/-- A parcel declaration is `declareParcel` with the conditions and the step of its kind. -/
theorem exec_declaration_parcel {kind : DeclKind} (parcelKind : kind ≠ .callClear) (l : Link) (tag : Byte) (payload : List Byte)
    (s : State) :
    ∃ met step, exec (declaration kind l tag payload) s =
      .next (takeRequest l 0x30 tag payload true .whenRunning (declareParcel kind l payload met step) s) := by
  cases kind with
  | opening => exact ⟨_, _, rfl⟩
  | resume => exact ⟨_, _, rfl⟩
  | closing => exact ⟨_, _, rfl⟩
  | abandon => exact ⟨_, _, rfl⟩
  | release => exact ⟨_, _, rfl⟩
  | callClear => exact absurd rfl parcelKind

/-! ### A first declaration (R113, R115) -/

section

variable {s : State} {subject : Subject} {kind : DeclKind} {l : Link} {met : Bool} {step : Bool → State → State}

/-- The entry a declaration makes holds the clock and the timeout in use from before its frame. -/
theorem makeEntry_takeFrame (subject : Subject) (kind : DeclKind) (l : Link) (s : State) :
    makeEntry subject kind l (takeFrame l true s) =
      { takeFrame l true s with
        concurrence := s.concurrence ++
          [{ subject, kind, first := l, taken := s.clock, lapse := s.settingsInUse.concurrenceTimeout }] } := by
  rw [takeFrame_frame]
  rfl

theorem decideDeclaration_first (absent : s.entry subject kind = none) :
    decideDeclaration subject kind l false met step s = (makeEntry subject kind l s, bare .awaitingCounterpart) := by
  simp [decideDeclaration, absent]

theorem decideDeclaration_repeated {e : Concurrence} (entry : s.entry subject kind = some e) (own : e.first = l) :
    decideDeclaration subject kind l false met step s = refuseWith .duplicate s := by
  have mine : ¬e.first = otherLink l := fun other => otherLink_ne l (other.symm.trans own)
  simp [decideDeclaration, entry, mine]

/-- The command `c` of a declaration past its checks: entered where no entry of its subject and kind stands, DUPLICATE where
its own does (R115). -/
def Entered (c : Instr) (subject : Subject) (kind : DeclKind) (l : Link) (tag : Byte) (s : State) : Prop :=
  (s.entry subject kind = none →
      exec c s = .next (answered l 0x30 tag .awaitingCounterpart []
        { takeFrame l true s with
          concurrence := s.concurrence ++
            [{ subject, kind, first := l, taken := s.clock, lapse := s.settingsInUse.concurrenceTimeout }] }))
    ∧ ((∃ e, s.entry subject kind = some e ∧ e.first = l) →
      exec c s = .next (answered l 0x30 tag .duplicate [] (takeFrame l true s)))

theorem entered_of_decided {c : Instr} {tag : Byte} {payload : List Byte} {owner : State → State × Reply}
    (command : exec c s = .next (takeRequest l 0x30 tag payload true .whenRunning owner s))
    (ready : ReadyRunning l payload s)
    (decides : owner (takeFrame l true s) = decideDeclaration subject kind l false met step (takeFrame l true s)) :
    Entered c subject kind l tag s := by
  refine ⟨fun absent => command.trans (congrArg Host.Outcome.next (takeRequest_answers ready ?_ 0x30 tag)),
    fun ⟨e, entry, own⟩ => command.trans (congrArg Host.Outcome.next (takeRequest_answers ready ?_ 0x30 tag))⟩
  · rw [decides, decideDeclaration_first ((takeFrame_entry ..).trans absent), makeEntry_takeFrame]
    rfl
  · rw [decides, decideDeclaration_repeated ((takeFrame_entry ..).trans entry) own]
    rfl

end

/-- With every slot FREE, CLOSED or ABANDONED, CALL_CLEAR is decided against the table. -/
theorem declareUnit_decided {s : State} (states : ∀ q, allowsCallClear (s.parcel q).state = true) (l : Link) :
    declareUnit l [0, 0] s = decideDeclaration .unit .callClear l false true (fun _ => callClear) s := by
  have all : (allParcels.all fun p => allowsCallClear (s.parcel p).state) = true :=
    List.all_eq_true.2 fun q _ => states q
  simp only [declareUnit, all, if_true]
  rfl

/-- A PAIRED parcel declaration past the checks of R114. -/
theorem declaration_entered {kind : DeclKind} {l : Link} {b : Byte} {s : State} {p : Fin 6}
    (parcelKind : kind ≠ .callClear) (ready : ReadyRunning l [b, 0] s) (named : parcelOfByte b = some p)
    (checks : s.declarationRefusal kind p = none) (tag : Byte) :
    Entered (declaration kind l tag [b, 0]) (.parcel p) kind l tag s := by
  obtain ⟨met, step, command⟩ := exec_declaration_parcel parcelKind l tag [b, 0] s
  exact entered_of_decided command ready
    (declareParcel_decided rfl named ((takeFrame_declarationRefusal ..).trans checks))

theorem callClear_entered {l : Link} {s : State} (ready : ReadyRunning l [0, 0] s)
    (states : ∀ q, allowsCallClear (s.parcel q).state = true) (tag : Byte) :
    Entered (.declareCallClear l tag [0, 0]) .unit .callClear l tag s :=
  entered_of_decided rfl ready (declareUnit_decided (fun q => (takeFrame_parcel l true q s).symm ▸ states q) l)

/-! ### The refusals (R114) -/

theorem modeAllowed_iff (kind : DeclKind) (mode : Byte) :
    modeAllowed kind mode = true ↔ mode = 0 ∨ (mode = 1 ∧ (kind = .abandon ∨ kind = .release)) := by
  simp [modeAllowed]

theorem allowsCallClear_iff (st : ParcelState) :
    allowsCallClear st = true ↔ st = .free ∨ st = .closed ∨ st = .abandoned := by
  simp [allowsCallClear, or_assoc]

section

variable {s : State} {kind : DeclKind} {l : Link} {payload : List Byte} {c : ResultCode}

theorem exec_declaration_refused (ready : ReadyRunning l payload s)
    (parcelRefused : kind ≠ .callClear → ∀ met step,
      declareParcel kind l payload met step (takeFrame l true s) = refuseWith c (takeFrame l true s))
    (unitRefused : kind = .callClear →
      declareUnit l payload (takeFrame l true s) = refuseWith c (takeFrame l true s)) (tag : Byte) :
    exec (declaration kind l tag payload) s = .next (answered l 0x30 tag c [] (takeFrame l true s)) := by
  by_cases parcelKind : kind = .callClear
  · have refused := unitRefused parcelKind
    subst parcelKind
    exact exec_declareCallClear ready refused
  · obtain ⟨met, step, command⟩ := exec_declaration_parcel parcelKind l tag payload s
    rw [command, takeRequest_answers ready (parcelRefused parcelKind met step)]

/-- A payload that is not subject and mode is FORMAT. -/
theorem exec_declaration_length (ready : ReadyRunning l payload s) (length : payload.length ≠ 2) (tag : Byte) :
    exec (declaration kind l tag payload) s = .next (answered l 0x30 tag .format [] (takeFrame l true s)) := by
  refine exec_declaration_refused ready (fun _ met step => ?_) (fun _ => ?_) tag
  · unfold declareParcel
    split
    next => exact absurd rfl length
    next => rfl
  · unfold declareUnit
    split
    next => exact absurd rfl length
    next => rfl

/-- A mode the kind does not take is FORMAT. -/
theorem exec_declaration_mode {b mode : Byte} (ready : ReadyRunning l [b, mode] s) (other : modeAllowed kind mode = false)
    (tag : Byte) :
    exec (declaration kind l tag [b, mode]) s = .next (answered l 0x30 tag .format [] (takeFrame l true s)) := by
  refine exec_declaration_refused ready (fun _ met step => ?_) (fun unit => ?_) tag
  · simp [declareParcel, other]
  · subst unit
    simp [declareUnit, other]

/-- A subject that names no parcel slot is RANGE. -/
theorem exec_declaration_range {b mode : Byte} (parcelKind : kind ≠ .callClear) (ready : ReadyRunning l [b, mode] s)
    (laidOut : modeAllowed kind mode = true) (unnamed : parcelOfByte b = none) (tag : Byte) :
    exec (declaration kind l tag [b, mode]) s = .next (answered l 0x30 tag .range [] (takeFrame l true s)) := by
  refine exec_declaration_refused ready (fun _ met step => ?_) (fun unit => absurd unit parcelKind) tag
  simp only [declareParcel, laidOut, if_true, unnamed]

/-- Checks 3 to 5 answer for a slot. -/
theorem exec_declaration_checked {b mode : Byte} {p : Fin 6} (parcelKind : kind ≠ .callClear)
    (ready : ReadyRunning l [b, mode] s) (laidOut : modeAllowed kind mode = true) (named : parcelOfByte b = some p)
    (refusal : s.declarationRefusal kind p = some c) (tag : Byte) :
    exec (declaration kind l tag [b, mode]) s = .next (answered l 0x30 tag c [] (takeFrame l true s)) := by
  obtain ⟨met, step, command⟩ := exec_declaration_parcel parcelKind l tag [b, mode] s
  rw [command, takeRequest_refused ready laidOut named refusal]

theorem declareUnit_range {b mode : Byte} (laidOut : modeAllowed .callClear mode = true) (other : b ≠ 0) :
    declareUnit l [b, mode] s = refuseWith .range s := by
  simp only [declareUnit, laidOut, if_true, if_neg other]

theorem declareUnit_state {mode : Byte} {q : Fin 6} (laidOut : modeAllowed .callClear mode = true)
    (bars : allowsCallClear (s.parcel q).state = false) : declareUnit l [0, mode] s = refuseWith .state s := by
  have some : ¬(allParcels.all fun p => allowsCallClear (s.parcel p).state) = true := fun all => by
    rw [List.all_eq_true.1 all q (mem_allParcels q)] at bars
    cases bars
  simp only [declareUnit, laidOut, if_true, if_neg some]

theorem declarationRefusal_state {p : Fin 6} (bars : kindAllowed kind (s.parcel p).state = false) :
    s.declarationRefusal kind p = some .state := by
  simp [State.declarationRefusal, bars]

theorem settleExpired_eq_false {v : Parcel} (runs : ∀ t, v.settle = some t → t.expired = false) :
    settleExpired v = false := by
  unfold settleExpired
  split
  next t timer => exact runs t timer
  next => rfl

theorem settleExpired_eq_true {v : Parcel} (expired : ∃ t, v.settle = some t ∧ t.expired = true) :
    settleExpired v = true := by
  obtain ⟨t, timer, expired⟩ := expired
  simp only [settleExpired, timer, expired]

theorem declarationRefusal_settling {p : Fin 6} (settling : (s.parcel p).state = .settling)
    (runs : ∀ t, (s.parcel p).settle = some t → t.expired = false) :
    s.declarationRefusal .closing p = some .settling := by
  simp [State.declarationRefusal, kindAllowed, settling, settleExpired_eq_false runs]

end

/-- The states in which the statement allows a kind. -/
def allowedState (kind : DeclKind) (st : ParcelState) : Prop :=
  match kind with
  | .opening => st = .defined
  | .resume => st = .suspended ∨ st = .settling
  | .closing => st = .settling
  | .abandon => st = .proposed ∨ st = .defined ∨ isLive st = true
  | .release => st = .closed ∨ st = .abandoned
  | .callClear => st = .free ∨ st = .closed ∨ st = .abandoned

theorem kindAllowed_iff {kind : DeclKind} (parcelKind : kind ≠ .callClear) (st : ParcelState) :
    kindAllowed kind st = true ↔ allowedState kind st := by
  cases kind with
  | opening => simp [kindAllowed, allowedState]
  | resume => simp [kindAllowed, allowedState]
  | closing => simp [kindAllowed, allowedState]
  | abandon => exact kindAllowed_abandon_iff st
  | release => exact kindAllowed_release_iff st
  | callClear => exact absurd rfl parcelKind

/-- Settles O31: a declaration's refusals in the order of its checks, and past them the table decides. -/
theorem firstDeclarationEntered : Obligations.FirstDeclarationEntered := by
  refine ⟨?_, ?_⟩
  · intro l tag b s p named u entry decided st clear
    refine ⟨fun ready => ?_, fun ready states => ?_⟩
    · have enters {kind : DeclKind} (parcelKind : kind ≠ .callClear) (allowed : allowedState kind st)
          (stops : kind = .opening ∨ kind = .resume → s.shipStop = false ∧ s.terminalStop = false)
          (settled : kind = .closing → settleExpired (s.parcel p) = true) :
          Entered (declaration kind l tag [b, 0]) (.parcel p) kind l tag s :=
        declaration_entered parcelKind ready named
          (declarationRefusal_eq_none ((kindAllowed_iff parcelKind st).2 allowed) stops settled) tag
      refine ⟨fun state clear => ?_, fun state clear => ?_, fun state expired => ?_, fun state => ?_, fun state => ?_⟩
      · exact enters (kind := .opening) nofun state (fun _ => clear) nofun
      · exact enters (kind := .resume) nofun state (fun _ => clear) nofun
      · exact enters (kind := .closing) nofun state nofun fun _ => settleExpired_eq_true expired
      · exact enters (kind := .abandon) nofun state nofun nofun
      · exact enters (kind := .release) nofun state nofun nofun
    · exact callClear_entered ready (fun q => (allowsCallClear_iff _).2 (states q)) tag
  · intro l tag payload s ready u command refused allowed laidOut kind
    refine ⟨fun length => exec_declaration_length ready length tag, ?_⟩
    rintro b mode rfl
    have parcelRefused {p : Fin 6} {c : ResultCode} (taken : laidOut kind mode) (parcelKind : kind ≠ .callClear)
        (named : parcelOfByte b = some p) (refusal : s.declarationRefusal kind p = some c) : refused kind c :=
      exec_declaration_checked parcelKind ready ((modeAllowed_iff kind mode).2 taken) named refusal tag
    refine ⟨fun other => ?_, fun taken unit => ⟨fun other => ?_, fun zero bars => ?_⟩, fun taken parcelKind =>
      ⟨fun unnamed => ?_, fun p named => ⟨fun bars => ?_, fun holds kinds asserted => ?_, fun closing settling runs => ?_⟩⟩⟩
    · exact exec_declaration_mode ready (Bool.eq_false_iff.2 fun taken => other ((modeAllowed_iff kind mode).1 taken)) tag
    · subst unit
      exact exec_declareCallClear ready (declareUnit_range ((modeAllowed_iff _ mode).2 taken) other)
    · subst unit zero
      obtain ⟨q, bars⟩ := bars
      have refuses : allowsCallClear (u.parcel q).state = false := by
        rw [takeFrame_parcel]
        exact Bool.eq_false_iff.2 fun allows => bars ((allowsCallClear_iff _).1 allows)
      exact exec_declareCallClear ready (declareUnit_state ((modeAllowed_iff _ mode).2 taken) refuses)
    · exact exec_declaration_range parcelKind ready ((modeAllowed_iff kind mode).2 taken) unnamed tag
    · refine parcelRefused taken parcelKind named (declarationRefusal_state ?_)
      exact Bool.eq_false_iff.2 fun allows => bars ((kindAllowed_iff parcelKind _).1 allows)
    · exact parcelRefused taken parcelKind named
        (declarationRefusal_stopActive ((kindAllowed_iff parcelKind _).2 holds) kinds asserted)
    · subst closing
      exact parcelRefused taken parcelKind named (declarationRefusal_settling settling runs)

end Sys2Proof.Machine
end

section
/-! The stop lines (R132, R133): what a line taken as ASSERTED makes of the slots in TRANSFER. -/

namespace Sys2Proof.Machine

open Sys2Proof

/-! ### The slots suspended so far (R123, R133) -/

/-- The checkpoint of slot `q` as a suspension leaves it. -/
def State.suspendedCheckpoint (u : State) (reason : SuspendReason) (q : Fin 6) : Checkpoint :=
  u.checkpointWith q ((u.parcel q).suspendedBy reason)

/-- The slots of `ps` that are in TRANSFER in `u` are suspended in `w`, with the hand-offs of each in turn. Of the stop lines
nothing is said. -/
structure TransfersSuspended (reason : SuspendReason) (ps : List (Fin 6)) (u w : State) : Prop where
  parcel : ∀ q, w.parcel q =
    if q ∈ ps ∧ (u.parcel q).state = .transfer then (u.parcel q).suspendedBy reason else u.parcel q
  trail : SameTrail
    (ps.foldl (fun v q =>
      if (u.parcel q).state = .transfer then
        appendTrail (.parcelState q .suspended (.reason reason (count16 ((u.parcel q).suspensions.getD 0)))) v
      else v) u) w
  writes : SameWrites
    (ps.foldl (fun v q =>
      if (u.parcel q).state = .transfer then
        giveWrite (.checkpoint q)
          (.checkpoint (u.suspendedCheckpoint reason q) (checkpointCheck (u.suspendedCheckpoint reason q))) v
      else v) u) w
  entries : w.concurrence = u.concurrence.filter fun e =>
    ps.all fun q => (u.parcel q).state != .transfer || entryStays q .suspended e
  alarmFollows : (∃ q ∈ ps, (u.parcel q).state = .transfer) → w.alarm = w.alarmDue
  alarmStands : (∀ q ∈ ps, (u.parcel q).state ≠ .transfer) → w.alarm = u.alarm
  rest : w =
    { u with
      shipStop := w.shipStop, terminalStop := w.terminalStop, parcels := w.parcels, concurrence := w.concurrence
      trail := w.trail, newest := w.newest, writeQueue := w.writeQueue, inFlight := w.inFlight, alarm := w.alarm }

theorem transfersSuspended_nil (reason : SuspendReason) (line : Link) (u : State) :
    TransfersSuspended reason [] u (setStopLine line true u) where
  parcel := by simp
  trail := ⟨setStopLine_trail .., setStopLine_newest ..⟩
  writes := ⟨setStopLine_writeQueue .., setStopLine_inFlight ..⟩
  entries := by simp
  alarmFollows := by simp
  alarmStands := fun _ => setStopLine_alarm ..
  rest := by cases line <;> rfl

/-- A suspended slot has the record and the meter it had in TRANSFER, so its checkpoint is that of its suspension. -/
theorem checkpointOf_suspended {reason : SuspendReason} {q : Fin 6} {u w : State}
    (transfer : (u.parcel q).state = .transfer) (suspended : w.parcel q = (u.parcel q).suspendedBy reason)
    (slots : w.slots = u.slots) (channels : w.channels = u.channels) :
    w.checkpointOf q = u.suspendedCheckpoint reason q := by
  have slot (k : RecordSlot) : w.slot k = u.slot k := congrArg (fun v => v.get (slotIndex k)) slots
  have channel (m : Fin 4) : w.channel m = u.channel m := congrArg (fun v => v.get m) channels
  have accumulators : w.parcelAccumulators q = u.parcelAccumulators q := by
    simp only [State.parcelAccumulators, State.boundMeter, State.boundRecord, State.parcelRecord, suspended,
      Parcel.suspendedBy, transfer, slot, channel]
  simp only [State.checkpointOf, State.suspendedCheckpoint, State.checkpointWith, accumulators, suspended, slot]

section

variable {reason : SuspendReason} {ps : List (Fin 6)} {p : Fin 6} {u w : State} (h : TransfersSuspended reason ps u w)

include h

theorem TransfersSuspended.clock : w.clock = u.clock := by rw [h.rest]

theorem TransfersSuspended.skip (other : (u.parcel p).state ≠ .transfer) :
    TransfersSuspended reason (ps ++ [p]) u w where
  parcel := fun q => by
    rw [h.parcel]
    by_cases e : q = p
    · subst e; simp [other]
    · simp [e]
  trail := by rw [List.foldl_append, List.foldl_cons, List.foldl_nil, if_neg other]; exact h.trail
  writes := by rw [List.foldl_append, List.foldl_cons, List.foldl_nil, if_neg other]; exact h.writes
  entries := by
    have stays : ((u.parcel p).state != .transfer) = true := by simpa using other
    simp [h.entries, stays]
  alarmFollows := fun ⟨q, mem, transfer⟩ => by
    rcases List.mem_append.1 mem with before | last
    · exact h.alarmFollows ⟨q, before, transfer⟩
    · exact absurd (List.mem_singleton.1 last ▸ transfer) other
  alarmStands := fun none => h.alarmStands fun q mem => none q (List.mem_append_left _ mem)
  rest := h.rest

theorem TransfersSuspended.suspend (new : p ∉ ps) (transfer : (u.parcel p).state = .transfer) :
    TransfersSuspended reason (ps ++ [p]) u (suspendParcel p reason w) := by
  have before : w.parcel p = u.parcel p := by simp [h.parcel, new]
  obtain ⟨⟨here, elsewhere⟩, ⟨entries, trail, writes, alarm⟩, frame⟩ := suspendParcel_announced p reason w
  rw [before] at here trail
  have rest : suspendParcel p reason w =
      { u with
        shipStop := (suspendParcel p reason w).shipStop, terminalStop := (suspendParcel p reason w).terminalStop
        parcels := (suspendParcel p reason w).parcels, concurrence := (suspendParcel p reason w).concurrence
        trail := (suspendParcel p reason w).trail, newest := (suspendParcel p reason w).newest
        writeQueue := (suspendParcel p reason w).writeQueue, inFlight := (suspendParcel p reason w).inFlight
        alarm := (suspendParcel p reason w).alarm } := by
    rw [frame, h.rest]
  have checkpoint : (suspendParcel p reason w).checkpointOf p = u.suspendedCheckpoint reason p :=
    checkpointOf_suspended transfer here (by rw [rest]) (by rw [rest])
  rw [checkpoint] at writes
  rw [here] at entries trail
  exact {
    parcel := fun q => by
      by_cases e : q = p
      · subst e; rw [here, if_pos ⟨by simp, transfer⟩]
      · rw [elsewhere q e, h.parcel]; simp [e]
    trail := by
      rw [List.foldl_append, List.foldl_cons, List.foldl_nil, if_pos transfer]
      exact (h.trail.append (by rw [h.clock, foldl_appendTrail_clock]) _).trans trail
    writes := by
      rw [List.foldl_append, List.foldl_cons, List.foldl_nil, if_pos transfer]
      exact (h.writes.give _ _).trans writes
    entries := by
      rw [entries, h.entries, List.filter_filter]
      refine List.filter_congr fun e _ => ?_
      simp [transfer, Parcel.suspendedBy, Bool.and_comm]
    alarmFollows := fun _ => alarm
    alarmStands := fun none => absurd transfer (none p (by simp))
    rest }

theorem TransfersSuspended.next {line : Link} (reasoned : stopReason line = reason) (new : p ∉ ps) :
    TransfersSuspended reason (ps ++ [p]) u (suspendByLine line p w) := by
  have before : w.parcel p = u.parcel p := by simp [h.parcel, new]
  unfold suspendByLine
  rw [before, reasoned]
  split
  next transfer => exact h.suspend new transfer
  next other => exact h.skip other

end

theorem transfersSuspended_foldl {ps : List (Fin 6)} (distinct : ps.Nodup) (line : Link) (u : State) :
    TransfersSuspended (stopReason line) ps u
      (ps.foldl (fun s p => suspendByLine line p s) (setStopLine line true u)) := by
  induction ps using List.reverseRecOn with
  | nil => exact transfersSuspended_nil _ line u
  | append_singleton ps p ih =>
    obtain ⟨initial, -, apart⟩ := List.nodup_append.1 distinct
    rw [List.foldl_append]
    exact (ih initial).next rfl fun mem => apart p mem p (by simp) rfl

/-! ### The lines themselves -/

theorem suspendByLine_stopLine (line : Link) (p : Fin 6) (s : State) (x : Link) :
    (suspendByLine line p s).stopLine x = s.stopLine x := by
  unfold suspendByLine
  split
  · obtain ⟨-, -, frame⟩ := suspendParcel_announced p (stopReason line) s
    rw [frame]
    cases x <;> rfl
  · rfl

theorem stopTransfers_stopLine (line : Link) (s : State) (x : Link) :
    (stopTransfers line s).stopLine x = s.stopLine x := by
  rw [stopTransfers, appendTrail_stopLine]
  exact foldl_keeps (P := fun w => w.stopLine x = s.stopLine x)
    (fun w p same => (suspendByLine_stopLine line p w x).trans same) allParcels rfl

theorem stopTransfers_parcel (line : Link) (s : State) (q : Fin 6) :
    (stopTransfers line (setStopLine line true s)).parcel q =
      if (s.parcel q).state = .transfer then (s.parcel q).suspendedBy (stopReason line) else s.parcel q := by
  rw [stopTransfers, appendTrail_parcel, (transfersSuspended_foldl nodup_allParcels line s).parcel]
  simp

theorem stopTransfers_frame (line : Link) (s : State) :
    stopTransfers line (setStopLine line true s) =
      let w := stopTransfers line (setStopLine line true s)
      { s with
        shipStop := w.shipStop, terminalStop := w.terminalStop, parcels := w.parcels, concurrence := w.concurrence
        trail := w.trail, newest := w.newest, writeQueue := w.writeQueue, inFlight := w.inFlight, alarm := w.alarm } := by
  rw [stopTransfers, appendTrail_frame, (transfersSuspended_foldl nodup_allParcels line s).rest]

section

variable {line : Link} {s : State}

theorem stopTransfers_checkpointOf {q : Fin 6} (transfer : (s.parcel q).state = .transfer) :
    (stopTransfers line (setStopLine line true s)).checkpointOf q = s.suspendedCheckpoint (stopReason line) q :=
  checkpointOf_suspended transfer ((stopTransfers_parcel line s q).trans (if_pos transfer))
    (by rw [stopTransfers_frame]) (by rw [stopTransfers_frame])

/-- The writes of checkpoints are told by the checkpoints of the slots that are written. -/
theorem foldl_checkpoints_congr {P : Fin 6 → Prop} [DecidablePred P] {c d : Fin 6 → Checkpoint}
    (same : ∀ q, P q → c q = d q) (ps : List (Fin 6)) (s : State) :
    ps.foldl (fun v q => if P q then giveWrite (.checkpoint q) (.checkpoint (c q) (checkpointCheck (c q))) v else v) s =
      ps.foldl (fun v q => if P q then giveWrite (.checkpoint q) (.checkpoint (d q) (checkpointCheck (d q))) v else v)
        s := by
  refine List.foldl_ext _ _ s fun v q _ => ?_
  split
  next written => rw [same q written]
  next => rfl

theorem exec_stopLineAsserted (cleared : s.stopLine line = false) (active : s.unit ≠ .inactive) :
    exec (.stopLineAsserted line) s =
      .next (if s.unit = .running then stopTransfers line (setStopLine line true s) else setStopLine line true s) := by
  simp [exec, execStopLineAsserted, cleared, active]

theorem exec_stopLineCleared (asserted : s.stopLine line = true) :
    exec (.stopLineCleared line) s =
      .next (if s.unit = .running then appendTrail (.stopLine line false) (setStopLine line false s)
        else setStopLine line false s) := by
  simp [exec, execStopLineCleared, asserted]

end

/-- Settles O40. -/
theorem stopLinesTaken : Obligations.StopLinesTaken := by
  intro line s reason
  refine ⟨fun starting cleared => ?_, fun running cleared => ?_, fun starting asserted => ?_,
    fun running asserted => ?_⟩
  · rw [exec_stopLineAsserted cleared (by rw [starting]; exact nofun), if_neg (by rw [starting]; exact nofun)]
  · have stopped := transfersSuspended_foldl nodup_allParcels line s
    refine ⟨stopTransfers line (setStopLine line true s), ?_, ?_, ?_, fun q transfer => ?_, fun q other => ?_, ?_, ?_,
      ?_, fun some => ?_, fun none => ?_, ?_⟩
    · rw [exec_stopLineAsserted cleared (by rw [running]; exact nofun), if_pos running]
    · rw [stopTransfers_stopLine, setStopLine_stopLine_same]
    · rw [stopTransfers_stopLine, setStopLine_stopLine_other]
    · exact (stopTransfers_parcel line s q).trans (if_pos transfer)
    · exact (stopTransfers_parcel line s q).trans (if_neg other)
    · exact stopped.trail.append (by rw [stopped.clock, foldl_appendTrail_clock]) _
    · rw [foldl_checkpoints_congr (fun q (transfer : (s.parcel q).state = .transfer) =>
        stopTransfers_checkpointOf transfer) allParcels s]
      exact stopped.writes.trans ⟨appendTrail_writeQueue .., appendTrail_inFlight ..⟩
    · rw [stopTransfers, appendTrail_concurrence, stopped.entries]
    · obtain ⟨q, transfer⟩ := some
      rw [stopTransfers, appendTrail_alarm, stopped.alarmFollows ⟨q, mem_allParcels q, transfer⟩]
      exact (alarmDue_congr (appendTrail_parcels ..)).symm
    · rw [stopTransfers, appendTrail_alarm, stopped.alarmStands fun q _ => none q]
    · exact stopTransfers_frame line s
  · rw [exec_stopLineCleared asserted, if_neg (by rw [starting]; exact nofun)]
  · rw [exec_stopLineCleared asserted, if_pos running]

end Sys2Proof.Machine
end

section
/-! One comparison of one evaluation (R141, R143, R145 to R148): its grade, history, declared state and counters. -/

namespace Sys2Proof.Machine

open Sys2Proof

/-! ### Grades (R141) -/

theorem gradeOf_within_iff (watchBand alarmBand : Nat) (ratio : Int) :
    gradeOf watchBand alarmBand ratio = .within ↔ ratio.natAbs ≤ watchBand := by
  unfold gradeOf
  split
  next inside => simp [inside]
  next beyond => split <;> simp [beyond]

theorem gradeOf_watch_iff (watchBand alarmBand : Nat) (ratio : Int) :
    gradeOf watchBand alarmBand ratio = .watch ↔ watchBand < ratio.natAbs ∧ ratio.natAbs ≤ alarmBand := by
  unfold gradeOf
  split
  next inside => simp [not_lt.2 inside]
  next beyond =>
    split
    next near => simp [not_le.1 beyond, near]
    next far => simp [far]

theorem gradeOf_outside_iff (watchBand alarmBand : Nat) (ratio : Int) :
    gradeOf watchBand alarmBand ratio = .outside ↔ watchBand < ratio.natAbs ∧ alarmBand < ratio.natAbs := by
  unfold gradeOf
  split
  next inside => simp [not_lt.2 inside]
  next beyond =>
    split
    next near => simp [not_lt.2 near]
    next far => simp [not_le.1 beyond, not_le.1 far]

theorem gradeOf_neg (watchBand alarmBand : Nat) (ratio : Int) :
    gradeOf watchBand alarmBand (-ratio) = gradeOf watchBand alarmBand ratio := by
  rw [gradeOf, Int.natAbs_neg, gradeOf]

/-- From the base minimum on a difference is graded (R140, R142). -/
theorem gradeDifference_graded {r : ParcelRecord} {qShore : Int} (enough : (baseMinimumOf r : Int) ≤ qShore)
    (difference : Int) :
    (gradeDifference r difference qShore).result =
      .graded (gradeOf (watchBandOf r) (alarmBandOf r) (ratioOf difference qShore)) := by
  rw [gradeDifference, if_pos enough]

/-- Settles O46. -/
theorem ratiosGraded : Obligations.RatiosGraded := by
  refine ⟨fun watchBand alarmBand ratio => ⟨gradeOf_within_iff .., gradeOf_watch_iff .., fun ordered => ?_,
    gradeOf_neg ..⟩, fun r difference qShore enough => gradeDifference_graded enough difference⟩
  rw [gradeOf_outside_iff]
  exact ⟨fun ⟨_, far⟩ => far, fun far => ⟨ordered.trans_lt far, far⟩⟩

/-! ### Histories and declared states (R145, R146) -/

/-- A history keeps the newest ten of its entries and the new one. -/
theorem enterHistory_eq {h : List HistoryEntry} (bound : h.length ≤ 10) (e : HistoryEntry) :
    enterHistory h e = ((h ++ [e]).reverse.take 10).reverse := by
  rw [List.take_reverse, List.reverse_reverse, List.length_append, List.length_singleton, enterHistory]
  split
  next full =>
    have left : h.length + 1 - 10 = 1 := by omega
    rw [left, List.drop_one, List.tail_append_of_ne_nil (List.ne_nil_of_length_pos (by omega))]
  next room =>
    have none : h.length + 1 - 10 = 0 := by omega
    rw [none, List.drop_zero]

section

variable {kd kc : Nat} {h : List HistoryEntry} {discrepant : Bool}

theorem reconsider_declared (many : kd ≤ outsideCount h) : reconsider kd kc h discrepant = true := if_pos many

theorem reconsider_cleared (apart : kc < kd) (few : outsideCount h ≤ kc) : reconsider kd kc h discrepant = false := by
  rw [reconsider, if_neg (by omega), if_pos few]

theorem reconsider_stands (more : kc < outsideCount h) (fewer : outsideCount h < kd) :
    reconsider kd kc h discrepant = discrepant := by
  rw [reconsider, if_neg (by omega), if_neg (by omega)]

end

/-! ### One comparison after one evaluation (R143, R147, R148) -/

section

variable {r : ParcelRecord} {inTransfer : Bool} {now : Clock} {o : CompOutcome} {c : Comparison}

/-- A graded result in TRANSFER enters the history. -/
theorem evaluated_entered {g : Grade} (graded : o.result = .graded g) :
    evaluated (some r) true now o c =
      { history := enterHistory c.history { grade := g, time := now }
        discrepant := reconsider (declareCountOf r) (clearCountOf r)
          (enterHistory c.history { grade := g, time := now }) c.discrepant
        last := some { result := o.result, difference := o.difference, ratio := o.ratio, entered := true, time := now }
        counters := countResult c.counters o.result } := by
  simp [evaluated, graded]

/-- Any other result leaves the history and the declared state alone. -/
theorem evaluated_apart (apart : inTransfer = false ∨ ∃ k, o.result = .notEvaluated k) :
    evaluated (some r) inTransfer now o c =
      { c with
        last := some { result := o.result, difference := o.difference, ratio := o.ratio, entered := false, time := now }
        counters := countResult c.counters o.result } := by
  cases result : o.result with
  | notEvaluated k => simp [evaluated, result]
  | graded g =>
    have outside : inTransfer = false := apart.resolve_right (by simp [result])
    simp [evaluated, result, outside]

/-- The two ways of one evaluation exclude each other. -/
theorem entered_or_apart (inTransfer : Bool) (result : CompResult) :
    (inTransfer = true ∧ ∃ g, result = .graded g) ∨ (inTransfer = false ∨ ∃ k, result = .notEvaluated k) := by
  cases inTransfer <;> cases result <;> simp

end

/-- Settles O45: a graded result in TRANSFER enters the history, any other does not. -/
theorem comparisonEvaluated : Obligations.ComparisonEvaluated := by
  intro r inTransfer now o c bound apart v outside up
  have counted : outside = outsideCount v.history := List.countP_eq_length_filter.symm
  rcases entered_or_apart inTransfer o.result with ⟨rfl, g, graded⟩ | standing
  · have entered : v = _ := evaluated_entered graded
    refine ⟨?_, fun g' graded' _ => ?_, ?_, ?_, true, ?_, ?_⟩
    · rw [entered]
      exact enterHistory_length bound _
    · obtain rfl : g = g' := by simpa [graded] using graded'
      rw [counted, entered]
      exact ⟨enterHistory_eq bound _, reconsider_declared, reconsider_cleared apart, reconsider_stands⟩
    · simp [graded]
    · rw [entered, graded]
      cases g <;> rfl
    · rw [entered]
    · simp [graded]
  · have same : v = _ := evaluated_apart standing
    have notEntered : ¬(inTransfer = true ∧ ∃ g, o.result = .graded g) := by
      rintro ⟨rfl, g, graded⟩
      simp [graded] at standing
    refine ⟨?_, fun g graded transfer => absurd ⟨transfer, g, graded⟩ notEntered, fun _ => ?_, ?_, false, ?_,
      ?_⟩
    · rw [same]
      exact bound
    · rw [same]
      exact ⟨rfl, rfl⟩
    · rw [same]
      rcases o.result with (_ | _ | _) | k <;> rfl
    · rw [same]
    · simpa using notEntered

end Sys2Proof.Machine
end

section
/-! The evaluation of a live parcel (R137 to R142, R144, R147): its kind, its quantities, its outcomes and its record. -/

namespace Sys2Proof.Machine

open Sys2Proof

/-! ### What an evaluation rests on -/

theorem someTankNone_iff (s : State) (r : ParcelRecord) :
    s.someTankNone r = true ↔ ∃ x ∈ tanksNamed r, (s.tank x).figure.status = .none := by
  simp [State.someTankNone]

theorem anyTankDegrades_iff (s : State) (r : ParcelRecord) :
    (tanksNamed r).any s.tankDegrades = true ↔
      ∃ x ∈ tanksNamed r, (s.tank x).figure.status = .held ∨ (s.tank x).figure.marks.tableHeld = true
        ∨ s.tankStale x = true := by
  simp [State.tankDegrades, or_assoc]

/-- A live slot is beyond PROPOSED, so its meter is that of its current record. -/
theorem boundMeter_of_live {s : State} {p : Fin 6} {r : ParcelRecord} (live : isLive (s.parcel p).state = true)
    (record : s.parcelRecord p = some r) : s.boundMeter p = r.meter :=
  boundMeter_current record (fun free => by simp [free, isLive] at live) fun proposed => by
    simp [proposed, isLive] at live

/-- The evaluation of a parcel is INCOMPLETE: its record is SUSPECT, or a tank of it is NONE (R137). -/
def State.evaluatesIncomplete (s : State) (p : Fin 6) (r : ParcelRecord) : Prop :=
  s.isSuspect (.parcel p) = true ∨ ∃ x ∈ tanksNamed r, (s.tank x).figure.status = .none

section

variable {s : State} {p : Fin 6} {r : ParcelRecord} {o : OpeningFigures}

theorem parcelInForce_eq (record : s.parcelRecord p = some r) :
    s.parcelInForce p = if s.isSuspect (.parcel p) then none else some r := by
  unfold State.parcelRecord at record
  unfold State.parcelInForce State.inForce State.isSuspect
  cases current : (s.slot (.parcel p)).current with
  | none => simp [current] at record
  | some v =>
    have content : contentParcel v.content = some r := by simpa [current] using record
    by_cases suspect : v.suspect = true <;> simp [suspect, content]

theorem parcelMetered_of_live (live : isLive (s.parcel p).state = true) (record : s.parcelRecord p = some r) :
    s.parcelMetered p = r.meter.bind fun m => (s.channel m).accumulators.map fun a => roundDiv a.standard 1000 := by
  rw [State.parcelMetered, State.parcelAccumulators, boundMeter_of_live live record, Option.map_bind]
  rfl

/-! ### An INCOMPLETE evaluation -/

theorem currentQuantities_incomplete (record : s.parcelRecord p = some r) (incomplete : s.evaluatesIncomplete p r) :
    s.currentQuantities p = none := by
  rw [State.currentQuantities, parcelInForce_eq record]
  rcases incomplete with suspect | none
  · rw [if_pos suspect]
  · rw [← someTankNone_iff] at none
    cases s.isSuspect (.parcel p) <;> cases (s.parcel p).opening <;> simp [none]

theorem evaluationKind_of_none (none : s.currentQuantities p = none) : s.evaluationKind p = .incomplete := by
  rw [State.evaluationKind, none]

theorem outcomes_of_none (none : s.currentQuantities p = none) :
    s.outcomes p = (incompleteOutcome, incompleteOutcome) := by
  rw [State.outcomes, none]

/-! ### Any other evaluation -/

section

variable (record : s.parcelRecord p = some r) (opened : (s.parcel p).opening = some o)
  (complete : ¬s.evaluatesIncomplete p r)

include record complete

theorem parcelInForce_complete : s.parcelInForce p = some r := by
  rw [parcelInForce_eq record, if_neg fun suspect => complete (.inl suspect)]

include opened

theorem currentQuantities_complete :
    s.currentQuantities p = some (transferred r o (s.shipVolumes r).sum (s.shoreVolumes r).sum) := by
  have measured : ¬s.someTankNone r = true := fun none => complete (.inr ((someTankNone_iff s r).1 none))
  simp only [State.currentQuantities, parcelInForce_complete record complete, opened, if_neg measured, quantitiesOf_eq]

theorem evaluationKind_complete :
    s.evaluationKind p = if (tanksNamed r).any s.tankDegrades then .degraded else .clean := by
  simp only [State.evaluationKind, currentQuantities_complete record opened complete,
    parcelInForce_complete record complete]

theorem outcomes_complete :
    let q := transferred r o (s.shipVolumes r).sum (s.shoreVolumes r).sum
    s.outcomes p = (compared r (q.qAdj - q.qShore) q.qShore,
      if s.meterWaiting p then
        { result := .notEvaluated .meterWaiting, difference := some ((s.parcelMetered p).getD 0 - q.qShore)
          ratio := none }
      else compared r ((s.parcelMetered p).getD 0 - q.qShore) q.qShore) := by
  simp only [State.outcomes, currentQuantities_complete record opened complete, parcelInForce_complete record complete,
    shipOutcome, meterOutcome, gradeDifference_eq]

end

/-! ### The INTERVAL record (R144) -/

/-- The record of an evaluation, with the meter's part where the slot has one. -/
theorem intervalRecord_eq (items : CompItems) {w : CompItems} {after : Comparison → Comparison}
    (meter : w.meter = items.meter.map after) :
    s.intervalRecord p items w =
      { parcel := p, state := (s.parcel p).state
        qAdj := ((s.currentQuantities p).map fun q => q.qAdj).getD 0
        qShore := ((s.currentQuantities p).map fun q => q.qShore).getD 0
        qMeter := s.parcelMetered p, ship := intervalResult (s.outcomes p).1 items.ship w.ship
        meter := items.meter.map fun c => intervalResult (s.outcomes p).2 c (after c), mark := s.evaluationKind p } := by
  rw [State.intervalRecord, meter]
  cases items.meter <;> rfl

end

end Sys2Proof.Machine
end

section
/-! The interval expiry (R135, R136, R144, R152, R201): each live slot is evaluated in turn. -/

namespace Sys2Proof.Machine

open Sys2Proof

/-! ### The evaluation rests on no other slot's items -/

/-- The state `w` differs from `u` in the items of its parcel slots, in its trail and in its writes alone. -/
structure EvaluatedFrom (u w : State) : Prop where
  states : ∀ q, (w.parcel q).state = (u.parcel q).state
  rest : w =
    { u with
      parcels := w.parcels, trail := w.trail, newest := w.newest, writeQueue := w.writeQueue, inFlight := w.inFlight }

section

variable {u w : State} (h : EvaluatedFrom u w) {p : Fin 6}

include h

theorem EvaluatedFrom.clock : w.clock = u.clock := by rw [h.rest]

theorem EvaluatedFrom.slot (k : RecordSlot) : w.slot k = u.slot k := by rw [h.rest]; rfl

theorem EvaluatedFrom.channel (m : Fin 4) : w.channel m = u.channel m := by rw [h.rest]; rfl

theorem EvaluatedFrom.parcelInForce (q : Fin 6) : w.parcelInForce q = u.parcelInForce q := by rw [h.rest]; rfl

theorem EvaluatedFrom.boundRecord (q : Fin 6) : w.boundRecord q = u.boundRecord q :=
  boundRecord_congr (h.states q) (h.slot _)

theorem EvaluatedFrom.boundMeter (q : Fin 6) : w.boundMeter q = u.boundMeter q := by
  rw [State.boundMeter, h.boundRecord, State.boundMeter]

theorem EvaluatedFrom.parcelAccumulators (q : Fin 6) : w.parcelAccumulators q = u.parcelAccumulators q := by
  simp only [State.parcelAccumulators, h.boundMeter, h.channel]

theorem EvaluatedFrom.parcelMetered (q : Fin 6) : w.parcelMetered q = u.parcelMetered q := by
  rw [State.parcelMetered, h.parcelAccumulators, State.parcelMetered]

theorem EvaluatedFrom.channelMode (m : Fin 4) : w.channelMode m = u.channelMode m := by
  have bound : w.boundWith (namesMeter m) = u.boundWith (namesMeter m) :=
    funext fun q => by simp only [State.boundWith, h.boundRecord]
  have parcel : w.meterParcel m = u.meterParcel m := by rw [State.meterParcel, bound, State.meterParcel]
  have meter : w.meterInForce m = u.meterInForce m := by rw [h.rest]; rfl
  simp only [State.channelMode, parcel, meter, h.states, h.parcelInForce]

theorem EvaluatedFrom.meterWaiting (q : Fin 6) : w.meterWaiting q = u.meterWaiting q := by
  simp only [State.meterWaiting, h.boundMeter, h.channelMode]

theorem EvaluatedFrom.checkpointWith (q : Fin 6) (v : Parcel) : w.checkpointWith q v = u.checkpointWith q v := by
  simp only [State.checkpointWith, h.slot, h.parcelAccumulators]

/-- The checkpoint of a slot rests on the slot as it is left. -/
theorem EvaluatedFrom.checkpointOf (q : Fin 6) : w.checkpointOf q = u.checkpointWith q (w.parcel q) :=
  h.checkpointWith q _

section

variable (same : w.parcel p = u.parcel p)

include same

theorem EvaluatedFrom.itemsOf : w.itemsOf p = u.itemsOf p := by
  simp only [State.itemsOf, same, h.boundMeter]

theorem EvaluatedFrom.currentQuantities : w.currentQuantities p = u.currentQuantities p := by
  have none (r : ParcelRecord) : w.someTankNone r = u.someTankNone r := by rw [h.rest]; rfl
  have ships (r : ParcelRecord) : w.shipVolumes r = u.shipVolumes r := by rw [h.rest]; rfl
  have shores (r : ParcelRecord) : w.shoreVolumes r = u.shoreVolumes r := by rw [h.rest]; rfl
  simp only [State.currentQuantities, same, h.parcelInForce, none, ships, shores]

theorem EvaluatedFrom.evaluationKind : w.evaluationKind p = u.evaluationKind p := by
  have degrades : w.tankDegrades = u.tankDegrades := by rw [h.rest]; rfl
  simp only [State.evaluationKind, h.currentQuantities same, h.parcelInForce, degrades]

theorem EvaluatedFrom.outcomes : w.outcomes p = u.outcomes p := by
  simp only [State.outcomes, h.currentQuantities same, h.parcelInForce, h.meterWaiting, h.parcelMetered]

theorem EvaluatedFrom.evaluatedItems (items : CompItems) : w.evaluatedItems p items = u.evaluatedItems p items := by
  simp only [State.evaluatedItems, same, h.clock, h.parcelInForce, h.parcelMetered, h.currentQuantities same,
    h.evaluationKind same, h.outcomes same]

theorem EvaluatedFrom.intervalRecord (before after : CompItems) :
    w.intervalRecord p before after = u.intervalRecord p before after := by
  simp only [State.intervalRecord, same, h.parcelMetered, h.currentQuantities same, h.evaluationKind same,
    h.outcomes same]

end

end

/-! ### One slot (R136) -/

/-- The slot with the items of its evaluation. -/
def State.evaluatedParcel (u : State) (p : Fin 6) : Parcel :=
  { u.parcel p with comparisons := some (u.evaluatedItems p (u.itemsOf p)) }

/-- The INTERVAL record of a slot's evaluation (R144). -/
def State.intervalBody (u : State) (p : Fin 6) : TrailBody :=
  .interval (u.intervalRecord p (u.itemsOf p) (u.evaluatedItems p (u.itemsOf p)))

theorem evaluateParcel_live {p : Fin 6} {s : State} (live : isLive (s.parcel p).state = true) :
    evaluateParcel p s = giveCheckpoint p (appendTrail (s.intervalBody p) (setParcel p (s.evaluatedParcel p) s)) :=
  if_pos live

theorem evaluateParcel_other {p : Fin 6} {s : State} (other : ¬isLive (s.parcel p).state = true) :
    evaluateParcel p s = s := if_neg other

theorem evaluateParcel_parcel {p : Fin 6} {s : State} (live : isLive (s.parcel p).state = true) (q : Fin 6) :
    (evaluateParcel p s).parcel q = if q = p then s.evaluatedParcel p else s.parcel q := by
  rw [evaluateParcel_live live, giveCheckpoint, giveWrite_parcel, appendTrail_parcel, setParcel_parcel]

theorem evaluateParcel_from (p : Fin 6) (s : State) : EvaluatedFrom s (evaluateParcel p s) := by
  by_cases live : isLive (s.parcel p).state = true
  · refine ⟨fun q => ?_, ?_⟩
    · rw [evaluateParcel_parcel live]
      split
      next same => rw [same]; rfl
      next => rfl
    · rw [evaluateParcel_live live, giveCheckpoint, giveWrite_frame, appendTrail_frame]
      rfl
  · rw [evaluateParcel_other live]
    exact ⟨fun _ => rfl, rfl⟩

theorem evaluateParcel_sameTrail {p : Fin 6} {s : State} (live : isLive (s.parcel p).state = true) :
    SameTrail (appendTrail (s.intervalBody p) s) (evaluateParcel p s) := by
  rw [evaluateParcel_live live, giveCheckpoint]
  exact (SameTrail.append (v := s) (w := setParcel p (s.evaluatedParcel p) s) ⟨rfl, rfl⟩ rfl _).trans
    (sameTrail_giveWrite ..)

theorem evaluateParcel_sameWrites {p : Fin 6} {s : State} (live : isLive (s.parcel p).state = true) :
    let c := s.checkpointWith p (s.evaluatedParcel p)
    SameWrites (giveWrite (.checkpoint p) (.checkpoint c (checkpointCheck c)) s) (evaluateParcel p s) := by
  intro c
  have given : (appendTrail (s.intervalBody p) (setParcel p (s.evaluatedParcel p) s)).checkpointOf p = c := by
    have checkpoint := (evaluateParcel_from p s).checkpointOf p
    rw [evaluateParcel_parcel live, if_pos rfl] at checkpoint
    rw [evaluateParcel_live live, giveCheckpoint] at checkpoint
    refine Eq.trans ?_ checkpoint
    exact (checkpointOf_congr (giveWrite_slots ..) (giveWrite_parcels ..) (giveWrite_channels ..) p).symm
  rw [evaluateParcel_live live, giveCheckpoint, given]
  exact SameWrites.give (v := s) ⟨by simp, by simp⟩ _ _

/-! ### Slot after slot (R136) -/

/-- The live slots of `ps` are evaluated in `w` as `u` has them, with one record and one write of each in turn. -/
structure ParcelsEvaluated (ps : List (Fin 6)) (u w : State) : Prop extends EvaluatedFrom u w where
  parcel : ∀ q, w.parcel q = if q ∈ ps ∧ isLive (u.parcel q).state = true then u.evaluatedParcel q else u.parcel q
  trail : SameTrail
    (ps.foldl (fun v q => if isLive (u.parcel q).state then appendTrail (u.intervalBody q) v else v) u) w
  writes : SameWrites
    (ps.foldl (fun v q =>
      if isLive (u.parcel q).state then
        giveWrite (.checkpoint q)
          (.checkpoint (u.checkpointWith q (u.evaluatedParcel q))
            (checkpointCheck (u.checkpointWith q (u.evaluatedParcel q)))) v
      else v) u) w

theorem parcelsEvaluated_nil (u : State) : ParcelsEvaluated [] u u where
  states _ := rfl
  rest := rfl
  parcel := by simp
  trail := SameTrail.rfl' u
  writes := SameWrites.rfl' u

theorem EvaluatedFrom.trans {u v w : State} (h : EvaluatedFrom u v) (h' : EvaluatedFrom v w) : EvaluatedFrom u w where
  states q := (h'.states q).trans (h.states q)
  rest := by rw [h'.rest, h.rest]

section

variable {ps : List (Fin 6)} {p : Fin 6} {u w : State} (h : ParcelsEvaluated ps u w)

include h

theorem ParcelsEvaluated.skip (other : ¬isLive (u.parcel p).state = true) : ParcelsEvaluated (ps ++ [p]) u w where
  toEvaluatedFrom := h.toEvaluatedFrom
  parcel := fun q => by
    rw [h.parcel]
    by_cases e : q = p
    · subst e; simp [other]
    · simp [e]
  trail := by rw [List.foldl_append, List.foldl_cons, List.foldl_nil, if_neg other]; exact h.trail
  writes := by rw [List.foldl_append, List.foldl_cons, List.foldl_nil, if_neg other]; exact h.writes

theorem ParcelsEvaluated.evaluate (new : p ∉ ps) (live : isLive (u.parcel p).state = true) :
    ParcelsEvaluated (ps ++ [p]) u (evaluateParcel p w) := by
  have before : w.parcel p = u.parcel p := by simp [h.parcel, new]
  have live' : isLive (w.parcel p).state = true := by rw [before]; exact live
  have items : w.evaluatedParcel p = u.evaluatedParcel p := by
    rw [State.evaluatedParcel, before, h.itemsOf before, h.evaluatedItems before, State.evaluatedParcel]
  have body : w.intervalBody p = u.intervalBody p := by
    rw [State.intervalBody, h.itemsOf before, h.evaluatedItems before, h.intervalRecord before, State.intervalBody]
  have trail := evaluateParcel_sameTrail live'
  have writes := evaluateParcel_sameWrites live'
  simp only [items, h.checkpointWith] at writes
  rw [body] at trail
  exact {
    toEvaluatedFrom := h.toEvaluatedFrom.trans (evaluateParcel_from p w)
    parcel := fun q => by
      rw [evaluateParcel_parcel live', items, h.parcel]
      by_cases e : q = p
      · subst e; simp [live]
      · simp [e]
    trail := by
      rw [List.foldl_append, List.foldl_cons, List.foldl_nil, if_pos live]
      exact (h.trail.append (by rw [h.clock, foldl_appendTrail_clock]) _).trans trail
    writes := by
      rw [List.foldl_append, List.foldl_cons, List.foldl_nil, if_pos live]
      exact (h.writes.give _ _).trans writes }

theorem ParcelsEvaluated.next (new : p ∉ ps) : ParcelsEvaluated (ps ++ [p]) u (evaluateParcel p w) := by
  by_cases live : isLive (u.parcel p).state = true
  · exact h.evaluate new live
  · rw [evaluateParcel_other (by rw [h.states]; exact live)]
    exact h.skip live

end

theorem evaluateParcels_evaluated {ps : List (Fin 6)} (distinct : ps.Nodup) (u : State) :
    ParcelsEvaluated ps u (evaluateParcels ps u) := by
  induction ps using List.reverseRecOn with
  | nil => exact parcelsEvaluated_nil u
  | append_singleton ps p ih =>
    obtain ⟨initial, -, apart⟩ := List.nodup_append.1 distinct
    rw [evaluateParcels, List.foldl_append]
    exact (ih initial).next fun mem => apart p mem p (by simp) rfl

/-! ### The expiry (R135, R152) -/

theorem exec_intervalTimerExpiry {s : State} {t : Timer} (timer : s.intervalTimer = some t) :
    exec .intervalTimerExpiry s =
      .next (if t.duration ≤ (s.clock - t.start).toNat then startInterval (setAlarm (evaluateParcels allParcels s))
        else s) := by
  have due : s.intervalDue = true ↔ t.duration ≤ (s.clock - t.start).toNat := by
    simp only [State.intervalDue, timer, reaches_iff]
  show Host.Outcome.next (if s.intervalDue = true then _ else s) = _
  rw [if_congr due rfl rfl]

theorem startInterval_setAlarm_frame (s : State) :
    startInterval (setAlarm s) =
      { s with
        alarm := s.alarmDue
        intervalTimer := some { start := s.clock, duration := 10 * s.settingsInUse.interval } } := rfl

section

variable {s w : State} (h : ParcelsEvaluated allParcels s w)

include h

theorem ParcelsEvaluated.live {p : Fin 6} (live : isLive (s.parcel p).state = true) :
    w.parcel p = s.evaluatedParcel p :=
  (h.parcel p).trans (if_pos ⟨mem_allParcels p, live⟩)

theorem ParcelsEvaluated.other {p : Fin 6} (other : isLive (s.parcel p).state = false) : w.parcel p = s.parcel p :=
  (h.parcel p).trans (if_neg fun ⟨_, live⟩ => by simp [other] at live)

theorem ParcelsEvaluated.expiry_writes :
    let v := startInterval (setAlarm w)
    SameWrites
      (allParcels.foldl (fun u p =>
        if isLive (s.parcel p).state then
          giveWrite (.checkpoint p) (.checkpoint (v.checkpointOf p) (checkpointCheck (v.checkpointOf p))) u
        else u) s) v := by
  intro v
  have checkpoints : ∀ p, isLive (s.parcel p).state = true →
      v.checkpointOf p = s.checkpointWith p (s.evaluatedParcel p) := fun p live => by
    rw [← h.live live, ← h.checkpointOf]
    exact checkpointOf_congr rfl rfl rfl p
  rw [foldl_checkpoints_congr checkpoints allParcels s]
  exact h.writes.trans ⟨rfl, rfl⟩

theorem ParcelsEvaluated.expiry_timer :
    (startInterval (setAlarm w)).intervalTimer =
      some { start := s.clock, duration := 10 * s.settingsInUse.interval } := by
  have settings : w.settingsInUse = s.settingsInUse := by rw [h.rest]; rfl
  rw [startInterval_setAlarm_frame, h.clock, settings]

theorem ParcelsEvaluated.expiry_frame :
    let v := startInterval (setAlarm w)
    v = { s with
          parcels := v.parcels, trail := v.trail, newest := v.newest, writeQueue := v.writeQueue
          inFlight := v.inFlight, alarm := v.alarm, intervalTimer := v.intervalTimer } := by
  rw [startInterval_setAlarm_frame, h.rest]

end

/-- The expiry as a whole, the slots evaluated one after another. -/
theorem intervalTimerExpiry_evaluates {s : State} {t : Timer} (timer : s.intervalTimer = some t)
    (due : t.duration ≤ (s.clock - t.start).toNat) :
    ∃ w, ParcelsEvaluated allParcels s w ∧ exec .intervalTimerExpiry s = .next (startInterval (setAlarm w)) :=
  ⟨_, evaluateParcels_evaluated nodup_allParcels s, by rw [exec_intervalTimerExpiry timer, if_pos due]⟩

/-- Settles O44: the expiry slot after slot; the evaluation by whether it is INCOMPLETE. -/
theorem intervalEvaluated : Obligations.IntervalEvaluated := by
  refine ⟨fun s t timer => ⟨fun early => ?_, fun due => ?_⟩, fun s p r o items live record opened => ?_⟩
  · rw [exec_intervalTimerExpiry timer, if_neg (not_le.2 early)]
  · obtain ⟨w, evaluated, step⟩ := intervalTimerExpiry_evaluates timer due
    exact ⟨_, step, fun p => evaluated.live, fun p => evaluated.other, evaluated.trail.trans ⟨rfl, rfl⟩,
      evaluated.expiry_writes, evaluated.expiry_timer, rfl, evaluated.expiry_frame⟩
  · have metered := parcelMetered_of_live live record
    have waiting := meterWaiting_iff (boundMeter_of_live live record)
    intro inForce incomplete degrades kind q figure notMade ship meter after said up w
    have force : s.parcelInForce p = inForce := parcelInForce_eq record
    have found : s.currentQuantities p = (if incomplete then none else some q) ∧ s.evaluationKind p = kind
        ∧ s.outcomes p = (ship, meter) := by
      by_cases h : incomplete
      · have none := currentQuantities_incomplete record h
        refine ⟨none.trans (if_pos h).symm, (evaluationKind_of_none none).trans (if_pos h).symm, ?_⟩
        simp only [outcomes_of_none none, ship, meter, if_pos h]
        rfl
      · rw [currentQuantities_complete record opened h, evaluationKind_complete record opened h,
          outcomes_complete record opened h, metered]
        simp only [kind, ship, meter, if_neg h, waiting, anyTankDegrades_iff]
        exact ⟨rfl, rfl, rfl⟩
    obtain ⟨quantities, evaluates, outcomes⟩ := found
    have items : s.evaluatedItems p items = w := by
      rw [State.evaluatedItems, quantities, evaluates, outcomes, force, metered]
      rfl
    refine ⟨items, ?_⟩
    rw [intervalRecord_eq _ rfl, quantities, evaluates, outcomes, metered]
    by_cases h : incomplete
    · simp only [if_pos h]
      rfl
    · simp only [if_neg h]
      rfl

end Sys2Proof.Machine
end

section
/-! The trail in order (R160, R161): the rule for one record appended, and the operations that append records or leave the trail
as it stands. -/

namespace Sys2Proof.Machine

open Sys2Proof

/-! ### One record -/

/-- The records have consecutive ascending sequence numbers that end at `n` (R161). -/
def ConsecutiveTo (n : Nat) (t : List TrailRecord) : Prop :=
  t.length ≤ n ∧ t.map (fun r => r.seq) = List.range' (n - t.length + 1) t.length

theorem trailInOrder_iff {s : State} :
    TrailInOrder s ↔ s.trail.length ≤ 256 ∧ s.newest ≤ 4294967295 ∧ ConsecutiveTo s.newest s.trail := by
  unfold TrailInOrder ConsecutiveTo
  tauto

/-- The oldest record leaves. -/
theorem ConsecutiveTo.tail {n : Nat} {t : List TrailRecord} (h : ConsecutiveTo n t) : ConsecutiveTo n t.tail := by
  obtain ⟨least, seqs⟩ := h
  cases t with
  | nil => exact ⟨least, rfl⟩
  | cons r t =>
    rw [List.length_cons] at least
    have first : n - (t.length + 1) + 1 + 1 = n - t.length + 1 := by omega
    rw [List.map_cons, List.length_cons, List.range'_succ, first] at seqs
    exact ⟨Nat.le_of_succ_le least, (List.cons.inj seqs).2⟩

/-- The record of the next sequence joins the end. -/
theorem ConsecutiveTo.concat {n : Nat} {t : List TrailRecord} (h : ConsecutiveTo n t) {r : TrailRecord}
    (seq : r.seq = n + 1) : ConsecutiveTo (n + 1) (t ++ [r]) := by
  obtain ⟨least, seqs⟩ := h
  have first : n + 1 - (t.length + 1) + 1 = n - t.length + 1 := by omega
  have last : n - t.length + 1 + t.length = n + 1 := by omega
  rw [ConsecutiveTo, List.length_append, List.length_singleton, List.map_append, List.map_singleton, seqs, seq, first,
    List.range'_1_concat, last]
  exact ⟨Nat.succ_le_succ least, rfl⟩

theorem ConsecutiveTo.push {n : Nat} {t : List TrailRecord} (h : ConsecutiveTo n t) {r : TrailRecord}
    (seq : r.seq = n + 1) : ConsecutiveTo (n + 1) (trailPush t r) := by
  unfold trailPush
  split
  · exact h.tail.concat seq
  · exact h.concat seq

theorem trailPush_length {t : List TrailRecord} (room : t.length ≤ 256) (r : TrailRecord) :
    (trailPush t r).length ≤ 256 := by
  unfold trailPush
  split
  · rw [List.length_append, List.length_tail, List.length_singleton]
    omega
  · rw [List.length_append, List.length_singleton]
    omega

section

variable {s t : State} (h : TrailInOrder s)

include h

theorem TrailInOrder.same (e : SameTrail s t) : TrailInOrder t := by
  obtain ⟨trail, newest⟩ := e
  unfold TrailInOrder at h ⊢
  rwa [trail, newest]

/-- A record takes the next sequence; past the largest one the trail restarts with two (R161). -/
theorem TrailInOrder.append (b : TrailBody) : TrailInOrder (appendTrail b s) := by
  obtain ⟨room, most, consecutive⟩ := trailInOrder_iff.1 h
  unfold appendTrail
  split
  · exact ⟨Nat.le_of_ble_eq_true rfl, le_rfl, Nat.le_of_ble_eq_true rfl, rfl⟩
  next below =>
    exact trailInOrder_iff.2 ⟨trailPush_length room _, Nat.lt_of_le_of_ne most below, consecutive.push rfl⟩

/-- A unit whose trail is that of `s` with one record more. -/
theorem TrailInOrder.told {b : TrailBody} (e : SameTrail (appendTrail b s) t) : TrailInOrder t := (h.append b).same e

theorem TrailInOrder.handedOff {p : Fin 6} {d : StateDetail} (handed : HandedOff p d s t) : TrailInOrder t := by
  obtain ⟨-, trail, -⟩ := handed
  exact h.told trail

/-! ### Links (R184, R185) and writes -/

theorem TrailInOrder.setLink (l : Link) (u : LinkUnit) : TrailInOrder (setLink l u s) :=
  h.same ⟨setLink_trail .., setLink_newest ..⟩

theorem TrailInOrder.giveWrite (o : StoreObject) (c : StoredContent) : TrailInOrder (giveWrite o c s) :=
  h.same (sameTrail_giveWrite o c s)

theorem TrailInOrder.silenceTest (l : Link) : TrailInOrder (silenceTest l s) := by
  refine TrailInOrder.same ?_ (silenceTest_sameTrail l s)
  split
  · exact h.append _
  · exact h

theorem TrailInOrder.settingsChanged : TrailInOrder (settingsChanged s) := (h.silenceTest .ship).silenceTest .terminal

/-! ### Tanks -/

theorem TrailInOrder.computeTank (x : TankId) : TrailInOrder (computeTank x s) :=
  h.same ⟨computeTank_trail .., computeTank_newest ..⟩

theorem TrailInOrder.computeTanks (xs : List TankId) : TrailInOrder (computeTanks xs s) :=
  h.same ⟨computeTanks_trail .., computeTanks_newest ..⟩

theorem TrailInOrder.holdTanks (xs : List TankId) : TrailInOrder (holdTanks xs s) :=
  h.same ⟨holdTanks_trail .., holdTanks_newest ..⟩

/-! ### Record slots (R16, R22, R24, R36, R39, R44) -/

theorem TrailInOrder.setOutcome (k : RecordSlot) (o : LastOutcome) : TrailInOrder (setOutcome k o s) := by
  have set : TrailInOrder (setSlot k { s.slot k with last := o } s) := h
  cases o
  case none => exact set
  all_goals exact set.append _

theorem TrailInOrder.leaveProposed (p : Fin 6) (m : Option (Fin 4)) (b : Bool) : TrailInOrder (leaveProposed p m b s) := by
  obtain ⟨-, -, -, trail, -⟩ := leaveProposed_handedOff p m b s
  exact h.told trail

theorem TrailInOrder.rejectPending (k : RecordSlot) (d : RejectDetail) (b : Bool) :
    TrailInOrder (rejectPending k d b s) := by
  unfold Machine.rejectPending
  split
  · exact h
  next v _ =>
    have rejected : TrailInOrder (versionRejected k d v s) := h.told (versionRejected_sameTrail k d v s)
    dsimp only
    split
    · split <;> exact rejected
    · split <;> exact rejected
    · split
      · exact rejected.leaveProposed _ _ _
      · exact rejected
    · exact rejected

theorem TrailInOrder.removeParcelVersions (p : Fin 6) : TrailInOrder (removeParcelVersions p s) := by
  refine TrailInOrder.same ?_ (removeParcelVersions_sameTrail p s)
  split
  · exact (h.append _).append _
  · exact h.append _

theorem TrailInOrder.announceFree_empty (p : Fin 6) (m : Option (Fin 4)) (b : Bool) :
    TrailInOrder (announceFree p b (emptyParcel p m s)) := by
  obtain ⟨-, trail⟩ := Machine.announceFree_empty p m b s
  exact h.told trail

theorem TrailInOrder.endParcel (p : Fin 6) (b : Bool) : TrailInOrder (endParcel p b s) := by
  have emptied : TrailInOrder (parcelEmptied p s) :=
    (h.removeParcelVersions p).same ⟨emptyParcel_trail .., emptyParcel_newest ..⟩
  have told : TrailInOrder (announceFree p b (parcelReturned p s)) :=
    TrailInOrder.append (s := pruneConcurrence p (parcelReturned p s)) (emptied.computeTanks _) _
  exact told.same (endParcel_announced p b s)

theorem TrailInOrder.withdrawRecord (k : RecordSlot) : TrailInOrder (withdrawRecord k s) := by
  obtain ⟨p, rfl⟩ | other : (∃ p, k = .parcel p) ∨ ∀ p, k ≠ .parcel p := by cases k <;> simp
  · exact h.endParcel p false
  · rw [withdrawRecord_eq other]
    have removed := h.told (versionRemoved_sameTrail k s)
    cases k
    case vessel => exact removed.holdTanks _
    case settings => exact removed.settingsChanged
    all_goals exact removed

theorem TrailInOrder.auditStep (k : RecordSlot) : TrailInOrder (auditStep k s) := by
  unfold Machine.auditStep
  split
  · exact h
  next v _ =>
    split
    · exact h
    · have suspect := h.told (suspected_sameTrail k v s)
      show TrailInOrder (tellSuspect k (suspected k v s))
      cases k
      case vessel => exact suspect.holdTanks _
      case parcel p => exact suspect.holdTanks _
      case settings => exact suspect.settingsChanged
      all_goals exact suspect

/-! ### Parcel slots (R36, R110 to R133) -/

theorem TrailInOrder.announce (p : Fin 6) (d : StateDetail) : TrailInOrder (announce p d s) :=
  h.handedOff (announce_handedOff p d s)

theorem TrailInOrder.change (p : Fin 6) (d : StateDetail) (v : Parcel) :
    TrailInOrder (Machine.announce p d (setParcel p v s)) := h.handedOff (announce_setParcel_handedOff p d v s)

theorem TrailInOrder.enterProposed (p : Fin 6) (r : ParcelRecord) : TrailInOrder (enterProposed p r s) := by
  obtain ⟨-, -, handed⟩ := enterProposed_handedOff p r s
  exact h.handedOff handed

theorem TrailInOrder.enterForce (k : RecordSlot) (v : PendingVersion) : TrailInOrder (enterForce k v s) := by
  have entered := h.told (versionEntered_sameTrail k v s)
  rw [enterForce_eq]
  unfold tellEntered
  split
  · exact entered.computeTanks _
  · exact entered.computeTank _
  · exact entered.computeTank _
  next p r _ =>
    split
    · obtain ⟨-, handed⟩ := enterDefined_handedOff p r (versionEntered (.parcel p) v s)
      exact entered.handedOff handed
    · exact entered.computeTanks _
  · exact entered.settingsChanged
  · exact entered

theorem TrailInOrder.openParcel (p : Fin 6) : TrailInOrder (openParcel p s) := by
  unfold Machine.openParcel
  split
  · exact h
  next r _ =>
    cases r.meter with
    | none => exact h.change p _ _
    | some m => exact TrailInOrder.announce (s := openChannel p m (setParcel p _ s)) h p _

theorem TrailInOrder.closeParcel (p : Fin 6) : TrailInOrder (closeParcel p s) := by
  unfold Machine.closeParcel
  split
  · refine TrailInOrder.change (h.same ?_) p _ _
    rw [sampleAtClose_frame]
    exact ⟨rfl, rfl⟩
  · exact h

theorem TrailInOrder.abandonParcel (p : Fin 6) (b : Bool) : TrailInOrder (abandonParcel p b s) := by
  unfold Machine.abandonParcel
  split
  · exact h.rejectPending _ _ _
  · exact h.change p _ _

theorem TrailInOrder.callClearParcel (p : Fin 6) : TrailInOrder (callClearParcel p s) := by
  have emptied : TrailInOrder (setSlot (.parcel p) .reset s) := h
  have removed : TrailInOrder (callClearParcel.removed p s) :=
    ((emptied.announceFree_empty p (s.boundMeter p) false).giveWrite _ _).giveWrite _ _
  unfold Machine.callClearParcel
  split
  · exact removed
  · exact removed
  · exact h

theorem TrailInOrder.callClear : TrailInOrder (callClear s) := by
  have parcels : TrailInOrder (allParcels.foldl (fun w p => Machine.callClearParcel p w) s) :=
    foldl_keeps (P := TrailInOrder) (fun _ p hw => hw.callClearParcel p) allParcels h
  have slots : TrailInOrder (clearSlots s) := parcels.same (slotsEmptied_foldl nodup_vesselSlots _).sameTrail
  rw [callClear_eq]
  exact slots.told (clearRest_sameTrail _ _)

theorem TrailInOrder.stopTransfers (line : Link) : TrailInOrder (stopTransfers line s) := by
  have suspended : ∀ w p, TrailInOrder w → TrailInOrder (suspendByLine line p w) := fun w p hw => by
    unfold suspendByLine
    split
    · exact hw.change p _ _
    · exact hw
  exact TrailInOrder.append (foldl_keeps (P := TrailInOrder) suspended allParcels h) _

theorem TrailInOrder.evaluateParcels (ps : List (Fin 6)) : TrailInOrder (evaluateParcels ps s) := by
  refine foldl_keeps (P := TrailInOrder) (fun w p hw => ?_) ps h
  by_cases live : isLive (w.parcel p).state = true
  · exact hw.told (evaluateParcel_sameTrail live)
  · rwa [evaluateParcel_other live]

/-! ### The load (R205 to R208) -/

theorem TrailInOrder.dropRecord (k : RecordSlot) (r : DropReason) : TrailInOrder (dropRecord k r s) :=
  (h.append _).giveWrite _ _

theorem TrailInOrder.loadRecord (k : RecordSlot) : TrailInOrder (loadRecord k s) := by
  have placed : ∀ d c points, TrailInOrder (placeRecord k d c points s) := fun d c points => by
    unfold placeRecord
    split
    · exact h
    · exact h.dropRecord k _
  unfold Machine.loadRecord
  dsimp only
  split
  · split
    · cases k
      case settings => exact (placed ..).settingsChanged
      all_goals exact placed ..
    · exact h
  · split
    · exact h.dropRecord k _
    · exact h

theorem TrailInOrder.dropParcel (p : Fin 6) : TrailInOrder (dropParcel p s) := by
  have dropped := (h.append (.storeDrop (.parcel p) .checkpointFailed)).giveWrite (.checkpoint p) .removal
  simp only [Machine.dropParcel, discardReloaded]
  split
  · exact TrailInOrder.giveWrite (s := setSlot _ _ _) dropped _ _
  · exact dropped

theorem TrailInOrder.broughtUp (p : Fin 6) (v : Parcel) (r : ParcelRecord) (a : Option AccumulatorSet) :
    TrailInOrder (restoreAccumulators r a (bringUp p v s)) := by
  rw [restoreAccumulators_frame]
  exact h

theorem TrailInOrder.announceRestored (p : Fin 6) (d : StateDetail) : TrailInOrder (announceRestored p d s) :=
  (h.append _).giveWrite _ _

theorem TrailInOrder.loadCheckpoint (p : Fin 6) : TrailInOrder (loadCheckpoint p s) := by
  obtain e | e | e | ⟨r, e⟩ | ⟨r, c, e⟩ | ⟨r, c, e⟩ := loadCheckpoint_cases p s <;> rw [e]
  · exact h
  · exact h.dropParcel p
  · exact (h.append _).giveWrite _ _
  · exact (h.broughtUp p _ _ _).announceRestored p _
  · exact (h.broughtUp p _ _ _).announceRestored p _
  · exact h.broughtUp p _ _ _

theorem TrailInOrder.reportStopLine (l : Link) : TrailInOrder (reportStopLine l s) := by
  unfold Machine.reportStopLine
  split
  · exact h.append _
  · exact h

theorem TrailInOrder.completeLoad : TrailInOrder (completeLoad s) :=
  ((h.reportStopLine .ship).reportStopLine .terminal).same (completeLoad_sameTrail s)

end

end Sys2Proof.Machine
end

section
/-! The trail in order along every request, every event and every step (R160, R161). -/

namespace Sys2Proof.Machine

open Sys2Proof

section

variable {s : State} (h : TrailInOrder s)

include h

/-! ### The owners of record requests -/

theorem TrailInOrder.proposeBegin (l : Link) (payload : List Byte) : TrailInOrder (proposeBeginOwner l payload s).1 := by
  unfold proposeBeginOwner
  split
  · exact h
  refine onSlot_keeps (P := TrailInOrder) h (fun k => ?_) _
  split
  · exact h
  split
  · exact h
  unfold decideProposal
  split
  · exact h
  split
  · show TrailInOrder (takeProposal l k _ _ s)
    unfold takeProposal
    dsimp only
    split
    · split
      · exact h
      · exact TrailInOrder.enterProposed (s := setPending _ _ s) h _ _
    · exact h
  · exact h.setOutcome k _

theorem TrailInOrder.proposeSegment (l : Link) (payload : List Byte) :
    TrailInOrder (proposeSegmentOwner l payload s).1 := by
  unfold proposeSegmentOwner
  split
  · exact h
  refine onSlot_keeps (P := TrailInOrder) h (fun k => ?_) _
  split
  · exact h
  split
  · exact h
  · unfold decideSegment
    split
    · exact h.rejectPending k _ _
    split
    · exact h
    · show TrailInOrder (completeAssembly k _ _ s)
      unfold completeAssembly
      split
      · exact h.rejectPending k _ _
      split
      · exact h
      · exact h.rejectPending k _ _
  · exact h

theorem TrailInOrder.endorse (l : Link) (payload : List Byte) : TrailInOrder (endorseOwner l payload s).1 := by
  unfold endorseOwner
  split
  · exact h
  refine onSlot_keeps (P := TrailInOrder) h (fun k => ?_) _
  split
  · exact h
  · show TrailInOrder (compareEndorsement k _ s)
    unfold compareEndorsement
    split
    · split
      · exact h.enterForce k _
      · exact h.rejectPending k _ _
    · exact h

theorem TrailInOrder.decline (l : Link) (payload : List Byte) : TrailInOrder (declineOwner l payload s).1 := by
  refine onSlot_keeps (P := TrailInOrder) h (fun k => ?_) _
  split
  · exact h
  · exact h.rejectPending k _ _

theorem TrailInOrder.withdrawPending (l : Link) (payload : List Byte) :
    TrailInOrder (withdrawPendingOwner l payload s).1 := by
  refine onSlot_keeps (P := TrailInOrder) h (fun k => ?_) _
  split
  · exact h
  · exact h.rejectPending k _ _

theorem TrailInOrder.withdrawCurrent (l : Link) (payload : List Byte) :
    TrailInOrder (withdrawCurrentOwner l payload s).1 := by
  refine onSlot_keeps (P := TrailInOrder) h (fun k => ?_) _
  split
  · exact h
  · exact h.withdrawRecord k

/-! ### The owners of parcel and link requests -/

/-- A declaration keeps what its step keeps. -/
theorem TrailInOrder.declare {kind : DeclKind} {l : Link} {payload : List Byte} {met : State → Fin 6 → Bool}
    {step : Fin 6 → Bool → State → State} (hstep : ∀ {w : State} p b, TrailInOrder w → TrailInOrder (step p b w)) :
    TrailInOrder (declareParcel kind l payload met step s).1 :=
  declareParcel_keeps h (fun _ => h) fun p b es => hstep (w := setConcurrence es s) p b h

theorem TrailInOrder.declareUnit (l : Link) (payload : List Byte) : TrailInOrder (declareUnit l payload s).1 :=
  declareUnit_keeps h (fun _ => h) fun es => TrailInOrder.callClear (s := setConcurrence es s) h

theorem TrailInOrder.suspend (l : Link) (payload : List Byte) : TrailInOrder (suspendOwner l payload s).1 := by
  refine onParcel_keeps (P := TrailInOrder) h (fun p => ?_) _
  split
  · exact h.change p _ _
  · exact h

theorem TrailInOrder.transferEnd (payload : List Byte) : TrailInOrder (transferEndOwner payload s).1 := by
  refine onParcel_keeps (P := TrailInOrder) h (fun p => ?_) _
  split
  · exact h.change p _ _
  · exact h

theorem TrailInOrder.setLinkParameters (l : Link) (payload : List Byte) :
    TrailInOrder (setLinkParametersOwner l payload s).1 := by
  unfold setLinkParametersOwner
  split
  · exact h
  split
  · exact (h.setLink l _).giveWrite _ _
  · exact h

theorem TrailInOrder.counterReset (l : Link) (payload : List Byte) : TrailInOrder (counterResetOwner l payload s).1 := by
  unfold counterResetOwner
  split
  · exact h.setLink l _
  · exact h

theorem TrailInOrder.postReadings (l : Link) (payload : List Byte) : TrailInOrder (postReadingsOwner l payload s).1 := by
  unfold postReadingsOwner
  split
  · exact h
  split
  · exact h
  · exact h.setLink l _

theorem TrailInOrder.hold (l : Link) (payload : List Byte) : TrailInOrder (holdOwner l payload s).1 := by
  unfold holdOwner
  split
  · exact h.setLink l _
  · exact h

theorem TrailInOrder.releaseHold (l : Link) (payload : List Byte) : TrailInOrder (releaseHoldOwner l payload s).1 := by
  unfold releaseHoldOwner
  repeat' split
  · exact h.setLink l _
  · exact h
  · exact h

/-! ### The requests -/

/-- A request's frame appends a record where it restores the link (R185), and its owner does the rest. -/
theorem TrailInOrder.request {owner : State → State × Reply} {ready : Readiness}
    (howner : ∀ w, TrailInOrder w → TrailInOrder (owner w).1) (l : Link) (code tag : Byte) (payload : List Byte)
    (counted : Bool) : NextIs TrailInOrder (.next (takeRequest l code tag payload counted ready owner s)) :=
  (nextIs_next _ _).2 (takeRequest_keeps (P := TrailInOrder) (fun l u _ hw => hw.setLink l u) (fun b _ hw => hw.append b)
    (fun w _ hw => howner w hw) l code tag payload counted h)

/-- A request whose owner leaves the state. -/
theorem TrailInOrder.request_same {owner : State → State × Reply} {ready : Readiness} (same : ∀ w, (owner w).1 = w)
    (l : Link) (code tag : Byte) (payload : List Byte) (counted : Bool) :
    NextIs TrailInOrder (.next (takeRequest l code tag payload counted ready owner s)) :=
  h.request (fun w hw => by rwa [same]) l code tag payload counted

theorem TrailInOrder.exec_request {c : Instr} {r : Request} (hc : requestOf c = some r) :
    NextIs TrailInOrder (exec c s) := by
  cases c
  case status l tag payload => exact h.request_same (status_same payload) l _ tag payload _
  case counterReset l tag payload => exact h.request (fun _ hw => hw.counterReset l payload) l _ tag payload _
  case setLinkParameters l tag payload => exact h.request (fun _ hw => hw.setLinkParameters l payload) l _ tag payload _
  case postReadings l tag payload => exact h.request (fun _ hw => hw.postReadings l payload) l _ tag payload _
  case proposeBegin l tag payload => exact h.request (fun _ hw => hw.proposeBegin l payload) l _ tag payload _
  case proposeSegment l tag payload => exact h.request (fun _ hw => hw.proposeSegment l payload) l _ tag payload _
  case endorse l tag payload => exact h.request (fun _ hw => hw.endorse l payload) l _ tag payload _
  case decline l tag payload => exact h.request (fun _ hw => hw.decline l payload) l _ tag payload _
  case withdrawPending l tag payload => exact h.request (fun _ hw => hw.withdrawPending l payload) l _ tag payload _
  case withdrawCurrent l tag payload => exact h.request (fun _ hw => hw.withdrawCurrent l payload) l _ tag payload _
  case readRecordState l tag payload => exact h.request_same (readRecordState_same l payload) l _ tag payload _
  case declareOpen l tag payload =>
    exact h.request (fun _ hw => hw.declare fun p _ hv => hv.openParcel p) l _ tag payload _
  case declareResume l tag payload =>
    exact h.request (fun _ hw => hw.declare fun p _ hv => hv.change p _ _) l _ tag payload _
  case declareClose l tag payload =>
    exact h.request (fun _ hw => hw.declare fun p _ hv => hv.closeParcel p) l _ tag payload _
  case declareAbandon l tag payload =>
    exact h.request (fun _ hw => hw.declare fun p b hv => hv.abandonParcel p b) l _ tag payload _
  case declareRelease l tag payload =>
    exact h.request (fun _ hw => hw.declare fun p b hv => hv.endParcel p b) l _ tag payload _
  case declareCallClear l tag payload => exact h.request (fun _ hw => hw.declareUnit l payload) l _ tag payload _
  case suspend l tag payload => exact h.request (fun _ hw => hw.suspend l payload) l _ tag payload _
  case transferEnd l tag payload => exact h.request (fun _ hw => hw.transferEnd payload) l _ tag payload _
  case readTank l tag payload => exact h.request_same (readTank_same l payload) l _ tag payload _
  case readParcel l part tag payload => exact h.request_same (readParcel_same l part payload) l _ tag payload _
  case readFinal l part tag payload => exact h.request_same (readFinal_same part payload) l _ tag payload _
  case readTrail l tag payload => exact h.request_same (readTrail_same payload) l _ tag payload _
  case hold l tag payload => exact h.request (fun _ hw => hw.hold l payload) l _ tag payload _
  case releaseHold l tag payload => exact h.request (fun _ hw => hw.releaseHold l payload) l _ tag payload _
  case unknownRequest l code selector tag payload =>
    simp only [exec, execUnknownRequest]
    split
    · exact (nextIs_next _ _).2 h
    · exact h.request_same (fun _ => rfl) l code tag payload _
  all_goals cases hc

/-! ### The engine (R56 to R60) -/

theorem TrailInOrder.takeTank (l : Link) (x : TankId) (f : TankFields) (arrival : Clock) :
    TrailInOrder (takeTank l x f arrival s) := by
  unfold Machine.takeTank
  split
  · exact TrailInOrder.computeTank (s := setTank x _ s) h x
  · exact h.setLink l _

theorem TrailInOrder.takeLine (l : Link) (m : Fin 4) (t : Int) (arrival : Clock) :
    TrailInOrder (takeLine l m t arrival s) := by
  unfold Machine.takeLine
  split
  · exact h
  · exact h.setLink l _

theorem TrailInOrder.takeCondition (f : ConditionFields) (arrival : Clock) : TrailInOrder (takeCondition f arrival s) :=
  TrailInOrder.computeTanks (s := setShipCondition (some { fields := f, arrival }) s) h shipTankIds

theorem TrailInOrder.execTakeTankReading : NextIs TrailInOrder (execTakeTankReading s) := by
  have taken : ∀ l, TrailInOrder (removeHead l s) := fun l => h.setLink l _
  unfold Machine.execTakeTankReading
  repeat' split
  all_goals rw [nextIs_next]
  · exact (taken _).takeTank ..
  · exact (taken _).takeTank ..
  · exact h
  · exact h

theorem TrailInOrder.execTakeShipCondition : NextIs TrailInOrder (execTakeShipCondition s) := by
  have taken : ∀ l, TrailInOrder (removeHead l s) := fun l => h.setLink l _
  unfold Machine.execTakeShipCondition
  repeat' split
  all_goals rw [nextIs_next]
  · exact (taken _).takeCondition ..
  · exact h
  · exact h

theorem TrailInOrder.execTakeLineConditions : NextIs TrailInOrder (execTakeLineConditions s) := by
  have taken : ∀ l, TrailInOrder (removeHead l s) := fun l => h.setLink l _
  unfold Machine.execTakeLineConditions
  repeat' split
  all_goals rw [nextIs_next]
  · exact (taken _).takeLine ..
  · exact h
  · exact h

/-! ### The commands of the load (R205 to R208) -/

theorem TrailInOrder.execStoreLoadRecord : NextIs TrailInOrder (execStoreLoadRecord s) := by
  unfold Machine.execStoreLoadRecord
  repeat' split
  all_goals rw [nextIs_next]
  · exact h.loadRecord _
  · exact h
  · exact h

theorem TrailInOrder.execStoreLoadLinkParameters : NextIs TrailInOrder (execStoreLoadLinkParameters s) := by
  have loaded : ∀ l, TrailInOrder (loadLinkParameters l s) := fun l => by
    unfold loadLinkParameters
    repeat' split
    · exact h.setLink l _
    · exact h
    · exact h
  unfold Machine.execStoreLoadLinkParameters
  repeat' split
  all_goals rw [nextIs_next]
  · exact loaded _
  · exact h
  · exact h

theorem TrailInOrder.execStoreLoadCheckpoint : NextIs TrailInOrder (execStoreLoadCheckpoint s) := by
  unfold Machine.execStoreLoadCheckpoint
  repeat' split
  all_goals rw [nextIs_next]
  · unfold afterCheckpoint
    split
    · exact h.loadCheckpoint _
    · exact (h.loadCheckpoint _).completeLoad
  · exact h
  · exact h

/-! ### Events of a link (R172, R174, R178 to R185) -/

theorem TrailInOrder.faultyFrame (l : Link) (f : FrameFault) : TrailInOrder (faultyFrame l f s) := by
  cases f <;> exact h.setLink l _

theorem TrailInOrder.execIdleGapInFrame (l : Link) : NextIs TrailInOrder (execIdleGapInFrame l s) := by
  unfold Machine.execIdleGapInFrame
  repeat' split
  all_goals rw [nextIs_next]
  · exact h
  · exact h.setLink l _
  · exact (h.faultyFrame l .length).setLink l _

theorem TrailInOrder.execIdleGap (l : Link) : NextIs TrailInOrder (execIdleGap l s) := by
  unfold Machine.execIdleGap
  split <;> rw [nextIs_next]
  · exact h
  · exact h.setLink l _

theorem TrailInOrder.execResponseSend (l : Link) : NextIs TrailInOrder (execResponseSend l s) := by
  unfold Machine.execResponseSend
  split <;> rw [nextIs_next]
  · exact h.setLink l _
  · exact h

theorem TrailInOrder.execResponseSent (l : Link) : NextIs TrailInOrder (execResponseSent l s) := by
  unfold Machine.execResponseSent
  split <;> rw [nextIs_next]
  · exact h.setLink l _
  · exact h

theorem TrailInOrder.execHoldTimerExpiry (l : Link) : NextIs TrailInOrder (execHoldTimerExpiry l s) := by
  unfold Machine.execHoldTimerExpiry
  split <;> rw [nextIs_next]
  · exact (h.setLink l { s.link l with hold := none }).setLink l _
  · exact h

theorem TrailInOrder.execSilenceTimeout (l : Link) : NextIs TrailInOrder (execSilenceTimeout l s) := by
  unfold Machine.execSilenceTimeout
  split <;> rw [nextIs_next]
  · exact h
  · exact h.silenceTest l

/-! ### Stop lines (R132, R133) -/

theorem TrailInOrder.setStopLine (l : Link) (b : Bool) : TrailInOrder (setStopLine l b s) :=
  h.same ⟨setStopLine_trail .., setStopLine_newest ..⟩

theorem TrailInOrder.execStopLineAsserted (l : Link) : NextIs TrailInOrder (execStopLineAsserted l s) := by
  unfold Machine.execStopLineAsserted
  split <;> rw [nextIs_next]
  · exact h
  split
  · exact (h.setStopLine l true).stopTransfers l
  · exact h.setStopLine l true

theorem TrailInOrder.execStopLineCleared (l : Link) : NextIs TrailInOrder (execStopLineCleared l s) := by
  unfold Machine.execStopLineCleared
  split <;> rw [nextIs_next]
  · exact h
  split
  · exact (h.setStopLine l false).append _
  · exact h.setStopLine l false

/-! ### Every event and every step -/

theorem TrailInOrder.advanceWalk (i : Fin 60) : TrailInOrder (advanceWalk i s) := by
  unfold Machine.advanceWalk
  split <;> exact h

theorem TrailInOrder.intervalStarted : TrailInOrder (startInterval (setAlarm s)) := h

theorem TrailInOrder.completeWrite : TrailInOrder (completeWrite s) := by
  unfold Machine.completeWrite
  split
  · exact h
  · exact TrailInOrder.same (s := s) h ⟨startWrite_trail _, startWrite_newest _⟩

theorem TrailInOrder.takeSample (m : Fin 4) : TrailInOrder (takeSample m s) := by
  rw [takeSample_frame]
  exact h

theorem TrailInOrder.exec_event {c : Instr} (hc : requestOf c = none) : NextIs TrailInOrder (exec c s) := by
  cases c
  case damagedFrame l f =>
    refine (nextIs_next _ _).2 ?_
    split
    · exact h.faultyFrame l f
    · exact h
  case overrun l =>
    refine (nextIs_next _ _).2 ?_
    split
    · exact h.setLink l _
    · exact h
  case idleGapInFrame l => exact h.execIdleGapInFrame l
  case idleGap l => exact h.execIdleGap l
  case responseSend l => exact h.execResponseSend l
  case responseSent l => exact h.execResponseSent l
  case holdTimerExpiry l => exact h.execHoldTimerExpiry l
  case silenceTimeout l => exact h.execSilenceTimeout l
  case takeTankReading => exact h.execTakeTankReading
  case takeShipCondition => exact h.execTakeShipCondition
  case takeLineConditions => exact h.execTakeLineConditions
  case assemblyTimeout k =>
    refine (nextIs_next _ _).2 ?_
    split
    · exact h.rejectPending k _ _
    · exact h
  case auditTimerExpiry =>
    refine (nextIs_next _ _).2 ?_
    split
    · exact (TrailInOrder.auditStep (s := setAuditTimer none s) h .vessel).advanceWalk 0
    · exact h
  case auditWalkStep =>
    refine (nextIs_next _ _).2 ?_
    split
    next i _ => exact (h.auditStep (slotAt i)).advanceWalk i
    next => exact h
  case sampleTimerExpiry m =>
    refine (nextIs_next _ _).2 ?_
    split
    · exact h.takeSample m
    · exact h
  case intervalTimerExpiry =>
    refine (nextIs_next _ _).2 ?_
    split
    · exact (h.evaluateParcels allParcels).intervalStarted
    · exact h
  case settleTimerExpiry p =>
    simp only [exec, execSettleTimerExpiry]
    split <;> exact (nextIs_next _ _).2 h
  case declarationLapse subject kind =>
    simp only [exec, execDeclarationLapse]
    split <;> rw [nextIs_next]
    · exact TrailInOrder.append (s := removeEntry subject kind s) h _
    · exact h
  case meterPulse m =>
    simp only [exec, execMeterPulse]
    split <;> exact (nextIs_next _ _).2 h
  case stopLineAsserted l => exact h.execStopLineAsserted l
  case stopLineCleared l => exact h.execStopLineCleared l
  case fullResetBegin cause =>
    obtain ⟨-, cleared, -⟩ := resetMeetsInvariants
    refine (nextIs_next _ _).2 ?_
    split
    · exact h
    · exact cleared.same ⟨rfl, rfl⟩
  case fullResetEnd =>
    refine (nextIs_next _ _).2 ?_
    split <;> exact h
  case storeLoadStart =>
    refine (nextIs_next _ _).2 ?_
    split
    · exact h.append _
    · exact h
  case storeLoadRecord => exact h.execStoreLoadRecord
  case storeLoadLinkParameters => exact h.execStoreLoadLinkParameters
  case storeLoadCheckpoint => exact h.execStoreLoadCheckpoint
  case storeWriteComplete => exact (nextIs_next _ _).2 h.completeWrite
  case unknownRequest l code selector tag payload =>
    simp only [requestOf] at hc
    simp only [exec, execUnknownRequest]
    split at hc
    next defined => rw [if_pos defined, nextIs_next]; exact h
    next => cases hc
  all_goals cases hc

theorem TrailInOrder.tickClock : TrailInOrder (tickClock s) := by
  unfold Machine.tickClock
  split <;> exact h

end

theorem exec_keepsTrail (c : Instr) (s : State) (h : TrailInOrder s) : NextIs TrailInOrder (exec c s) := by
  cases hc : requestOf c with
  | some r => exact h.exec_request hc
  | none => exact h.exec_event hc

/-- Settles O55: a command appends records one by one or leaves the trail as it stands; a full reset empties it. -/
theorem trailStaysInOrder : Obligations.TrailStaysInOrder := fun _ _ hs h =>
  step_keeps exec_keepsTrail (fun _ _ hw => hw) (fun _ hw => hw.tickClock) hs h

end Sys2Proof.Machine
end

section
/-! READ TRAIL (R161, R165, R194): the records from a start on, of a trail in order. -/

namespace Sys2Proof.Machine

open Sys2Proof

/-! ### The records from a start on -/

/-- Of records with ascending consecutive keys, those from `start` on are the rest after the ones below it. -/
theorem filter_le_eq_drop {α : Type} (key : α → Nat) (start : Nat) {xs : List α} {a n : Nat}
    (keys : xs.map key = List.range' a n) : (xs.filter fun x => decide (start ≤ key x)) = xs.drop (start - a) := by
  induction xs generalizing a n with
  | nil => rw [List.drop_nil, List.filter_nil]
  | cons x xs ih =>
    cases n with
    | zero => cases keys
    | succ n =>
      rw [List.map_cons, List.range'_succ, List.cons.injEq] at keys
      obtain ⟨first, rest⟩ := keys
      rw [List.filter_cons, ih rest, first]
      by_cases reached : start ≤ a
      · have here : start - a = 0 := by omega
        have next : start - (a + 1) = 0 := by omega
        simp [reached, here, next]
      · have skip : start - a = start - (a + 1) + 1 := by omega
        simp [reached, skip]

theorem take_range'_eq (k a n : Nat) : (List.range' a n).take k = List.range' a (min k n) := by
  obtain short | long := le_total k n
  · rw [List.take_range'_of_length_ge short, min_eq_left short]
  · rw [List.take_range'_of_length_le long, min_eq_right long]

section

variable {s : State} (h : TrailInOrder s)

include h

theorem TrailInOrder.takeFrame (l : Link) (counted : Bool) : TrailInOrder (takeFrame l counted s) := by
  have parts := takeFrame_trail_eq l counted s
  split at parts <;> obtain ⟨trail, newest⟩ := Prod.mk.inj parts
  · exact h.told ⟨trail, newest⟩
  · exact h.same ⟨trail, newest⟩

theorem TrailInOrder.oldest : s.oldest = s.newest - s.trail.length + 1 := by
  obtain ⟨-, -, -, seqs⟩ := h
  unfold State.oldest
  cases trail : s.trail with
  | nil => rfl
  | cons r t =>
    rw [trail, List.map_cons, List.length_cons, List.range'_succ] at seqs
    exact (List.cons.inj seqs).1

theorem TrailInOrder.trailFrom (start count : Nat) :
    s.trailFrom start count = (s.trail.drop (start - s.oldest)).take count := by
  rw [State.trailFrom, h.oldest]
  obtain ⟨-, -, -, seqs⟩ := h
  exact congrArg (List.take count) (filter_le_eq_drop TrailRecord.seq start seqs)

theorem TrailInOrder.trailFrom_seqs (start count : Nat) :
    (s.trailFrom start count).map (fun r => r.seq) =
      List.range' (max start s.oldest) (min count (s.newest + 1 - max start s.oldest)) := by
  rw [h.trailFrom, h.oldest]
  obtain ⟨-, least, -, seqs⟩ := h
  have first : s.newest - s.trail.length + 1 + (start - (s.newest - s.trail.length + 1)) =
      max start (s.newest - s.trail.length + 1) := by omega
  have left : s.trail.length - (start - (s.newest - s.trail.length + 1)) =
      s.newest + 1 - max start (s.newest - s.trail.length + 1) := by omega
  rw [List.map_take, List.map_drop, seqs, List.drop_range', take_range'_eq, Nat.mul_one, first, left]

/-- The READ TRAIL body of a trail in order (R194): its first sequence is 0 with no records (log 12). -/
theorem TrailInOrder.readTrailBody (start count : Nat) :
    s.readTrailBody start count =
      leBytes 4 s.newest ++ leBytes 4 s.oldest
        ++ leBytes 4 (if s.trailFrom start count = [] then 0 else max start s.oldest)
        ++ leBytes 1 (s.trailFrom start count).length ++ [if start < s.oldest then 1 else 0]
        ++ (s.trailFrom start count).flatMap trailRecordBytes := by
  have seqs := h.trailFrom_seqs start count
  have gap : flagByte (s.trailGap start) = if start < s.oldest then 1 else 0 := by simp [flagByte, State.trailGap]
  unfold State.readTrailBody
  rw [gap]
  generalize s.trailFrom start count = records at seqs
  cases records with
  | nil => rfl
  | cons r rs =>
    have first : r.seq = max start s.oldest := by
      cases n : min count (s.newest + 1 - max start s.oldest) with
      | zero => rw [n] at seqs; cases seqs
      | succ n' =>
        rw [n, List.map_cons, List.range'_succ] at seqs
        exact (List.cons.inj seqs).1
    rw [if_neg (List.cons_ne_nil r rs), ← first]

end

/-! ### The answers -/

theorem parseReadTrail_none (payload : List Byte) : parseReadTrail payload = none ↔ payload.length ≠ 5 := by
  unfold parseReadTrail
  split
  · simp
  next unlaid =>
    refine ⟨fun _ five => ?_, fun _ => rfl⟩
    match payload, five, unlaid with
    | [a, b, c, d, e], _, unlaid => exact unlaid a b c d e rfl

theorem inRange_iff (lo hi n : Nat) : inRange lo hi n = true ↔ lo ≤ n ∧ n ≤ hi := by simp [inRange]

section

variable {payload : List Byte} {start count : Nat} (parsed : parseReadTrail payload = some (start, count)) {s : State}

include parsed

theorem readTrailOwner_range (outside : ¬(1 ≤ count ∧ count ≤ 4)) : readTrailOwner payload s = (s, bare .range) := by
  rw [← inRange_iff] at outside
  simp only [readTrailOwner, parsed, if_neg outside]
  rfl

theorem readTrailOwner_ahead (least : 1 ≤ count) (most : count ≤ 4) (ahead : s.newest + 1 < start) :
    readTrailOwner payload s = (s, bare .seqAhead) := by
  have within := (inRange_iff 1 4 count).2 ⟨least, most⟩
  simp only [readTrailOwner, parsed, if_pos within, if_neg (Nat.not_le.2 ahead)]
  rfl

theorem readTrailOwner_done (least : 1 ≤ count) (most : count ≤ 4) (reached : start ≤ s.newest + 1) :
    readTrailOwner payload s = (s, doneWith (s.readTrailBody start count)) := by
  have within := (inRange_iff 1 4 count).2 ⟨least, most⟩
  simp only [readTrailOwner, parsed, if_pos within, if_pos reached]

end

theorem readTrailOwner_unlaid {payload : List Byte} (unlaid : payload.length ≠ 5) (s : State) :
    readTrailOwner payload s = (s, bare .format) := by
  simp only [readTrailOwner, (parseReadTrail_none payload).2 unlaid]
  rfl

theorem exec_readTrail {l : Link} {tag : Byte} {payload : List Byte} {s : State} {reply : Reply}
    (h : ReadyRunning l payload s) (hr : readTrailOwner payload (takeFrame l false s) = (takeFrame l false s, reply)) :
    exec (.readTrail l tag payload) s = .next (answered l 0x40 tag reply.result reply.body (takeFrame l false s)) := by
  show Host.Outcome.next (takeRequest _ _ _ _ _ _ _ _) = _
  rw [takeRequest_running h, hr]

/-- Settles O48: the answer by the first check that fails, and the records by the sequence numbers of a trail in order. -/
theorem trailRead : Obligations.TrailRead := by
  refine ⟨fun l tag payload s start count ready order parsed => ?_, fun l tag payload s ready =>
    ⟨parseReadTrail_none payload, fun unlaid => exec_readTrail ready (readTrailOwner_unlaid unlaid _)⟩⟩
  intro u oldest
  have frame : TrailInOrder u := order.takeFrame l false
  have first : u.oldest = oldest := frame.oldest
  refine ⟨fun outside => exec_readTrail ready (readTrailOwner_range parsed outside),
    fun least most ahead => exec_readTrail ready (readTrailOwner_ahead parsed least most ahead),
    fun least most reached => ⟨u.trailFrom start count, ?_, ?_, ?_⟩⟩
  · rw [frame.trailFrom, first]
  · rw [frame.trailFrom_seqs, first]
  · rw [← first, ← frame.readTrailBody]
    exact exec_readTrail ready (readTrailOwner_done parsed least most reached)

end Sys2Proof.Machine
end

section
/-! HOLD and RELEASE HOLD (R167 to R171): the copy a link takes, and the reads of a link without one. -/

namespace Sys2Proof.Machine

open Sys2Proof

/-! ### The copy of a HOLD -/

/-- The copy holds each tank, the ship condition and each parcel as a read of live state reports them (R167, R168). -/
theorem holdCopy_views (s : State) (l : Link) :
    (∀ x, (s.holdCopy l).tanks.get (tankIndex x) = s.tankView x) ∧ (s.holdCopy l).condition = s.conditionView
      ∧ ∀ p, (s.holdCopy l).parcels.get p = s.parcelView p := by
  refine ⟨fun x => ?_, rfl, fun p => vector_get_ofFn s.parcelView p⟩
  rw [State.holdCopy, vector_get_ofFn, tankAt_tankIndex]

theorem exec_hold {l : Link} {tag : Byte} {payload : List Byte} {s w : State} {r : ResultCode} {body : List Byte}
    (h : ReadyRunning l payload s) (ho : holdOwner l payload (takeFrame l true s) = (w, ⟨r, body⟩)) :
    exec (.hold l tag payload) s = .next (answered l 0x48 tag r body w) :=
  congrArg Host.Outcome.next (takeRequest_answers h ho 0x48 tag)

/-- Settles O13: the copy is that of the state after the frame, which alters nothing that a read reports. -/
theorem holdTaken : Obligations.HoldTaken := by
  intro l tag payload s ready u
  have time : u.clock = s.clock := takeFrame_clock l true s
  have timeout : (u.link l).holdTimeout = (s.link l).holdTimeout := takeFrame_holdTimeout l true s
  obtain ⟨tanks, condition, parcels⟩ := holdCopy_views u l
  refine ⟨fun empty => ⟨u.holdCopy l, time, timeout, fun x => ?_, ?_, fun p => ?_, ?_⟩, fun carried => ?_⟩
  · exact (tanks x).trans (takeFrame_tankView l true s x)
  · exact condition.trans (takeFrame_conditionView l true s)
  · exact (parcels p).trans (takeFrame_parcelView l true s p)
  · rw [← time, ← timeout]
    refine exec_hold ready ?_
    rw [empty]
    rfl
  · refine exec_hold ready ?_
    rw [holdOwner, if_neg (by simpa using carried)]
    rfl

/-! ### Reads of a link without a copy -/

/-- The reads of a link that holds no copy are answered from live state (R169). -/
theorem reads_live {t : State} {l : Link} (released : (t.link l).hold = none) :
    t.readHead l = liveHead ∧ (∀ p, t.readParcelView l p = t.parcelView p) ∧ ∀ x, t.readTankView l x = t.tankView x := by
  simp [State.readHead, State.readParcelView, State.readTankView, released]

theorem exec_releaseHold {l : Link} {tag : Byte} {payload : List Byte} {s w : State} {r : ResultCode} {body : List Byte}
    (h : ReadyRunning l payload s) (ho : releaseHoldOwner l payload (takeFrame l true s) = (w, ⟨r, body⟩)) :
    exec (.releaseHold l tag payload) s = .next (answered l 0x49 tag r body w) :=
  congrArg Host.Outcome.next (takeRequest_answers h ho 0x49 tag)

/-- Settles O14: the owner's answer by the first check that fails, and past them the reads by the copy that is gone. -/
theorem holdReleased : Obligations.HoldReleased := by
  intro l tag payload s ready u
  have hold : (u.link l).hold = (s.link l).hold := takeFrame_hold l true s
  refine ⟨fun starting => congrArg Host.Outcome.next (takeRequest_starting ready starting ..),
    fun running carried => exec_releaseHold ⟨running, ready⟩ ?_,
    fun running empty none => exec_releaseHold ⟨running, ready⟩ ?_,
    fun running empty holds => ⟨_, exec_releaseHold ⟨running, ready⟩ (w := dropHold l u) ?_, rfl, ?_, ?_, ?_⟩⟩
  · rw [releaseHoldOwner, if_neg (by simpa using carried)]
    rfl
  · have idle : (u.link l).hold.isSome = false := by rw [hold, none]; rfl
    subst empty
    show (if (u.link l).hold.isSome then _ else _) = _
    rw [idle]
    rfl
  · have held : (u.link l).hold.isSome = true := by rwa [hold, Option.isSome_iff_ne_none]
    subst empty
    show (if (u.link l).hold.isSome then _ else _) = _
    rw [if_pos held]
    rfl
  · simp [answered, dropHold, u]
  · simp [SameTrail, answered, dropHold]
  · exact reads_live (by simp [answered, dropHold])

end Sys2Proof.Machine
end

section
/-! Refused requests (R25, R28, R34, R37 to R39, R51, R114, R178, R180, R189): whoever decides a request and refuses it
leaves the state it decided in. -/

namespace Sys2Proof.Machine

open Sys2Proof

/-- What was decided in state `s` leaves `s` as it stands where it is a refusal (R189). -/
def RefusalKeeps (s : State) (out : State × Reply) : Prop := isRefusal out.2.result = true → out.1 = s

section

variable {s : State}

theorem refusalKeeps_same (r : Reply) : RefusalKeeps s (s, r) := fun _ => rfl

theorem refusalKeeps_taken {w : State} {r : Reply} (taken : isRefusal r.result = false) : RefusalKeeps s (w, r) :=
  fun refused => absurd refused (by simp [taken])

/-! ### Requests that name a slot -/

theorem onSlot_refusalKeeps {f : RecordSlot → State → State × Reply} (hf : ∀ k, RefusalKeeps s (f k s))
    (identifier : Option Byte) : RefusalKeeps s (onSlot identifier f s) := by
  unfold onSlot
  split
  · exact refusalKeeps_same _
  · split
    · exact refusalKeeps_same _
    · exact hf _

theorem onParcel_refusalKeeps {f : Fin 6 → State → State × Reply} (hf : ∀ p, RefusalKeeps s (f p s))
    (payload : List Byte) : RefusalKeeps s (onParcel payload f s) := by
  unfold onParcel
  split
  · exact refusalKeeps_same _
  · split
    · exact refusalKeeps_same _
    · exact hf _

/-- Whatever the checks of a record request refuse leaves the state, and past them the request is taken. -/
theorem decided_refusalKeeps (l : Link) (k : RecordSlot) (refusal : Option ResultCode) {taken : State × Reply}
    (h : RefusalKeeps s taken) : RefusalKeeps s (decided l k refusal taken s) := by
  cases refusal with
  | none => exact h
  | some c => exact refusalKeeps_same _

/-! ### The owners of record requests -/

theorem decideProposal_refusalKeeps (l : Link) (k : RecordSlot) (b : BeginLayout) (c : Content) :
    RefusalKeeps s (decideProposal l k b c s) := by
  unfold decideProposal
  split
  · exact refusalKeeps_taken rfl
  · split <;> exact refusalKeeps_taken rfl

theorem proposeBegin_refusalKeeps (l : Link) (payload : List Byte) :
    RefusalKeeps s (proposeBeginOwner l payload s) := by
  unfold proposeBeginOwner
  split
  · exact refusalKeeps_same _
  · refine onSlot_refusalKeeps (fun k => ?_) _
    split
    · exact refusalKeeps_same _
    · exact decided_refusalKeeps l k _ (decideProposal_refusalKeeps l k _ _)

theorem decideSegment_refusalKeeps (l : Link) (k : RecordSlot) (v : PendingVersion) (g : SegmentLayout) :
    RefusalKeeps s (decideSegment l k v g s) := by
  unfold decideSegment
  split
  · exact refusalKeeps_taken rfl
  · split <;> exact refusalKeeps_taken rfl

theorem proposeSegment_refusalKeeps (l : Link) (payload : List Byte) :
    RefusalKeeps s (proposeSegmentOwner l payload s) := by
  unfold proposeSegmentOwner
  split
  · exact refusalKeeps_same _
  · refine onSlot_refusalKeeps (fun k => ?_) _
    split
    · exact refusalKeeps_same _
    split
    · exact refusalKeeps_same _
    · exact decideSegment_refusalKeeps l k _ _
    · exact refusalKeeps_same _

theorem endorse_refusalKeeps (l : Link) (payload : List Byte) : RefusalKeeps s (endorseOwner l payload s) := by
  unfold endorseOwner
  split
  · exact refusalKeeps_same _
  · refine onSlot_refusalKeeps (fun k => ?_) _
    exact decided_refusalKeeps l k (s.endorseRefusal l k) (refusalKeeps_taken rfl)

theorem decline_refusalKeeps (l : Link) (payload : List Byte) : RefusalKeeps s (declineOwner l payload s) :=
  onSlot_refusalKeeps (fun k => decided_refusalKeeps l k (s.counterRefusal l k) (refusalKeeps_taken rfl)) _

theorem withdrawPending_refusalKeeps (l : Link) (payload : List Byte) :
    RefusalKeeps s (withdrawPendingOwner l payload s) :=
  onSlot_refusalKeeps (fun k => decided_refusalKeeps l k (s.withdrawPendingRefusal l k) (refusalKeeps_taken rfl)) _

theorem withdrawCurrent_refusalKeeps (l : Link) (payload : List Byte) :
    RefusalKeeps s (withdrawCurrentOwner l payload s) :=
  onSlot_refusalKeeps (fun k => decided_refusalKeeps l k (s.withdrawCurrentRefusal l k) (refusalKeeps_taken rfl)) _

/-! ### The owners of parcel requests -/

theorem unilateralStep_refusalKeeps (subject : Subject) (kind : DeclKind) (l : Link) (step : Bool → State → State) :
    RefusalKeeps s (decideDeclaration.unilateralStep subject kind l step s) := by
  unfold decideDeclaration.unilateralStep
  split
  · exact refusalKeeps_taken rfl
  · exact refusalKeeps_same _

/-- A declaration that the table or its step refuses leaves table and unit (R115, R116). -/
theorem decideDeclaration_refusalKeeps (subject : Subject) (kind : DeclKind) (l : Link) (unilateral met : Bool)
    (step : Bool → State → State) : RefusalKeeps s (decideDeclaration subject kind l unilateral met step s) := by
  unfold decideDeclaration
  split
  next entered =>
    split
    next second =>
      split
      · exact refusalKeeps_taken rfl
      · exact refusalKeeps_same _
    next again =>
      split
      · exact unilateralStep_refusalKeeps subject kind l step
      · exact refusalKeeps_same _
  next first =>
    split
    · exact unilateralStep_refusalKeeps subject kind l step
    · exact refusalKeeps_taken rfl

theorem declareParcel_refusalKeeps (kind : DeclKind) (l : Link) (payload : List Byte) (met : State → Fin 6 → Bool)
    (step : Fin 6 → Bool → State → State) : RefusalKeeps s (declareParcel kind l payload met step s) := by
  unfold declareParcel
  split
  · split
    · split
      · exact refusalKeeps_same _
      · split
        · exact refusalKeeps_same _
        · exact decideDeclaration_refusalKeeps _ _ _ _ _ _
    · exact refusalKeeps_same _
  · exact refusalKeeps_same _

theorem declareUnit_refusalKeeps (l : Link) (payload : List Byte) : RefusalKeeps s (declareUnit l payload s) := by
  unfold declareUnit
  split
  · split
    · split
      · split
        · exact decideDeclaration_refusalKeeps _ _ _ _ _ _
        · exact refusalKeeps_same _
      · exact refusalKeeps_same _
    · exact refusalKeeps_same _
  · exact refusalKeeps_same _

theorem suspend_refusalKeeps (l : Link) (payload : List Byte) : RefusalKeeps s (suspendOwner l payload s) := by
  refine onParcel_refusalKeeps (fun p => ?_) payload
  split
  · exact refusalKeeps_taken rfl
  · exact refusalKeeps_same _

theorem transferEnd_refusalKeeps (payload : List Byte) : RefusalKeeps s (transferEndOwner payload s) := by
  refine onParcel_refusalKeeps (fun p => ?_) payload
  split
  · exact refusalKeeps_taken rfl
  · exact refusalKeeps_same _

/-! ### The owners of link requests and of readings -/

theorem status_refusalKeeps (payload : List Byte) : RefusalKeeps s (statusOwner payload s) := by
  unfold statusOwner
  split <;> exact refusalKeeps_same _

theorem counterReset_refusalKeeps (l : Link) (payload : List Byte) :
    RefusalKeeps s (counterResetOwner l payload s) := by
  unfold counterResetOwner
  split
  · exact refusalKeeps_taken rfl
  · exact refusalKeeps_same _

theorem setLinkParameters_refusalKeeps (l : Link) (payload : List Byte) :
    RefusalKeeps s (setLinkParametersOwner l payload s) := by
  unfold setLinkParametersOwner
  split
  · exact refusalKeeps_same _
  · split
    · exact refusalKeeps_taken rfl
    · exact refusalKeeps_same _

theorem postReadings_refusalKeeps (l : Link) (payload : List Byte) :
    RefusalKeeps s (postReadingsOwner l payload s) := by
  unfold postReadingsOwner
  split
  · exact refusalKeeps_same _
  · split
    · exact refusalKeeps_same _
    · exact refusalKeeps_taken rfl

theorem hold_refusalKeeps (l : Link) (payload : List Byte) : RefusalKeeps s (holdOwner l payload s) := by
  unfold holdOwner
  split
  · exact refusalKeeps_taken rfl
  · exact refusalKeeps_same _

theorem releaseHold_refusalKeeps (l : Link) (payload : List Byte) : RefusalKeeps s (releaseHoldOwner l payload s) := by
  unfold releaseHoldOwner
  split
  · split
    · exact refusalKeeps_taken rfl
    · exact refusalKeeps_same _
  · exact refusalKeeps_same _

/-! ### Every request -/

/-- The NOT_READY of R204 leaves the state like every other refusal. -/
theorem ownerDecides_refusalKeeps {owner : State → State × Reply} (howner : RefusalKeeps s (owner s))
    (ready : Readiness) : RefusalKeeps s (ownerDecides ready owner s) := by
  cases ready with
  | always => exact howner
  | whenRunning =>
    simp only [ownerDecides]
    split
    · exact howner
    · exact refusalKeeps_same _

end

/-- A command that is a request frame does what the taking of its request does, with an owner whose refusals leave the
state it decides in. -/
theorem exec_request_refusalKeeps {c : Instr} {r : Request} (h : requestOf c = some r) (s : State) :
    ∃ owner, (∀ w, RefusalKeeps w (owner w))
      ∧ exec c s = .next (takeRequest r.link r.code r.tag r.payload r.counted r.ready owner s) := by
  have read : ∀ {owner : State → State × Reply}, (∀ w, (owner w).1 = w) → ∀ w, RefusalKeeps w (owner w) :=
    fun same w _ => same w
  cases c
  case status l tag payload => cases h; exact ⟨_, fun _ => status_refusalKeeps payload, rfl⟩
  case counterReset l tag payload => cases h; exact ⟨_, fun _ => counterReset_refusalKeeps l payload, rfl⟩
  case setLinkParameters l tag payload => cases h; exact ⟨_, fun _ => setLinkParameters_refusalKeeps l payload, rfl⟩
  case postReadings l tag payload => cases h; exact ⟨_, fun _ => postReadings_refusalKeeps l payload, rfl⟩
  case proposeBegin l tag payload => cases h; exact ⟨_, fun _ => proposeBegin_refusalKeeps l payload, rfl⟩
  case proposeSegment l tag payload => cases h; exact ⟨_, fun _ => proposeSegment_refusalKeeps l payload, rfl⟩
  case endorse l tag payload => cases h; exact ⟨_, fun _ => endorse_refusalKeeps l payload, rfl⟩
  case decline l tag payload => cases h; exact ⟨_, fun _ => decline_refusalKeeps l payload, rfl⟩
  case withdrawPending l tag payload => cases h; exact ⟨_, fun _ => withdrawPending_refusalKeeps l payload, rfl⟩
  case withdrawCurrent l tag payload => cases h; exact ⟨_, fun _ => withdrawCurrent_refusalKeeps l payload, rfl⟩
  case readRecordState l tag payload => cases h; exact ⟨_, read (readRecordState_same l payload), rfl⟩
  case declareOpen l tag payload => cases h; exact ⟨_, fun _ => declareParcel_refusalKeeps .opening l payload _ _, rfl⟩
  case declareResume l tag payload => cases h; exact ⟨_, fun _ => declareParcel_refusalKeeps .resume l payload _ _, rfl⟩
  case declareClose l tag payload => cases h; exact ⟨_, fun _ => declareParcel_refusalKeeps .closing l payload _ _, rfl⟩
  case declareAbandon l tag payload =>
    cases h; exact ⟨_, fun _ => declareParcel_refusalKeeps .abandon l payload _ _, rfl⟩
  case declareRelease l tag payload =>
    cases h; exact ⟨_, fun _ => declareParcel_refusalKeeps .release l payload _ _, rfl⟩
  case declareCallClear l tag payload => cases h; exact ⟨_, fun _ => declareUnit_refusalKeeps l payload, rfl⟩
  case suspend l tag payload => cases h; exact ⟨_, fun _ => suspend_refusalKeeps l payload, rfl⟩
  case transferEnd l tag payload => cases h; exact ⟨_, fun _ => transferEnd_refusalKeeps payload, rfl⟩
  case readTank l tag payload => cases h; exact ⟨_, read (readTank_same l payload), rfl⟩
  case readParcel l part tag payload => cases h; exact ⟨_, read (readParcel_same l part payload), rfl⟩
  case readFinal l part tag payload => cases h; exact ⟨_, read (readFinal_same part payload), rfl⟩
  case readTrail l tag payload => cases h; exact ⟨_, read (readTrail_same payload), rfl⟩
  case hold l tag payload => cases h; exact ⟨_, fun _ => hold_refusalKeeps l payload, rfl⟩
  case releaseHold l tag payload => cases h; exact ⟨_, fun _ => releaseHold_refusalKeeps l payload, rfl⟩
  case unknownRequest l code selector tag payload =>
    simp only [requestOf] at h
    split at h
    next => cases h
    next undefined =>
      cases h
      exact ⟨refuseWith .unknownRequest, fun _ => refusalKeeps_same _, if_neg undefined⟩
  all_goals cases h

/-- Settles O7: the answer held is the one decided, and the state it was decided in is the one the frame left. -/
theorem refusalsChangeNothing : Obligations.RefusalsChangeNothing := by
  intro c r s t a request ready taken answer refused
  obtain ⟨owner, keeps, decides⟩ := exec_request_refusalKeeps request s
  rw [takeRequest_ready ready, taken] at decides
  cases decides
  simp only [answered, setLink_link_same, Controller.answering.injEq] at answer
  subst answer
  have unchanged := ownerDecides_refusalKeeps (keeps (takeFrame r.link r.counted s)) r.ready refused
  refine ⟨rfl, rfl, ?_⟩
  rw [unchanged]

end Sys2Proof.Machine
end

section
/-! Frames (R174, R175, R178 to R185, R203, R204): a request frame that is taken or not, the faults of a frame, and the
gaps. -/

namespace Sys2Proof.Machine

open Sys2Proof

/-! ### What an intact frame does to its link (R180, R183 to R185) -/

/-- Settles O4, part by part. -/
theorem frameTaken : Obligations.FrameTaken := by
  intro l counted s v u restored
  have trail := takeFrame_trail_eq l counted s
  refine ⟨takeFrame_link l counted s, takeFrame_link_other l counted s, fun third => ?_, fun other => ?_,
    takeFrame_frame l counted s⟩
  · rw [if_pos third, Prod.mk.injEq] at trail
    exact trail
  · rw [if_neg other, Prod.mk.injEq] at trail
    exact trail

/-! ### Whether a link receives (R174, R203) -/

theorem receives_iff {s : State} {l : Link} :
    s.receives l = true ↔ s.unit ≠ .inactive ∧ (s.link l).discarding = false := by
  simp [State.receives]

theorem receives_eq_false_iff {s : State} {l : Link} :
    s.receives l = false ↔ s.unit = .inactive ∨ (s.link l).discarding = true := by
  rw [← Bool.not_eq_true, receives_iff]
  simp [imp_iff_not_or]

theorem isBusy_iff {u : LinkUnit} : isBusy u = true ↔ u.controller ≠ .free := bne_iff_ne

theorem isBusy_eq_false_iff {u : LinkUnit} : isBusy u = false ↔ u.controller = .free := by
  rw [← Bool.not_eq_true, isBusy_iff, not_not]

/-! ### The faults of a frame (R174, R178, R179) -/

section

variable {s : State} {l : Link} {f : FrameFault}

theorem faultyFrame_free (free : (s.link l).controller = .free) (inside : f ≠ .trailing) :
    faultyFrame l f s =
      setLink l { s.link l with
        report := markFault f (s.link l).report, discarding := faultDiscards f, restoreCount := 0 } s := by
  have idle := isBusy_eq_false_iff.2 free
  cases f with
  | trailing => exact absurd rfl inside
  | _ => simp [faultyFrame, idle]

/-- On a busy controller the frame is an overrun, whatever else is wrong with it. -/
theorem faultyFrame_busy (busy : (s.link l).controller ≠ .free) (inside : f ≠ .trailing) :
    faultyFrame l f s =
      setLink l { s.link l with
        report := markOverrun (s.link l).report, discarding := faultDiscards f, restoreCount := 0 } s := by
  have busy := isBusy_iff.2 busy
  cases f with
  | trailing => exact absurd rfl inside
  | _ => simp [faultyFrame, busy]

theorem faultDiscards_eq_false_iff : faultDiscards f = false ↔ f = .payloadCrc := by cases f <;> simp [faultDiscards]

theorem exec_damagedFrame (receives : s.receives l = true) (f : FrameFault) :
    exec (.damagedFrame l f) s = .next (faultyFrame l f s) := congrArg Host.Outcome.next (if_pos receives)

theorem exec_damagedFrame_discarded (silent : s.receives l = false) (f : FrameFault) :
    exec (.damagedFrame l f) s = .next s := congrArg Host.Outcome.next (if_neg (by simp [silent]))

theorem exec_overrun (receives : s.receives l = true) : exec (.overrun l) s = .next (overrunFrame l s) :=
  congrArg Host.Outcome.next (if_pos receives)

theorem exec_overrun_discarded (silent : s.receives l = false) : exec (.overrun l) s = .next s :=
  congrArg Host.Outcome.next (if_neg (by simp [silent]))

/-- A gap inside a frame is a LENGTH fault of the frame, and an idle gap that ends the discarding (log 6). -/
theorem exec_idleGapInFrame (active : s.unit ≠ .inactive) :
    exec (.idleGapInFrame l) s =
      .next (endDiscarding l (if (s.link l).discarding then s else faultyFrame l .length s)) := by
  show execIdleGapInFrame l s = _
  rw [execIdleGapInFrame, if_neg active]
  split <;> rfl

end

/-- Settles O10: on a free and on a busy controller by the fault, and while the receiver discards by the gap. -/
theorem faultsReported : Obligations.FaultsReported := by
  intro l s active v
  have gap := exec_idleGapInFrame (l := l) active
  refine ⟨fun ready free => ?_, fun ready => ?_, fun ready busy => ?_, fun discarding => ?_, if_neg active⟩
  · have receives := receives_iff.2 ⟨active, ready⟩
    have fault : ∀ f, f ≠ .trailing → exec (.damagedFrame l f) s =
        .next (setLink l { v with
          report := markFault f v.report, discarding := faultDiscards f, restoreCount := 0 } s) := fun f inside => by
      rw [exec_damagedFrame receives, faultyFrame_free free inside]
    refine ⟨fault .framing (by decide), fault .headerCrc (by decide), fault .length (by decide), ?_, ?_⟩
    · rw [fault .payloadCrc (by decide)]
      simp [faultDiscards, markFault, v, ready]
    · rw [gap, faultyFrame_free free (by decide)]
      simp [endDiscarding, markFault, v, ready]
  · have receives := receives_iff.2 ⟨active, ready⟩
    refine ⟨⟨if Config.trailingClearsRestoreCount then 0 else v.restoreCount, ?_, ?_⟩, exec_overrun receives⟩
    · rw [exec_damagedFrame receives]; rfl
    · split
      · exact .inl rfl
      · exact .inr rfl
  · have receives := receives_iff.2 ⟨active, ready⟩
    refine ⟨fun f inside => ⟨faultDiscards f, ?_, faultDiscards_eq_false_iff⟩, ?_⟩
    · rw [exec_damagedFrame receives, faultyFrame_busy busy inside]; rfl
    · rw [gap, faultyFrame_busy busy (by decide)]
      simp [endDiscarding, markOverrun, v, ready]
  · have silent := receives_eq_false_iff.2 (.inr discarding)
    refine ⟨exec_damagedFrame_discarded silent, exec_overrun_discarded silent, ?_⟩
    rw [gap, if_pos discarding]
    rfl

/-! ### Requests that are not taken (R174, R175, R179, R203, R204) -/

section

variable {l : Link} {payload : List Byte} {s : State}

theorem takeRequest_long (receives : s.receives l = true) (long : 240 < payload.length) (code tag : Byte)
    (counted : Bool) (ready : Readiness) (owner : State → State × Reply) :
    takeRequest l code tag payload counted ready owner s = faultyFrame l .length s := by
  simp [takeRequest, receives, long]

theorem takeRequest_busy (receives : s.receives l = true) (fits : payload.length ≤ 240)
    (busy : (s.link l).controller ≠ .free) (code tag : Byte) (counted : Bool) (ready : Readiness)
    (owner : State → State × Reply) :
    takeRequest l code tag payload counted ready owner s = overrunFrame l s := by
  simp [takeRequest, receives, fits.not_gt, isBusy_iff.2 busy]

end

/-- Settles O5: every request frame goes through the three tests before its owner. -/
theorem requestsNotTaken : Obligations.RequestsNotTaken := by
  intro c r s request
  obtain ⟨owner, run⟩ := exec_request request s
  rw [run]
  refine ⟨fun silent => ?_, fun active ready long free => ?_, fun active ready fits busy => ?_⟩
  · rw [takeRequest_discarded (receives_eq_false_iff.2 silent)]
  · rw [takeRequest_long (receives_iff.2 ⟨active, ready⟩) long, faultyFrame_free free (by decide)]
    rfl
  · rw [takeRequest_busy (receives_iff.2 ⟨active, ready⟩) fits busy]
    rfl

/-- Settles O6: the NOT_READY of R204 stands before the owner, whoever it is. -/
theorem startingAnswersNotReady : Obligations.StartingAnswersNotReady := by
  intro c r s request waits starting ready
  obtain ⟨owner, run⟩ := exec_request request s
  rw [run, waits, takeRequest_starting ready starting]

end Sys2Proof.Machine
end

section
/-! The requests a link controller answers itself (R181, R183, R187, R188, R192), and the response it sends (R176, R179
to R182). -/

namespace Sys2Proof.Machine

open Sys2Proof

/-! ### STATUS, COUNTER RESET and an undefined request (R180, R181, R183, R204) -/

/-- A request answered in every unit state, and not counted, is answered as its owner decides. -/
theorem takeRequest_always_answers {l : Link} {payload : List Byte} {s : State} (h : Ready l payload s)
    {owner : State → State × Reply} {w : State} {r : ResultCode} {body : List Byte}
    (ho : owner (takeFrame l false s) = (w, ⟨r, body⟩)) (code tag : Byte) :
    takeRequest l code tag payload false .always owner s = answered l code tag r body w := by
  rw [takeRequest_always h, ho]

theorem exec_status {l : Link} {tag : Byte} {payload : List Byte} {s w : State} {r : ResultCode} {body : List Byte}
    (h : Ready l payload s) (ho : statusOwner payload (takeFrame l false s) = (w, ⟨r, body⟩)) :
    exec (.status l tag payload) s = .next (answered l 0x01 tag r body w) :=
  congrArg Host.Outcome.next (takeRequest_always_answers h ho 0x01 tag)

theorem exec_counterReset {l : Link} {tag : Byte} {payload : List Byte} {s w : State} {r : ResultCode}
    {body : List Byte} (h : Ready l payload s)
    (ho : counterResetOwner l payload (takeFrame l false s) = (w, ⟨r, body⟩)) :
    exec (.counterReset l tag payload) s = .next (answered l 0x02 tag r body w) :=
  congrArg Host.Outcome.next (takeRequest_always_answers h ho 0x02 tag)

theorem exec_unknownRequest {l : Link} {code selector tag : Byte} {payload : List Byte} {s : State}
    (h : Ready l payload s) (undefined : requestDefined code selector = false) :
    exec (.unknownRequest l code selector tag payload) s =
      .next (answered l code tag .unknownRequest [] (takeFrame l false s)) := by
  show execUnknownRequest l code selector tag payload s = _
  rw [execUnknownRequest, if_neg (by simp [undefined])]
  exact congrArg Host.Outcome.next (takeRequest_always_answers h rfl code tag)

/-- Settles O8: each owner by whether its payload is empty. -/
theorem linkRequestsAnswered : Obligations.LinkRequestsAnswered := by
  intro l tag payload s ready u
  refine ⟨fun empty => ⟨exec_status ready ?_, exec_counterReset ready ?_⟩,
    fun carried => ⟨exec_status ready ?_, exec_counterReset ready ?_⟩, fun _ _ => exec_unknownRequest ready⟩
  · rw [empty]; rfl
  · rw [empty]; rfl
  · rw [statusOwner, if_neg (by simpa using carried)]; rfl
  · rw [counterResetOwner, if_neg (by simpa using carried)]; rfl

/-! ### SET LINK PARAMETERS (R187) -/

theorem parseLinkParameters_eq_none {payload : List Byte} (h : payload.length ≠ 3) :
    parseLinkParameters payload = none := by
  unfold parseLinkParameters
  split
  · exact absurd rfl h
  · rfl

theorem linkParametersInRange_iff {threshold holdTimeout : Nat} :
    linkParametersInRange threshold holdTimeout = true ↔
      1 ≤ threshold ∧ threshold ≤ 63 ∧ 10 ≤ holdTimeout ∧ holdTimeout ≤ 600 := by
  simp [linkParametersInRange, inRange, and_assoc]

/-- The answer body gives the three bytes back that were sent (R187, R192). -/
theorem linkParametersBody_sent (b h0 h1 : Byte) : linkParametersBody b.toNat (ofLe [h0, h1]) = [b, h0, h1] := by
  have threshold : leBytes 1 b.toNat = [b] := leBytes_ofLe [b]
  have holdTimeout : leBytes 2 (ofLe [h0, h1]) = [h0, h1] := leBytes_ofLe [h0, h1]
  rw [linkParametersBody, threshold, holdTimeout]
  rfl

theorem exec_setLinkParameters {l : Link} {tag : Byte} {payload : List Byte} {s w : State} {r : ResultCode}
    {body : List Byte} (h : ReadyRunning l payload s)
    (ho : setLinkParametersOwner l payload (takeFrame l true s) = (w, ⟨r, body⟩)) :
    exec (.setLinkParameters l tag payload) s = .next (answered l 0x03 tag r body w) :=
  congrArg Host.Outcome.next (takeRequest_answers h ho 0x03 tag)

/-- Settles O9: the layout first, then the two ranges. -/
theorem linkParametersSet : Obligations.LinkParametersSet := by
  intro l tag payload s ready u
  refine ⟨fun b h0 h1 sent => ?_, fun length => exec_setLinkParameters ready ?_⟩
  · intro holdTimeout
    have value : ofLe [h0, h1] = holdTimeout := rfl
    have parsed : parseLinkParameters payload = some (b.toNat, holdTimeout) := by rw [sent]; rfl
    refine ⟨fun inside => exec_setLinkParameters ready ?_, fun outside => exec_setLinkParameters ready ?_⟩
    · simp only [setLinkParametersOwner, parsed, if_pos (linkParametersInRange_iff.2 inside)]
      rw [← value, linkParametersBody_sent, sent]
      rfl
    · simp only [setLinkParametersOwner, parsed, if_neg (mt linkParametersInRange_iff.1 outside)]
      rfl
  · rw [setLinkParametersOwner, parseLinkParameters_eq_none length]
    rfl

/-! ### Responses (R176, R179 to R182) -/

theorem statusBlock_length (s : State) (l : Link) : (s.statusBlock l).length = 12 := by simp [State.statusBlock]

theorem exec_responseSend {l : Link} {s : State} {a : Answer} (h : (s.link l).controller = .answering a) :
    exec (.responseSend l) s =
      .next (setLink l { s.link l with
        controller := .sending (responseFrame a (s.responsePayload l a)), report := .empty } s) := by
  show execResponseSend l s = _
  simp only [execResponseSend, h]

theorem exec_responseSent {l : Link} {s : State} {f : List Byte} (h : (s.link l).controller = .sending f) :
    exec (.responseSent l) s = .next (setLink l { s.link l with controller := .free } s) := by
  show execResponseSent l s = _
  simp only [execResponseSent, h]

/-- Settles O11: the block is that of the state in which the answer is sent. -/
theorem responseSentOnce : Obligations.ResponseSentOnce := by
  intro l s v
  refine ⟨fun a answering => ⟨s.statusBlock l, s.responsePayload l a, _, rfl, statusBlock_length s l, rfl, rfl, ?_⟩,
    fun f sending => exec_responseSent sending⟩
  exact exec_responseSend answering

end Sys2Proof.Machine
end

section
/-! Full reset (R196, R198, R202, R203): what is cleared, and what a write cut short leaves in the store. -/

namespace Sys2Proof.Machine

open Sys2Proof

/-! ### A write cut short (R197, R198, R202) -/

theorem storedCopy_eq_none {o : StoreObject} {v : ObjectPlaces} (h : storedCopy o v = none) :
    passingCopy o v.first = none ∧ passingCopy o v.second = none := by
  unfold storedCopy at h
  grind

theorem passingCopy_first_of_stored {o : StoreObject} {v : ObjectPlaces} {c : StoreCopy}
    (h : storedCopy o v = some (true, c)) : passingCopy o v.first = some c := by
  unfold storedCopy at h
  grind

theorem passingCopy_second_of_stored {o : StoreObject} {v : ObjectPlaces} {c : StoreCopy}
    (h : storedCopy o v = some (false, c)) : passingCopy o v.second = some c := by
  unfold storedCopy at h
  grind

/-- The incomplete copy stands in the place that does not hold the stored copy, so the stored copy stays. -/
theorem storedCopy_writePlace_failing (o : StoreObject) (v : ObjectPlaces) :
    storedCopy o (writePlace o .failing v) = storedCopy o v := by
  have failing : passingCopy o .failing = none := rfl
  cases stored : storedCopy o v with
  | none =>
    obtain ⟨-, second⟩ := storedCopy_eq_none stored
    have place : writePlace o .failing v = { v with first := .failing } := by simp [writePlace, writesFirst, stored]
    rw [place]
    simp [storedCopy, failing, second]
  | some found =>
    obtain ⟨isFirst, c⟩ := found
    cases isFirst with
    | true =>
      have first := passingCopy_first_of_stored stored
      have place : writePlace o .failing v = { v with second := .failing } := by simp [writePlace, writesFirst, stored]
      rw [place]
      simp [storedCopy, failing, first]
    | false =>
      have second := passingCopy_second_of_stored stored
      have place : writePlace o .failing v = { v with first := .failing } := by simp [writePlace, writesFirst, stored]
      rw [place]
      simp [storedCopy, failing, second]

theorem beginReset_store_idle {s : State} (h : s.inFlight = none) (cause : ResetCause) :
    (beginReset cause s).store = s.store := by
  show cutWrite s = s.store
  rw [cutWrite, h]

/-- Only the object whose write was in flight has a place changed. -/
theorem beginReset_places {s : State} {x : StoreWrite} (h : s.inFlight = some x) (cause : ResetCause)
    (o : StoreObject) :
    (beginReset cause s).places o =
      if o = x.object then writePlace x.object .failing (s.places x.object) else s.places o := by
  have cut : cutWrite s = (setPlaces x.object (writePlace x.object .failing (s.places x.object)) s).store := by
    rw [cutWrite, h]
    rfl
  rw [← setPlaces_places]
  show (cutWrite s).get _ = _
  rw [cut]
  rfl

/-! ### The two ends of a full reset (R196, R203) -/

theorem exec_fullResetBegin {s : State} (active : s.unit ≠ .inactive) (cause : ResetCause) :
    exec (.fullResetBegin cause) s = .next (beginReset cause s) := congrArg Host.Outcome.next (if_neg active)

/-- Settles O49: the beginning of a reset by what was in flight, and within one the power alone. -/
theorem fullResetClears : Obligations.FullResetClears := by
  intro cause s
  refine ⟨fun active => ⟨beginReset cause s, exec_fullResetBegin active cause, rfl, rfl, Bool.true_and _,
      fun idle => beginReset_store_idle idle cause, fun x flight => ⟨fun o other => ?_, fun o => ?_⟩⟩,
    fun inactive => ⟨congrArg Host.Outcome.next (if_pos inactive), congrArg Host.Outcome.next (if_pos inactive)⟩⟩
  · rw [beginReset_places flight, if_neg other]
  · rw [beginReset_places flight]
    split
    next same => rw [same, storedCopy_writePlace_failing]
    next => rfl

end Sys2Proof.Machine
end

section
/-! The writer of the store (R197, R200, R202): the write taken into flight, the write given, and the write that completes. -/

namespace Sys2Proof.Machine

open Sys2Proof

/-! ### The write taken into flight (R200) -/

theorem startWrite_busy {s : State} {x : StoreWrite} (flight : s.inFlight = some x) : startWrite s = s := by
  rw [startWrite, flight]

/-- An idle writer takes the head of the queue, or stays idle where none waits. -/
theorem startWrite_idle {s : State} (idle : s.inFlight = none) :
    startWrite s = { s with inFlight := s.writeQueue.head?, writeQueue := s.writeQueue.tail } := by
  unfold startWrite
  split
  next queued =>
    rw [queued]
    rfl
  next none_waits =>
    cases queued : s.writeQueue with
    | nil => rw [List.head?_nil, List.tail_nil, ← idle, ← queued]
    | cons y rest => exact absurd queued (none_waits y rest idle)

/-! ### The write given (R200) -/

/-- The queue with the write of `c` for `o` at its tail, in place of the one that waited for `o`. -/
def queueWith (o : StoreObject) (c : StoredContent) (q : List StoreWrite) : List StoreWrite :=
  (q.filter fun w => w.object != o) ++ [{ object := o, content := c }]

theorem giveWrite_busy {s : State} {x : StoreWrite} (flight : s.inFlight = some x) (o : StoreObject)
    (c : StoredContent) : giveWrite o c s = { s with writeQueue := queueWith o c s.writeQueue } :=
  startWrite_busy (s := { s with writeQueue := queueWith o c s.writeQueue }) flight

theorem giveWrite_idle {s : State} (idle : s.inFlight = none) {o : StoreObject} {c : StoredContent} {x : StoreWrite}
    {rest : List StoreWrite} (queued : queueWith o c s.writeQueue = x :: rest) :
    giveWrite o c s = { s with inFlight := some x, writeQueue := rest } := by
  have taken := startWrite_idle (s := { s with writeQueue := queueWith o c s.writeQueue }) idle
  rw [queued] at taken
  rw [giveWrite, ← queueWith, queued, taken]
  rfl

/-! ### The write that completes (R197, R202) -/

theorem completeWrite_idle {s : State} (idle : s.inFlight = none) : completeWrite s = s := by
  rw [completeWrite, idle]

/-- The copy written stands in its place, and the next waiting write is in flight. -/
theorem completeWrite_flight {s : State} {x : StoreWrite} (flight : s.inFlight = some x) :
    completeWrite s =
      { setPlaces x.object (writePlace x.object (.copy (newCopy x (s.places x.object))) (s.places x.object)) s with
        inFlight := s.writeQueue.head?, writeQueue := s.writeQueue.tail } := by
  rw [completeWrite, flight]
  exact startWrite_idle rfl

theorem completeWrite_places {s : State} {x : StoreWrite} (flight : s.inFlight = some x) (o : StoreObject) :
    (completeWrite s).places o =
      if o = x.object then writePlace x.object (.copy (newCopy x (s.places x.object))) (s.places x.object)
      else s.places o := by
  rw [completeWrite_flight flight, ← setPlaces_places]
  rfl

/-- Settles O53: a write given by whether one is in flight, the write that completes by the stored copy of its object. -/
theorem writesComplete : Obligations.WritesComplete := by
  intro s
  refine ⟨fun o c => ⟨queueWith o c s.writeQueue, rfl, fun x flight => giveWrite_busy flight o c,
      fun x rest idle queued => giveWrite_idle idle queued⟩,
    fun idle => congrArg Host.Outcome.next (completeWrite_idle idle),
    fun x flight => ⟨completeWrite s, rfl, ?taken, ?frame, fun o other => ?others, ?written⟩⟩
  case taken =>
    rw [completeWrite_flight flight]
    cases s.writeQueue <;> rfl
  case frame =>
    rw [completeWrite_flight flight]
    rfl
  case others => rw [completeWrite_places flight, if_neg other]
  case written =>
    rw [completeWrite_places flight, if_pos rfl, writePlace, writesFirst, newCopy]
    dsimp only
    cases storedCopy x.object (s.places x.object) <;> rfl

end Sys2Proof.Machine
end

section
/-! The queue of waiting commands (log 7): every operation on a part of the unit leaves it as it stands. -/

namespace Sys2Proof.Machine

open Sys2Proof

section

variable (s : State)

/-! ### The alarm line, tanks, channels and writes -/

@[simp] theorem setAlarm_commands : (setAlarm s).pending = s.pending := rfl

@[simp] theorem startInterval_commands : (startInterval s).pending = s.pending := rfl

@[simp] theorem holdTank_commands (x : TankId) : (holdTank x s).pending = s.pending := setTank_pending ..

@[simp] theorem clearTank_commands (x : TankId) : (clearTank x s).pending = s.pending := setTank_pending ..

@[simp] theorem setAccumulators_commands (m : Fin 4) (a : Option AccumulatorSet) :
    (setAccumulators m a s).pending = s.pending := setChannel_pending ..

@[simp] theorem openChannel_commands (p : Fin 6) (m : Fin 4) : (openChannel p m s).pending = s.pending :=
  setChannel_pending ..

@[simp] theorem takeSample_commands (m : Fin 4) : (takeSample m s).pending = s.pending := by
  rw [takeSample_frame, setChannel_pending]

@[simp] theorem sampleAtClose_commands (p : Fin 6) : (sampleAtClose p s).pending = s.pending := by
  rw [sampleAtClose_frame]

@[simp] theorem giveCheckpoint_commands (p : Fin 6) : (giveCheckpoint p s).pending = s.pending := giveWrite_pending ..

@[simp] theorem removeCheckpoint_commands (p : Fin 6) : (removeCheckpoint p s).pending = s.pending := giveWrite_pending ..

@[simp] theorem removeRecord_commands (k : RecordSlot) : (removeRecord k s).pending = s.pending := giveWrite_pending ..

@[simp] theorem completeWrite_commands : (completeWrite s).pending = s.pending := by
  unfold completeWrite
  split
  · rfl
  · exact startWrite_pending _

/-! ### Links (R174, R178, R179, R182, R184) -/

@[simp] theorem updateReport_commands (l : Link) (f : ErrorReport → ErrorReport) :
    (updateReport l f s).pending = s.pending := setLink_pending ..

@[simp] theorem overrunFrame_commands (l : Link) : (overrunFrame l s).pending = s.pending := setLink_pending ..

@[simp] theorem faultyFrame_commands (l : Link) (f : FrameFault) : (faultyFrame l f s).pending = s.pending := by
  cases f <;> exact setLink_pending ..

@[simp] theorem endDiscarding_commands (l : Link) : (endDiscarding l s).pending = s.pending := setLink_pending ..

@[simp] theorem dropHold_commands (l : Link) : (dropHold l s).pending = s.pending := setLink_pending ..

/-! ### Record slots (R16, R22, R24, R36, R39, R44) -/

@[simp] theorem leaveProposed_commands (p : Fin 6) (m : Option (Fin 4)) (b : Bool) :
    (leaveProposed p m b s).pending = s.pending := by
  rw [leaveProposed, setAlarm_commands, removeCheckpoint_commands, announceFree_pending, emptyParcel_pending]

@[simp] theorem rejectPending_commands (k : RecordSlot) (d : RejectDetail) (b : Bool) :
    (rejectPending k d b s).pending = s.pending := by
  unfold rejectPending
  split
  next => rfl
  next v _ =>
    have removed : (setOutcome k (.rejected d) (setPoolFree (s.poolFree + v.declaredPoints)
        (setSlot k { s.slot k with pending := none } s))).pending = s.pending := setOutcome_pending ..
    dsimp only
    repeat' split
    all_goals simp only [clearTank_commands, leaveProposed_commands, removed]

@[simp] theorem endParcel_commands (p : Fin 6) (b : Bool) : (endParcel p b s).pending = s.pending := by
  rw [endParcel_frame]
  show (parcelReturned p s).pending = s.pending
  rw [parcelReturned_frame]

@[simp] theorem tellWithdrawn_commands (k : RecordSlot) : (tellWithdrawn k s).pending = s.pending := by
  cases k <;> simp [tellWithdrawn]

@[simp] theorem withdrawRecord_commands (k : RecordSlot) : (withdrawRecord k s).pending = s.pending := by
  obtain ⟨p, rfl⟩ | other : (∃ p, k = .parcel p) ∨ ∀ p, k ≠ .parcel p := by cases k <;> simp
  · exact endParcel_commands s p false
  · rw [withdrawRecord_eq other, tellWithdrawn_commands, versionRemoved_frame]

@[simp] theorem tellSuspect_commands (k : RecordSlot) : (tellSuspect k s).pending = s.pending := by
  cases k <;> simp [tellSuspect]

@[simp] theorem auditStep_commands (k : RecordSlot) : (auditStep k s).pending = s.pending := by
  unfold auditStep markSuspect
  repeat' split
  all_goals simp

@[simp] theorem advanceWalk_commands (i : Fin 60) : (advanceWalk i s).pending = s.pending := by
  unfold advanceWalk
  split <;> rfl

@[simp] theorem enterProposed_commands (p : Fin 6) (r : ParcelRecord) : (enterProposed p r s).pending = s.pending := by
  rw [enterProposed_frame]

@[simp] theorem tellEntered_commands (k : RecordSlot) (c : Content) : (tellEntered k c s).pending = s.pending := by
  unfold tellEntered
  repeat' split
  all_goals simp [enterDefined]

@[simp] theorem enterForce_commands (k : RecordSlot) (v : PendingVersion) : (enterForce k v s).pending = s.pending := by
  rw [enterForce, tellEntered_commands, giveRecordWrite, giveWrite_pending, setOutcome_pending]
  rfl

/-! ### Parcel slots (R111, R119 to R133, R136) -/

@[simp] theorem suspendParcel_commands (p : Fin 6) (reason : SuspendReason) :
    (suspendParcel p reason s).pending = s.pending := announce_pending ..

@[simp] theorem settleParcel_commands (p : Fin 6) : (settleParcel p s).pending = s.pending := announce_pending ..

@[simp] theorem resumeParcel_commands (p : Fin 6) : (resumeParcel p s).pending = s.pending := announce_pending ..

@[simp] theorem openParcel_commands (p : Fin 6) : (openParcel p s).pending = s.pending := by
  unfold openParcel
  split
  next => rfl
  next r _ =>
    rw [announce_pending]
    cases r.meter <;> rfl

@[simp] theorem closeParcel_commands (p : Fin 6) : (closeParcel p s).pending = s.pending := by
  unfold closeParcel
  split
  · rw [announce_pending, setParcel_pending, sampleAtClose_commands]
  · rfl

@[simp] theorem abandonParcel_commands (p : Fin 6) (b : Bool) : (abandonParcel p b s).pending = s.pending := by
  unfold abandonParcel
  split
  · exact rejectPending_commands ..
  · exact announce_pending ..

theorem callClearParcel_commands (p : Fin 6) : (callClearParcel p s).pending = s.pending := by
  unfold callClearParcel
  split <;> simp [callClearParcel.removed]

@[simp] theorem callClear_commands : (callClear s).pending = s.pending := by
  have parcels : (allParcels.foldl (fun w p => callClearParcel p w) s).pending = s.pending :=
    foldl_keeps (P := fun w => w.pending = s.pending) (fun w p h => (callClearParcel_commands w p).trans h) allParcels rfl
  have slots : (clearSlots s).pending = s.pending :=
    foldl_keeps (P := fun w => w.pending = s.pending)
      (fun w k h => (removeRecord_commands (emptySlot k w) k).trans h) vesselSlots parcels
  rw [callClear_eq, clearRest_frame, slots]

@[simp] theorem stopTransfers_commands (line : Link) : (stopTransfers line s).pending = s.pending := by
  have suspended : ∀ w p, w.pending = s.pending → (suspendByLine line p w).pending = s.pending := fun w p h => by
    unfold suspendByLine
    split
    · rwa [suspendParcel_commands]
    · exact h
  rw [stopTransfers, appendTrail_pending]
  exact foldl_keeps (P := fun w => w.pending = s.pending) suspended allParcels rfl

theorem evaluateParcel_commands (p : Fin 6) : (evaluateParcel p s).pending = s.pending := by
  unfold evaluateParcel
  split <;> simp

@[simp] theorem evaluateParcels_commands (ps : List (Fin 6)) : (evaluateParcels ps s).pending = s.pending :=
  foldl_keeps (P := fun w => w.pending = s.pending) (fun w p h => (evaluateParcel_commands w p).trans h) ps rfl

/-! ### The engine (R56 to R60) -/

@[simp] theorem removeHead_commands (l : Link) : (removeHead l s).pending = s.pending := setLink_pending l _ s

@[simp] theorem takeTank_commands (l : Link) (x : TankId) (f : TankFields) (arrival : Clock) :
    (takeTank l x f arrival s).pending = s.pending := by
  unfold takeTank
  split <;> simp [keepReading, reportDiscard]

@[simp] theorem takeLine_commands (l : Link) (m : Fin 4) (t : Int) (arrival : Clock) :
    (takeLine l m t arrival s).pending = s.pending := by
  unfold takeLine
  split <;> simp [reportDiscard]

@[simp] theorem takeCondition_commands (f : ConditionFields) (arrival : Clock) :
    (takeCondition f arrival s).pending = s.pending := computeTanks_pending ..

/-! ### The load (R205 to R208) -/

@[simp] theorem dropRecord_commands (k : RecordSlot) (r : DropReason) : (dropRecord k r s).pending = s.pending := by
  rw [dropRecord, removeRecord_commands, appendTrail_pending]

@[simp] theorem placeRecord_commands (k : RecordSlot) (d : Digest) (c : Content) (points : List Breakpoint) :
    (placeRecord k d c points s).pending = s.pending := by
  unfold placeRecord
  split
  · rfl
  · exact dropRecord_commands ..

@[simp] theorem tellReloaded_commands (k : RecordSlot) : (tellReloaded k s).pending = s.pending := by
  cases k <;> simp [tellReloaded]

@[simp] theorem loadRecord_commands (k : RecordSlot) : (loadRecord k s).pending = s.pending := by
  simp only [loadRecord]
  repeat' split
  all_goals simp

@[simp] theorem loadLinkParameters_commands (l : Link) : (loadLinkParameters l s).pending = s.pending := by
  unfold loadLinkParameters
  repeat' split
  all_goals simp

@[simp] theorem dropParcel_commands (p : Fin 6) : (dropParcel p s).pending = s.pending := by
  simp only [dropParcel, discardReloaded]
  split <;> simp

@[simp] theorem freeParcel_commands (p : Fin 6) : (freeParcel p s).pending = s.pending := by
  rw [freeParcel, removeCheckpoint_commands, appendTrail_pending]

@[simp] theorem broughtUp_commands (p : Fin 6) (v : Parcel) (r : ParcelRecord) (a : Option AccumulatorSet) :
    (restoreAccumulators r a (bringUp p v s)).pending = s.pending := by
  rw [restoreAccumulators_frame]
  rfl

@[simp] theorem announceRestored_commands (p : Fin 6) (d : StateDetail) :
    (announceRestored p d s).pending = s.pending := by rw [announceRestored_frame]

@[simp] theorem loadCheckpoint_commands (p : Fin 6) : (loadCheckpoint p s).pending = s.pending := by
  obtain e | e | e | ⟨r, e⟩ | ⟨r, c, e⟩ | ⟨r, c, e⟩ := loadCheckpoint_cases p s <;> rw [e]
  · exact dropParcel_commands ..
  · exact freeParcel_commands ..
  · rw [restoreDefined, announceRestored_commands, broughtUp_commands]
  · rw [restoreSuspended, announceRestored_commands, broughtUp_commands]
  · exact broughtUp_commands ..

@[simp] theorem completeLoad_commands : (completeLoad s).pending = s.pending := by
  rw [completeLoad_frame]
  show (runningState s).pending = s.pending
  rw [runningState_frame]

@[simp] theorem afterCheckpoint_commands (p : Fin 6) : (afterCheckpoint p s).pending = s.pending := by
  unfold afterCheckpoint
  split
  · rfl
  · exact completeLoad_commands s

end

end Sys2Proof.Machine
end

section
/-! The queue of waiting commands along every command and every step (logs 1 and 7). -/

namespace Sys2Proof.Machine

open Sys2Proof

section

variable (s : State)

/-! ### The owners of requests -/

theorem counterReset_commands (l : Link) (payload : List Byte) :
    (counterResetOwner l payload s).1.pending = s.pending := by
  unfold counterResetOwner
  split
  · exact setLink_pending ..
  · rfl

theorem setLinkParameters_commands (l : Link) (payload : List Byte) :
    (setLinkParametersOwner l payload s).1.pending = s.pending := by
  unfold setLinkParametersOwner
  split
  · rfl
  split
  · exact (giveWrite_pending ..).trans (setLink_pending ..)
  · rfl

theorem postReadings_commands (l : Link) (payload : List Byte) :
    (postReadingsOwner l payload s).1.pending = s.pending := by
  unfold postReadingsOwner
  split
  · rfl
  split
  · rfl
  · exact setLink_pending ..

theorem decideProposal_commands (l : Link) (k : RecordSlot) (b : BeginLayout) (c : Content) :
    (decideProposal l k b c s).1.pending = s.pending := by
  unfold decideProposal
  split
  · rfl
  split
  · show (takeProposal l k b c s).pending = s.pending
    simp only [takeProposal]
    repeat' split
    all_goals simp [setPending]
  · exact setOutcome_pending ..

theorem proposeBegin_commands (l : Link) (payload : List Byte) :
    (proposeBeginOwner l payload s).1.pending = s.pending := by
  unfold proposeBeginOwner
  split
  · rfl
  refine onSlot_keeps (P := fun w => w.pending = s.pending) rfl (fun k => ?_) _
  split
  · rfl
  split
  · rfl
  · exact decideProposal_commands ..

theorem decideSegment_commands (l : Link) (k : RecordSlot) (v : PendingVersion) (g : SegmentLayout) :
    (decideSegment l k v g s).1.pending = s.pending := by
  unfold decideSegment
  split
  · exact rejectPending_commands ..
  split
  · rfl
  · show (completeAssembly k v g s).pending = s.pending
    unfold completeAssembly
    repeat' split
    · exact rejectPending_commands ..
    · rfl
    · exact rejectPending_commands ..

theorem proposeSegment_commands (l : Link) (payload : List Byte) :
    (proposeSegmentOwner l payload s).1.pending = s.pending := by
  unfold proposeSegmentOwner
  split
  · rfl
  refine onSlot_keeps (P := fun w => w.pending = s.pending) rfl (fun k => ?_) _
  split
  · rfl
  split
  · rfl
  · exact decideSegment_commands ..
  · rfl

theorem endorse_commands (l : Link) (payload : List Byte) : (endorseOwner l payload s).1.pending = s.pending := by
  unfold endorseOwner
  split
  · rfl
  refine onSlot_keeps (P := fun w => w.pending = s.pending) rfl (fun k => ?_) _
  split
  · rfl
  · show (compareEndorsement k _ s).pending = s.pending
    unfold compareEndorsement
    repeat' split
    · exact enterForce_commands ..
    · exact rejectPending_commands ..
    · rfl

theorem decline_commands (l : Link) (payload : List Byte) : (declineOwner l payload s).1.pending = s.pending := by
  refine onSlot_keeps (P := fun w => w.pending = s.pending) rfl (fun k => ?_) _
  split
  · rfl
  · exact rejectPending_commands ..

theorem withdrawPending_commands (l : Link) (payload : List Byte) :
    (withdrawPendingOwner l payload s).1.pending = s.pending := by
  refine onSlot_keeps (P := fun w => w.pending = s.pending) rfl (fun k => ?_) _
  split
  · rfl
  · exact rejectPending_commands ..

theorem withdrawCurrent_commands (l : Link) (payload : List Byte) :
    (withdrawCurrentOwner l payload s).1.pending = s.pending := by
  refine onSlot_keeps (P := fun w => w.pending = s.pending) rfl (fun k => ?_) _
  split
  · rfl
  · exact withdrawRecord_commands ..

/-- A declaration leaves the queue where its step does. -/
theorem declareParcel_commands {step : Fin 6 → Bool → State → State} (hstep : ∀ p b w, (step p b w).pending = w.pending)
    (kind : DeclKind) (l : Link) (payload : List Byte) (met : State → Fin 6 → Bool) :
    (declareParcel kind l payload met step s).1.pending = s.pending :=
  declareParcel_keeps (P := fun w => w.pending = s.pending) rfl (fun _ => rfl) fun p b _ => hstep p b _

theorem declareUnit_commands (l : Link) (payload : List Byte) : (declareUnit l payload s).1.pending = s.pending :=
  declareUnit_keeps (P := fun w => w.pending = s.pending) rfl (fun _ => rfl) fun _ => callClear_commands _

theorem suspend_commands (l : Link) (payload : List Byte) : (suspendOwner l payload s).1.pending = s.pending := by
  refine onParcel_keeps (P := fun w => w.pending = s.pending) rfl (fun p => ?_) payload
  split
  · exact suspendParcel_commands ..
  · rfl

theorem transferEnd_commands (payload : List Byte) : (transferEndOwner payload s).1.pending = s.pending := by
  refine onParcel_keeps (P := fun w => w.pending = s.pending) rfl (fun p => ?_) payload
  split
  · exact settleParcel_commands ..
  · rfl

theorem hold_commands (l : Link) (payload : List Byte) : (holdOwner l payload s).1.pending = s.pending := by
  unfold holdOwner
  split
  · exact setLink_pending ..
  · rfl

theorem releaseHold_commands (l : Link) (payload : List Byte) :
    (releaseHoldOwner l payload s).1.pending = s.pending := by
  unfold releaseHoldOwner
  repeat' split
  · exact dropHold_commands ..
  · rfl
  · rfl

end

/-! ### The requests -/

/-- The taking of a request leaves the queue where its owner does. -/
theorem takeRequest_commands {owner : State → State × Reply} (howner : ∀ w, (owner w).1.pending = w.pending)
    (r : Request) (s : State) :
    (takeRequest r.link r.code r.tag r.payload r.counted r.ready owner s).pending = s.pending :=
  takeRequest_keeps (P := fun w => w.pending = s.pending) (fun _ _ _ hw => (setLink_pending ..).trans hw)
    (fun _ _ hw => (appendTrail_pending ..).trans hw) (fun w _ hw => (howner w).trans hw) _ _ _ _ _ rfl

/-- A command that is a request frame does what the taking of its request does, with an owner that leaves the queue. -/
theorem exec_request_commands {c : Instr} {r : Request} (h : requestOf c = some r) (s : State) :
    ∃ owner, (∀ w, (owner w).1.pending = w.pending)
      ∧ exec c s = .next (takeRequest r.link r.code r.tag r.payload r.counted r.ready owner s) := by
  have read : ∀ {owner : State → State × Reply}, (∀ w, (owner w).1 = w) → ∀ w, (owner w).1.pending = w.pending :=
    fun same w => congrArg State.pending (same w)
  cases c
  case status l tag payload => cases h; exact ⟨_, read (status_same payload), rfl⟩
  case counterReset l tag payload => cases h; exact ⟨_, (counterReset_commands · l payload), rfl⟩
  case setLinkParameters l tag payload => cases h; exact ⟨_, (setLinkParameters_commands · l payload), rfl⟩
  case postReadings l tag payload => cases h; exact ⟨_, (postReadings_commands · l payload), rfl⟩
  case proposeBegin l tag payload => cases h; exact ⟨_, (proposeBegin_commands · l payload), rfl⟩
  case proposeSegment l tag payload => cases h; exact ⟨_, (proposeSegment_commands · l payload), rfl⟩
  case endorse l tag payload => cases h; exact ⟨_, (endorse_commands · l payload), rfl⟩
  case decline l tag payload => cases h; exact ⟨_, (decline_commands · l payload), rfl⟩
  case withdrawPending l tag payload => cases h; exact ⟨_, (withdrawPending_commands · l payload), rfl⟩
  case withdrawCurrent l tag payload => cases h; exact ⟨_, (withdrawCurrent_commands · l payload), rfl⟩
  case readRecordState l tag payload => cases h; exact ⟨_, read (readRecordState_same l payload), rfl⟩
  case declareOpen l tag payload =>
    cases h; exact ⟨_, (declareParcel_commands · (fun p _ w => openParcel_commands w p) _ l payload _), rfl⟩
  case declareResume l tag payload =>
    cases h; exact ⟨_, (declareParcel_commands · (fun p _ w => resumeParcel_commands w p) _ l payload _), rfl⟩
  case declareClose l tag payload =>
    cases h; exact ⟨_, (declareParcel_commands · (fun p _ w => closeParcel_commands w p) _ l payload _), rfl⟩
  case declareAbandon l tag payload =>
    cases h; exact ⟨_, (declareParcel_commands · (fun p b w => abandonParcel_commands w p b) _ l payload _), rfl⟩
  case declareRelease l tag payload =>
    cases h; exact ⟨_, (declareParcel_commands · (fun p b w => endParcel_commands w p b) _ l payload _), rfl⟩
  case declareCallClear l tag payload => cases h; exact ⟨_, (declareUnit_commands · l payload), rfl⟩
  case suspend l tag payload => cases h; exact ⟨_, (suspend_commands · l payload), rfl⟩
  case transferEnd l tag payload => cases h; exact ⟨_, (transferEnd_commands · payload), rfl⟩
  case readTank l tag payload => cases h; exact ⟨_, read (readTank_same l payload), rfl⟩
  case readParcel l part tag payload => cases h; exact ⟨_, read (readParcel_same l part payload), rfl⟩
  case readFinal l part tag payload => cases h; exact ⟨_, read (readFinal_same part payload), rfl⟩
  case readTrail l tag payload => cases h; exact ⟨_, read (readTrail_same payload), rfl⟩
  case hold l tag payload => cases h; exact ⟨_, (hold_commands · l payload), rfl⟩
  case releaseHold l tag payload => cases h; exact ⟨_, (releaseHold_commands · l payload), rfl⟩
  case unknownRequest l code selector tag payload =>
    simp only [requestOf] at h
    split at h
    next => cases h
    next undefined =>
      cases h
      exact ⟨refuseWith .unknownRequest, fun _ => rfl, if_neg undefined⟩
  all_goals cases h

/-! ### Events and the commands of the load -/

/-- The outcome leaves the queue of `s`. -/
def QueueStays (s : State) : Host.Outcome State Fault Refusal → Prop := NextIs fun t => t.pending = s.pending

@[simp] theorem queueStays_next {s t : State} : QueueStays s (.next t) ↔ t.pending = s.pending := nextIs_next _ t

/-- An event that does something only where its condition holds. -/
theorem queueStays_ite {s t : State} {c : Prop} [Decidable c] (h : t.pending = s.pending) :
    QueueStays s (.next (if c then t else s)) := by
  rw [queueStays_next]
  split
  · exact h
  · rfl

section

variable (s : State) (l : Link)

theorem execIdleGapInFrame_commands : QueueStays s (execIdleGapInFrame l s) := by
  unfold execIdleGapInFrame
  repeat' split
  all_goals simp

theorem execIdleGap_commands : QueueStays s (execIdleGap l s) := by
  unfold execIdleGap
  split <;> simp

theorem execResponseSend_commands : QueueStays s (execResponseSend l s) := by
  unfold execResponseSend
  split <;> simp

theorem execResponseSent_commands : QueueStays s (execResponseSent l s) := by
  unfold execResponseSent
  split <;> simp

theorem execHoldTimerExpiry_commands : QueueStays s (execHoldTimerExpiry l s) := by
  unfold execHoldTimerExpiry
  split <;> simp

theorem execSilenceTimeout_commands : QueueStays s (execSilenceTimeout l s) := by
  unfold execSilenceTimeout
  split <;> simp

theorem execTakeTankReading_commands : QueueStays s (execTakeTankReading s) := by
  unfold execTakeTankReading
  repeat' split
  all_goals simp

theorem execTakeShipCondition_commands : QueueStays s (execTakeShipCondition s) := by
  unfold execTakeShipCondition
  repeat' split
  all_goals simp

theorem execTakeLineConditions_commands : QueueStays s (execTakeLineConditions s) := by
  unfold execTakeLineConditions
  repeat' split
  all_goals simp

theorem execSettleTimerExpiry_commands (p : Fin 6) : QueueStays s (execSettleTimerExpiry p s) := by
  unfold execSettleTimerExpiry
  split <;> simp

theorem execDeclarationLapse_commands (subject : Subject) (kind : DeclKind) :
    QueueStays s (execDeclarationLapse subject kind s) := by
  unfold execDeclarationLapse
  split <;> simp [removeEntry]

theorem execMeterPulse_commands (m : Fin 4) : QueueStays s (execMeterPulse m s) := by
  unfold execMeterPulse
  split <;> simp

theorem execStopLineAsserted_commands : QueueStays s (execStopLineAsserted l s) := by
  unfold execStopLineAsserted
  split
  · exact queueStays_next.2 rfl
  · dsimp only
    split <;> simp

theorem execStopLineCleared_commands : QueueStays s (execStopLineCleared l s) := by
  unfold execStopLineCleared
  split
  · exact queueStays_next.2 rfl
  · dsimp only
    split <;> simp

theorem execStoreLoadRecord_commands : QueueStays s (execStoreLoadRecord s) := by
  unfold execStoreLoadRecord
  repeat' split
  all_goals simp

theorem execStoreLoadLinkParameters_commands : QueueStays s (execStoreLoadLinkParameters s) := by
  unfold execStoreLoadLinkParameters
  repeat' split
  all_goals simp

theorem execStoreLoadCheckpoint_commands : QueueStays s (execStoreLoadCheckpoint s) := by
  unfold execStoreLoadCheckpoint
  repeat' split
  all_goals simp

/-- A full reset clears the unit; the waiting commands are not the unit's own (R203, log 7). -/
theorem execFullResetBegin_commands (cause : ResetCause) : QueueStays s (execFullResetBegin cause s) := by
  unfold execFullResetBegin
  split <;> exact queueStays_next.2 rfl

end

theorem exec_event_commands {c : Instr} (hc : requestOf c = none) (s : State) : QueueStays s (exec c s) := by
  cases c
  case damagedFrame l f => exact queueStays_ite (faultyFrame_commands s l f)
  case overrun l => exact queueStays_ite (overrunFrame_commands s l)
  case idleGapInFrame l => exact execIdleGapInFrame_commands s l
  case idleGap l => exact execIdleGap_commands s l
  case responseSend l => exact execResponseSend_commands s l
  case responseSent l => exact execResponseSent_commands s l
  case holdTimerExpiry l => exact execHoldTimerExpiry_commands s l
  case silenceTimeout l => exact execSilenceTimeout_commands s l
  case takeTankReading => exact execTakeTankReading_commands s
  case takeShipCondition => exact execTakeShipCondition_commands s
  case takeLineConditions => exact execTakeLineConditions_commands s
  case assemblyTimeout k => exact queueStays_ite (rejectPending_commands s k .timeout false)
  case auditTimerExpiry =>
    exact queueStays_ite (by rw [advanceWalk_commands, auditStep_commands, setAuditTimer_pending])
  case auditWalkStep =>
    refine queueStays_next.2 ?_
    split
    · rw [advanceWalk_commands, auditStep_commands]
    · rfl
  case sampleTimerExpiry m => exact queueStays_ite ((setChannel_pending ..).trans (takeSample_commands s m))
  case intervalTimerExpiry =>
    exact queueStays_ite (by rw [startInterval_commands, setAlarm_commands, evaluateParcels_commands])
  case settleTimerExpiry p => exact execSettleTimerExpiry_commands s p
  case declarationLapse subject kind => exact execDeclarationLapse_commands s subject kind
  case meterPulse m => exact execMeterPulse_commands s m
  case stopLineAsserted l => exact execStopLineAsserted_commands s l
  case stopLineCleared l => exact execStopLineCleared_commands s l
  case fullResetBegin cause => exact execFullResetBegin_commands s cause
  case fullResetEnd => exact queueStays_ite rfl
  case storeLoadStart => exact queueStays_ite (appendTrail_pending (.recovery s.resetCause) s)
  case storeLoadRecord => exact execStoreLoadRecord_commands s
  case storeLoadLinkParameters => exact execStoreLoadLinkParameters_commands s
  case storeLoadCheckpoint => exact execStoreLoadCheckpoint_commands s
  case storeWriteComplete => exact queueStays_next.2 (completeWrite_commands s)
  case unknownRequest l code selector tag payload =>
    simp only [requestOf] at hc
    split at hc
    next defined => simp [exec, execUnknownRequest, defined]
    next => cases hc
  all_goals cases hc

/-! ### Every command, and the step -/

theorem exec_commands (c : Instr) (s : State) : QueueStays s (exec c s) := by
  cases hc : requestOf c with
  | some r =>
    obtain ⟨owner, leaves, decides⟩ := exec_request_commands hc s
    rw [decides, queueStays_next]
    exact takeRequest_commands leaves r s
  | none => exact exec_event_commands hc s

theorem step_cons {c : Instr} {rest : List Instr} {s : State} (waits : s.pending = c :: rest) :
    step s = exec c (setPendingCommands rest s) := by rw [step, waits]

theorem step_nil {s : State} (empty : s.pending = []) : step s = .next (tickClock s) := by rw [step, empty]

theorem tickClock_active {s : State} (active : s.unit ≠ .inactive) : tickClock s = { s with clock := s.clock + 1 } :=
  if_neg active

theorem tickClock_inactive {s : State} (inactive : s.unit = .inactive) : tickClock s = s := if_pos inactive

/-- Settles O1: the front command is met by the queue's rest. -/
theorem stepTakesFront : Obligations.StepTakesFront := fun _ _ _ waits => step_cons waits

/-- Settles O2: a request leaves the queue with its owner, an event with its operation; with no command the clock ticks. -/
theorem queueAndClockAreTheModels : Obligations.QueueAndClockAreTheModels :=
  ⟨fun c s t h => exec_commands c s t h, fun _ empty =>
    ⟨fun active => by rw [step_nil empty, tickClock_active active],
      fun inactive => by rw [step_nil empty, tickClock_inactive inactive]⟩⟩

end Sys2Proof.Machine
end
